-- ==== Sys2Proof/Word.lean ====
section
/-! DEFINITION. The words the part works in and the named sets its commands and its state speak of. -/

namespace Sys2Proof

/-- One byte of the line link. -/
abbrev Byte := BitVec 8

/-- A web position W, in counts modulo 2^32 (R2). -/
abbrev Pos := BitVec 32

/-- A position in sub-counts, modulo 2^40 (chapter 2, E_sub). -/
abbrev SubPos := BitVec 40

/-- The foil die cylinder F and the embossing cylinder E. -/
inductive Cyl where
  | f | e
  deriving DecidableEq, Repr

/-- The four foil lanes. -/
inductive Lane where
  | l0 | l1 | l2 | l3
  deriving DecidableEq, Repr

/-- The four foil drives, each one step and direction output pair. -/
inductive Drive where
  | d0 | d1 | d2 | d3
  deriving DecidableEq, Repr

/-- The print-mark sensor PMARK and the foil-mark sensor FMARK. -/
inductive Sensor where
  | print | foil
  deriving DecidableEq, Repr

/-- An edge of CNF_F or CNF_E. With `taken` the sequencer takes it with the command; without, the level
changes, and an event that came together with the edge is taken first (R85, R92; log 35). -/
structure ConfirmEdge where
  cyl   : Cyl
  taken : Bool
  deriving DecidableEq, Repr

/-- What a reception on RXD brings (R163; log 34): RXD falls, as for a start bit; RXD is high again, after a
low stop bit or a falling edge that was no start bit; or a whole character's eight data bits at the middle of
its stop bit. -/
inductive RxData where
  | startBit
  | lineHigh
  | byte (b : Byte)
  deriving DecidableEq, Repr

/-- What cuts a frame off (R168). -/
inductive CutCause where
  | parity | framing | length | idleGap
  deriving DecidableEq, Repr

/-- Items of the Web Timing Unit with one value for the part (R4): numbers 1 to 3. -/
inductive WebItem where
  | encoderDirection | stopThreshold | speedScale
  deriving DecidableEq, Repr

/-- Items of a cylinder's index handling (R14): numbers 4 to 11. -/
inductive IndexItem where
  | phaseSource | indexGate | indexTolerance | missLimit
  deriving DecidableEq, Repr

/-- Items of the Mark Trackers (R32): numbers 16 to 23. -/
inductive MarkItem where
  | printWidthMin | printWidthMax | printGate | acquireCount | coastLimit
  | foilWidthMin | foilWidthMax | foilGate
  deriving DecidableEq, Repr

/-- The geometry items (R49): numbers 32 to 36. -/
inductive GeoItem where
  | dF | dFS | dE | dR | markerWidth
  deriving DecidableEq, Repr

/-- Items of a register loop (R75): numbers 48 to 53 and 56 to 61. -/
inductive LoopItem where
  | gain | deadband | slewLimit | tolerance | amax | runLength
  deriving DecidableEq, Repr

/-- Items of cylinder actuation but the trim interval (R94): numbers 65 to 71. -/
inductive ActItem where
  | engageTimeout (c : Cyl) | releaseTimeout (c : Cyl) | stopDwell | throwOffOnStop | autoResume
  deriving DecidableEq, Repr

/-- Items of a lane but its drive mapping (R144): numbers 81 + 16n to 88 + 16n. -/
inductive LaneItem where
  | ratio | runOut | minDwell | motionWindow | lowThreshold | parkTimeout | checkSteps
  | checkInterval
  deriving DecidableEq, Repr

/-- Every configuration item of the table of R179. -/
inductive Item where
  | web (i : WebItem)
  | index (i : IndexItem) (c : Cyl)
  | mark (i : MarkItem)
  | geo (i : GeoItem)
  | rejectMask
  | loop (i : LoopItem) (c : Cyl)
  | trimInterval
  | act (i : ActItem)
  | mapping (l : Lane)
  | lane (i : LaneItem) (l : Lane)
  | freezeOnFirst
  | alarmMask
  deriving DecidableEq, Repr

/-- The levels of the input pins that a reset reads at its end: the encoder pair (R1), the two
sensors (R34), the confirm inputs (R82) and the straps (R162). -/
structure PinLevels where
  encA  : Bool
  encB  : Bool
  pmark : Bool
  fmark : Bool
  cnfF  : Bool
  cnfE  : Bool
  adr   : BitVec 5
  bdr   : BitVec 2
  deriving DecidableEq, Repr

/-- A window entry as seven bytes carry it (R181): window lane, start, length, tag, enabled. -/
structure WindowBytes where
  lane    : Byte
  start   : BitVec 16
  length  : BitVec 16
  tag     : Byte
  enabled : Byte
  deriving DecidableEq, Repr

end Sys2Proof
end

