-- ==== Sys2Proof/Syntax.lean ====
section
/-! DEFINITION. The commands of the part: one constructor per row of spec/opcode_table.json. The first
twenty-two are events at pins, timers and the line link; then come the host's requests, each with the
raw fields of its body (R177); last the reception of one character. -/

namespace Sys2Proof

/-- The commands. Requests stand for one well-formed frame to this station (or, where a flag says so,
a broadcast); their byte operands may hold values that R176 refuses. -/
inductive Instr where
  /-- R1: the encoder pair changes to the levels `a`, `b`. -/
  | encoderTransition (a b : Bool)
  /-- R3: a speed gate ends. -/
  | speedGateEnd
  /-- R10: a rising edge of IDX_F or IDX_E. -/
  | indexArrival (c : Cyl)
  /-- R19: a rising edge of PMARK or FMARK. -/
  | markLeadingEdge (x : Sensor)
  /-- R20: a falling edge of PMARK or FMARK. -/
  | markTrailingEdge (x : Sensor)
  /-- R78: the SPACE of a trim emitter ends. -/
  | spaceEnd (c : Cyl)
  /-- R78: the step time of a trim emitter is over. -/
  | stepTimeEnd (c : Cyl)
  /-- R85: a rising edge of CNF_F or CNF_E. -/
  | confirmRise (c : ConfirmEdge)
  /-- R86: a falling edge of CNF_F or CNF_E. -/
  | confirmFall (c : ConfirmEdge)
  /-- R85: an engage timer expires. -/
  | engageTimerExpiry (c : Cyl)
  /-- R87: a release timer expires. -/
  | releaseTimerExpiry (c : Cyl)
  /-- R90: the stop dwell timer of F expires. -/
  | stopDwellExpiry
  /-- R133: a rising edge of FMOTn. -/
  | motionPulse (l : Lane)
  /-- R141: a lane's check timer expires. -/
  | checkTimerExpiry (l : Lane)
  /-- R164: the quiet time reaches 20 bit times. -/
  | idleGap
  /-- R167: a whole frame arrives, led by its idle gap: its DEST, KIND and body, and the received
  CHECK. LEN is the number of body bytes. -/
  | frameReceived (dest kind : Byte) (body : List Byte) (check : BitVec 16)
  /-- R168: the frame being received is cut off. -/
  | frameCutOff (cause : CutCause)
  /-- R172: a character is seen during the reply wait. -/
  | overlap
  /-- R171: the reply wait of 22 bit times ends. -/
  | replyWaitEnd
  /-- R174: the stop bit of the reply's last CHECK byte ends. The strap levels are read only when a
  RESTART at level FULL takes effect here (R162). -/
  | replyEnd (adr : BitVec 5) (bdr : BitVec 2)
  /-- R17: the RESET input; `p` holds the input levels at the end of the reset. -/
  | resetInput (p : PinLevels)
  /-- R17: power-on; `p` holds the input levels at the end of the reset. -/
  | powerOn (p : PinLevels)
  /-- R178. -/
  | statusRead
  /-- R179: a CONFIG WRITE of an item number that no other row writes. -/
  | configWrite (item : Byte) (value : BitVec 32)
  /-- R4. -/
  | webTimingConfigWrite (i : WebItem) (value : BitVec 32)
  /-- R14. -/
  | indexConfigWrite (i : IndexItem) (c : Cyl) (value : BitVec 32)
  /-- R32. -/
  | markConfigWrite (i : MarkItem) (value : BitVec 32)
  /-- R49. -/
  | geometryWrite (i : GeoItem) (value : BitVec 32)
  /-- R51. -/
  | rejectMaskWrite (value : BitVec 32)
  /-- R75. -/
  | loopConfigWrite (i : LoopItem) (c : Cyl) (value : BitVec 32)
  /-- R81. -/
  | trimIntervalWrite (value : BitVec 32)
  /-- R94. -/
  | actuationConfigWrite (i : ActItem) (value : BitVec 32)
  /-- R120. -/
  | driveMappingWrite (l : Lane) (value : BitVec 32)
  /-- R144. -/
  | laneConfigWrite (i : LaneItem) (l : Lane) (value : BitVec 32)
  /-- R159. -/
  | freezeOnFirstWrite (value : BitVec 32)
  /-- R154. -/
  | alarmMaskWrite (value : BitVec 32)
  /-- R179. -/
  | configRead (item : Byte)
  /-- R122: a lane and the anchors a0 to a7. -/
  | curveWrite (lane : Byte) (anchors : List (BitVec 16))
  /-- R180. -/
  | curveRead (lane : Byte)
  /-- R97, R181: the eight sheet parameters. -/
  | sheetParamWrite (lSub tF tE : BitVec 24) (throwF throwE : BitVec 16) (use ref : Byte)
  /-- R100: a start index and one to eight entries. -/
  | windowWrite (start : Byte) (entries : List WindowBytes)
  /-- R101. -/
  | windowRead (table start count : Byte)
  /-- R102, R182. -/
  | windowEdit (laneC tagC enabledC mask newLane newTag newEnabled : Byte) (shift : BitVec 16)
  /-- R104. -/
  | sheetCopyBack
  /-- R105. -/
  | sheetClear
  /-- R106: addressed, or a broadcast (R112). -/
  | commit (broadcast : Bool)
  /-- R98. -/
  | sheetParamRead (sheet : Byte)
  /-- R83. -/
  | engage (cyl : Byte)
  /-- R89: a cylinder set, addressed or a broadcast. -/
  | disengage (set : Byte) (broadcast : Bool)
  /-- R68. -/
  | loopMode (cyl mode : Byte)
  /-- R70. -/
  | nudge (cyl : Byte) (delta : BitVec 16)
  /-- R71. -/
  | trimMove (cyl : Byte) (move : BitVec 16)
  /-- R72. -/
  | trimZero (cyl : Byte)
  /-- R74. -/
  | loopRead (cyl : Byte)
  /-- R137. -/
  | lanePark (lane : Byte)
  /-- R139. -/
  | laneRelease (lane : Byte)
  /-- R130. -/
  | rollLoad (lane : Byte) (steps : BitVec 32)
  /-- R140. -/
  | laneCheck (lane : Byte)
  /-- R143. -/
  | laneRead (lane : Byte)
  /-- R52, R185. -/
  | trackRead (selector : Byte) (serial : BitVec 16) (count : Byte)
  /-- R48. -/
  | trackFlush
  /-- R158. -/
  | faultRead
  /-- R155, R186. -/
  | faultClear (codes : BitVec 16) (option : Byte)
  /-- R186. -/
  | countersRead
  /-- R186. -/
  | countersClear
  /-- R187. -/
  | restart (level : Byte)
  /-- R163: a character at the middle of its stop bit: eight data bits, parity bit, stop bit; or a fall or a
  rise of RXD outside a character, with which the two bits say nothing (log 34). -/
  | characterReceived (data : RxData) (parity stop : Bool)
  deriving DecidableEq, Repr

end Sys2Proof
end

