-- ==== Sys2Proof/Config.lean ====
section
/-! DEFINITION. What the part fixes: the constants of its rules, and the free values, which the spec
leaves open and which no definition here evaluates. -/

namespace Sys2Proof.Config

/-- R1 and throughout: counters saturate at 65,535. -/
def counterMax : Nat := 65535

/-- R6: H saturates at 33,554,431. -/
def holdMax : Nat := 33554431

/-- R3: a speed gate is 4,096 ticks of the timebase. -/
def gateTicks : Nat := 4096

/-- R3: the speed index is limited to 63. -/
def speedMax : Nat := 63

/-- R36: the track holds at most 64 records. -/
def trackMax : Nat := 64

/-- Chapter 6: the window table has 48 entries. -/
def windowSlots : Nat := 48

/-- R106 check 8: a lane has at most 12 base spans. -/
def spanMax : Nat := 12

/-- R70: the nudge lies in -1,000..1,000. -/
def nudgeMax : Int := 1000

/-- R138: the park timer holds at 250. -/
def parkMax : Nat := 250

/-- Timers in milliseconds count 1,000 ticks each (00, "Time"). -/
def msTicks : Nat := 1000

/-- Link times are kept in millionths of a bit time: one bit time. -/
def bitUnits : Int := 1000000

/-- R163: from the middle of a stop bit to the end of the character. -/
def halfBit : Int := 500000

/-- R163: an idle gap is 20 bit times of quiet. -/
def gapUnits : Int := 20000000

/-- R171: the reply wait is 22 bit times. -/
def waitUnits : Int := 22000000

/-- R163: a character is eleven bit times long. -/
def charUnits : Int := 11000000

/-- The LEAD byte of a frame (9.2). -/
def lead : Byte := 0xC3#8

/-- The DEST byte of a broadcast (R165). -/
def broadcastDest : Byte := 0x7F#8

/-- R9.2: at most 250 body bytes. -/
def bodyMax : Nat := 250

/-- FREE VALUE, DESIGN CHOICE (log 15): what the run step counter holds after a step that finds it at
65,535. The spec gives the counter the range 0..65,535 and no value past it. Applied to the model's
own counter `State.free`. -/
opaque runStepsPast : Nat → Nat

/-- FREE VALUE, DESIGN CHOICE (log 16): what the revolution step tally holds after a step that finds
it at 16,777,215. Applied to `State.free`. -/
opaque tallyPast : Nat → Nat

/-- FREE VALUE, DESIGN CHOICE (log 17): what the two-byte field of LANE READ sends when a check has
counted more than 65,535 motion pulses. -/
opaque checkPulsesField : Nat → Nat

end Sys2Proof.Config
end

