-- ==== Sys2Proof/Machine/State.lean ====
section
/-! DEFINITION. The state of the part as plain data: every item of the blocks' state tables, every
configuration item, every output level, and the queue of commands that wait. `State.reset` is the part
right after a FULL reset at power-on. -/

namespace Sys2Proof.Machine

/-! ## Pairs and quadruples of like things -/

/-- One value per cylinder. -/
structure PerCyl (α : Type) where
  f : α
  e : α
  deriving DecidableEq, Repr

def PerCyl.get {α : Type} (p : PerCyl α) : Cyl → α
  | .f => p.f
  | .e => p.e

def PerCyl.set {α : Type} (p : PerCyl α) (c : Cyl) (x : α) : PerCyl α :=
  match c with
  | .f => { p with f := x }
  | .e => { p with e := x }

/-- One value per lane. -/
structure PerLane (α : Type) where
  l0 : α
  l1 : α
  l2 : α
  l3 : α
  deriving DecidableEq, Repr

def PerLane.get {α : Type} (p : PerLane α) : Lane → α
  | .l0 => p.l0
  | .l1 => p.l1
  | .l2 => p.l2
  | .l3 => p.l3

def PerLane.set {α : Type} (p : PerLane α) (l : Lane) (x : α) : PerLane α :=
  match l with
  | .l0 => { p with l0 := x }
  | .l1 => { p with l1 := x }
  | .l2 => { p with l2 := x }
  | .l3 => { p with l3 := x }

def PerLane.map {α β : Type} (g : Lane → α → β) (p : PerLane α) : PerLane β :=
  ⟨g .l0 p.l0, g .l1 p.l1, g .l2 p.l2, g .l3 p.l3⟩

/-- One value per foil drive. -/
structure PerDrive (α : Type) where
  d0 : α
  d1 : α
  d2 : α
  d3 : α
  deriving DecidableEq, Repr

def PerDrive.get {α : Type} (p : PerDrive α) : Drive → α
  | .d0 => p.d0
  | .d1 => p.d1
  | .d2 => p.d2
  | .d3 => p.d3

def PerDrive.set {α : Type} (p : PerDrive α) (d : Drive) (x : α) : PerDrive α :=
  match d with
  | .d0 => { p with d0 := x }
  | .d1 => { p with d1 := x }
  | .d2 => { p with d2 := x }
  | .d3 => { p with d3 := x }

/-- One value per mark sensor. -/
structure PerSensor (α : Type) where
  print : α
  foil  : α
  deriving DecidableEq, Repr

def PerSensor.get {α : Type} (p : PerSensor α) : Sensor → α
  | .print => p.print
  | .foil => p.foil

def PerSensor.set {α : Type} (p : PerSensor α) (x : Sensor) (v : α) : PerSensor α :=
  match x with
  | .print => { p with print := v }
  | .foil => { p with foil := v }

/-! ## Web Timing Unit (chapter 1) -/

inductive Direction where
  | forward | reverse
  deriving DecidableEq, Repr

inductive PhaseSource where
  | index | reckon
  deriving DecidableEq, Repr

/-- The web side of the Web Timing Unit. -/
structure Web where
  w         : Pos
  dir       : Direction
  /-- the reference state of the encoder pair (R1) -/
  encA      : Bool
  encB      : Bool
  tally     : Int
  v         : Int
  stopped   : Bool
  speed     : Nat
  encErrors : Nat
  /-- the instant at which the running speed gate ends (R3) -/
  gateEnd   : Nat
  deriving DecidableEq, Repr

/-- One phase generator. -/
structure Phase where
  phi       : Nat
  /-- phi as published with the last count (R2, R59) -/
  pub       : Nat
  hold      : Nat
  armed     : Bool
  missOpen  : Bool
  missCount : Nat
  indexLost : Bool
  lastDev   : Int
  arrivals  : Nat
  deriving DecidableEq, Repr

/-! ## Mark Trackers (chapter 2) -/

inductive QualState where
  | waiting | measuring | discarding
  deriving DecidableEq, Repr

/-- A sensor's qualifier, with the reject and stray counters of the sensor. -/
structure Qual where
  state   : QualState
  lead    : Pos
  min     : Nat
  max     : Nat
  rejects : Nat
  strays  : Nat
  deriving DecidableEq, Repr

inductive TrackerState where
  | idle | search | locked | coast | lost
  deriving DecidableEq, Repr

structure Tracker where
  state   : TrackerState
  eSub    : SubPos
  k       : Nat
  q       : Pos
  coast   : Nat
  waiting : Bool
  deriving DecidableEq, Repr

/-! ## Label Track (chapter 3) -/

inductive Origin where
  | marked | predicted
  deriving DecidableEq, Repr

inductive Verdict where
  | pending | good | reject
  deriving DecidableEq, Repr

inductive RefUsed where
  | print | foil | fallback
  deriving DecidableEq, Repr

/-- The nine reasons, in the order of their bits (R175). -/
inductive Reason where
  | unregistered | fNoMeasure | fOor | fOff | laneParked | eNoMeasure | eOor | eOff | eFallback
  deriving DecidableEq, Repr

/-- A set of reasons; bit n as R175 numbers them. -/
abbrev Reasons := BitVec 9

structure LabelRecord where
  serial  : BitVec 16
  origin  : Origin
  r       : Pos
  width   : Option Nat
  gen     : Option Nat
  fOn     : Option Bool
  parked  : PerLane Bool
  eF      : Option Int
  cF      : Option Int
  /-- MF and the offset o (R30) -/
  foil    : Option (Pos × Int)
  refUsed : Option RefUsed
  eE      : Option Int
  cE      : Option Int
  reasons : Reasons
  verdict : Verdict
  deriving DecidableEq, Repr

/-- The track. A cursor is the index, from the oldest, of the record its station has not yet served;
it stands on no record when it equals the number of records. The removal cursor is always the oldest
record (R46). -/
structure Track where
  records    : List LabelRecord
  nextSerial : BitVec 16
  nip        : Nat
  gate       : Nat
  emboss     : Nat
  marker     : Nat
  gateHeld   : Bool
  good       : Nat
  bad        : Nat
  overflow   : Nat
  rej        : Bool
  deriving DecidableEq, Repr

/-! ## Register Loops (chapter 4) and Trim Emitters (chapter 5) -/

inductive LoopMode where
  | off | measure | auto
  deriving DecidableEq, Repr

structure Loop where
  mode       : LoopMode
  nudge      : Int
  a          : Int
  p          : Int
  n          : Int
  run        : Nat
  lastSerial : Option (BitVec 16)
  lastErr    : Option Int
  lastCorr   : Option Int
  deriving DecidableEq, Repr

inductive EmitState where
  | idle | step | space
  deriving DecidableEq, Repr

inductive TrimDir where
  | advance | retard
  deriving DecidableEq, Repr

/-- A trim emitter. `lastStep` and `lastTurn` are `none` when they are far enough past to delay no
pulse (R81). -/
structure Emitter where
  state    : EmitState
  tstp     : Bool
  tdir     : TrimDir
  t        : Nat
  lastStep : Option Nat
  lastTurn : Option Nat
  deriving DecidableEq, Repr

/-! ## Impression Sequencers (chapter 5) -/

inductive SeqState where
  | off | waitPhase | engaging | on | releasing
  deriving DecidableEq, Repr

inductive ThrowCause where
  | none | host | stop | fault | sheet | engageTimeout | confirmLost
  deriving DecidableEq, Repr

structure Sequencer where
  state   : SeqState
  imp     : Bool
  /-- expiry instant of the engage timer, or stopped -/
  engage  : Option Nat
  /-- expiry instant of the release timer, or stopped -/
  release : Option Nat
  cause   : ThrowCause
  deriving DecidableEq, Repr

/-! ## Job Sheet Store (chapter 6) -/

inductive EmbossRef where
  | print | foil
  deriving DecidableEq, Repr

structure SheetParams where
  lSub   : Nat
  tF     : Nat
  tE     : Nat
  throwF : Nat
  throwE : Nat
  usesF  : Bool
  usesE  : Bool
  ref    : EmbossRef
  deriving DecidableEq, Repr

structure Window where
  lane    : Lane
  start   : Nat
  length  : Nat
  tag     : Nat
  enabled : Bool
  deriving DecidableEq, Repr

/-- A half-open interval [start, stop) of counts within the repeat. -/
structure Span where
  start : Nat
  stop  : Nat
  deriving DecidableEq, Repr

/-- The sheet the host edits. A window entry is `none` when it is VACANT (R99). -/
structure Staged where
  params  : SheetParams
  windows : List (Option Window)
  deriving DecidableEq, Repr

/-- A compiled sheet (R108, R109). -/
structure Sheet where
  params  : SheetParams
  windows : List (Option Window)
  gen     : Nat
  spans   : PerLane (List Span)
  deriving DecidableEq, Repr

/-- The result codes (R173). -/
inductive Result where
  | ok | pending | late | part | clamped | already | superseded
  | unknownKind | badLength | badValue | badState | busy | sheetInvalid | laneFault
  | notConfigured | running | duplicate | noSheet | foilOut
  deriving DecidableEq, Repr

structure CommitRecord where
  result : Result
  reason : Nat
  window : Nat
  gen    : Option Nat
  deriving DecidableEq, Repr

structure Sheets where
  staged     : Staged
  pending    : Option Sheet
  active     : Option Sheet
  lastGen    : Nat
  lastCommit : Option CommitRecord
  deriving DecidableEq, Repr

/-! ## Lane Controllers (chapter 7) -/

inductive LaneState where
  | disabled | dwell | run | parked | check | faulted
  deriving DecidableEq, Repr

inductive CheckResult where
  | none | pass | fail | aborted
  deriving DecidableEq, Repr

structure CheckRecord where
  done   : Bool
  result : CheckResult
  steps  : Nat
  pulses : Nat
  deriving DecidableEq, Repr

structure LaneCtl where
  state       : LaneState
  leads       : List Nat
  runList     : List Span
  hold        : Bool
  run         : Option Span
  ratioNow    : Nat
  acc         : Nat
  runSteps    : Nat
  tally       : Nat
  lastRev     : Nat
  foil        : Nat
  motion      : Nat
  parkPending : Bool
  parkTimer   : Nat
  parkExpired : Bool
  check       : CheckRecord
  /-- next instant of the check timer, or stopped -/
  checkTimer  : Option Nat
  checkSteps  : Nat
  checkEvery  : Nat
  clipped     : Nat
  deriving DecidableEq, Repr

/-- The outputs of a foil drive: the level of FDIR, and how many pulses have gone out on FSTP (the
model's own record of that output, log 25). -/
structure DriveOut where
  fdir   : Bool
  pulses : Nat
  deriving DecidableEq, Repr

/-! ## Fault Unit (chapter 8) -/

/-- The twelve fault codes, in the order of their numbers. -/
inductive FaultCode where
  | foilBreak | foilOut | engageTimeout | releaseTimeout | confirmLost | markLost | indexLost
  | indexDeviation | trimLimit | parkExpired | registerRun | foilLow
  deriving DecidableEq, Repr

inductive FaultSource where
  | cyl (c : Cyl)
  | lane (l : Lane)
  | tracker
  deriving DecidableEq, Repr

/-- A set of fault codes; bit n - 1 for code number n (R175). -/
abbrev FaultSet := BitVec 12

structure FaultRecord where
  code    : FaultCode
  source  : FaultSource
  serial  : Option (BitVec 16)
  value   : Int
  w       : Pos
  again   : Bool
  deriving DecidableEq, Repr

structure FaultUnit where
  flags  : FaultSet
  record : Option FaultRecord
  alm    : Bool
  deriving DecidableEq, Repr

/-! ## Link Port (chapter 9) -/

inductive RxState where
  | waitIdle | hunt | dest | len | kind | body | check | skip | discard
  deriving DecidableEq, Repr

inductive FrameClass where
  | addressed | broadcast
  deriving DecidableEq, Repr

inductive RestartLevel where
  | runtime | full
  deriving DecidableEq, Repr

structure Link where
  own          : BitVec 5
  baud         : Nat
  rx           : RxState
  cls          : FrameClass
  dest         : Byte
  len          : Nat
  kind         : Byte
  body         : List Byte
  sum          : BitVec 16
  checkHi      : Option Byte
  /-- millionths of a bit time; below 0 while a stop bit still runs (R163) -/
  quiet        : Int
  /-- RXD has left its rest level: it fell for a start bit whose character is yet to come, or the last stop
  bit was low and RXD has not risen since (R163; log 34) -/
  rxBusy       : Bool
  replyPending : Bool
  overlapSeen  : Bool
  image        : List Byte
  txen         : Bool
  txd          : List (BitVec 11)
  waitLeft     : Int
  txLeft       : Int
  restart      : Option RestartLevel
  good         : Nat
  checkErrors  : Nat
  charErrors   : Nat
  overlaps     : Nat
  ignored      : Nat
  deriving DecidableEq, Repr

/-! ## Configuration items (R179) -/

structure WebItems where
  inverted  : Bool
  threshold : Nat
  scale     : Nat
  deriving DecidableEq, Repr

structure IndexItems where
  source : PhaseSource
  gate   : Nat
  tol    : Nat
  limit  : Nat
  deriving DecidableEq, Repr

structure MarkItems where
  pwMin      : Nat
  pwMax      : Nat
  gP         : Nat
  acquire    : Nat
  coastLimit : Nat
  fwMin      : Nat
  fwMax      : Nat
  gF         : Nat
  deriving DecidableEq, Repr

structure GeoItems where
  dF          : Nat
  dFS         : Nat
  dE          : Nat
  dR          : Nat
  markerWidth : Nat
  deriving DecidableEq, Repr

structure LoopItems where
  gain      : Nat
  deadband  : Nat
  slew      : Nat
  tol       : Nat
  amax      : Nat
  runLength : Nat
  deriving DecidableEq, Repr

structure ActItems where
  trimInterval : Nat
  engage       : PerCyl Nat
  release      : PerCyl Nat
  stopDwell    : Nat
  throwOff     : Bool
  autoResume   : Bool
  deriving DecidableEq, Repr

structure LaneItems where
  drive         : Option Drive
  ratio         : Nat
  runOut        : Nat
  minDwell      : Nat
  window        : Nat
  low           : Nat
  parkTimeout   : Nat
  checkSteps    : Nat
  checkInterval : Nat
  anchors       : List Nat
  deriving DecidableEq, Repr

structure Items where
  web        : WebItems
  index      : PerCyl IndexItems
  mark       : MarkItems
  geo        : GeoItems
  rejectMask : Reasons
  loop       : PerCyl LoopItems
  act        : ActItems
  lane       : PerLane LaneItems
  freeze     : Bool
  alarmMask  : FaultSet
  deriving DecidableEq, Repr

/-- Levels last seen on the inputs that a rule reads as levels (R34, R82). -/
structure Inputs where
  pmark : Bool
  fmark : Bool
  cnf   : PerCyl Bool
  /-- an edge of CNF has come and its sequencer has yet to take it (R85, R92; log 35) -/
  edge  : PerCyl Bool
  deriving DecidableEq, Repr

end Sys2Proof.Machine

namespace Sys2Proof.Machine

/-- The whole part. -/
structure State where
  now           : Nat
  inputs        : Inputs
  web           : Web
  phase         : PerCyl Phase
  qual          : PerSensor Qual
  tracker       : Tracker
  track         : Track
  loop          : PerCyl Loop
  emit          : PerCyl Emitter
  seq           : PerCyl Sequencer
  stopDwell     : Option Nat
  resume        : Bool
  sheets        : Sheets
  lane          : PerLane LaneCtl
  drives        : PerDrive DriveOut
  faults        : FaultUnit
  link          : Link
  configDefault : Bool
  items         : Items
  free          : Nat
  pending       : List Instr
  deriving DecidableEq, Repr

/-- Reasons the part could stop for. There are none: no rule of the spec stops the part, and a
condition that it calls a fault (chapter 8) sets flags and a record and lets it go on. Nothing raises
one, which is safe. -/
inductive Fault where
  deriving DecidableEq, Repr

/-- Reasons a command could be refused for by the model. -/
inductive Refusal where
  /-- Raised by an arm of `exec` for a command that has no meaning yet; no arm does. Safe: the model
  stops where the part goes on. -/
  | notModelled (mnemonic : String)
  deriving DecidableEq, Repr

/-! ## The state after a FULL reset -/

/-- R17. -/
def resetPhase : Phase :=
  { phi := 0, pub := 0, hold := 0, armed := true, missOpen := false, missCount := 0,
    indexLost := false, lastDev := 0, arrivals := 0 }

/-- R17; the gate starts anew. -/
def resetWeb : Web :=
  { w := 0, dir := .forward, encA := false, encB := false, tally := 0, v := 0, stopped := true,
    speed := 0, encErrors := 0, gateEnd := Config.gateTicks }

/-- R34, with the input low; the latched limits are the items' (DESIGN CHOICE, log 21). -/
def resetQual (min max : Nat) : Qual :=
  { state := .waiting, lead := 0, min := min, max := max, rejects := 0, strays := 0 }

/-- R34. -/
def resetTracker : Tracker :=
  { state := .idle, eSub := 0, k := 0, q := 0, coast := 0, waiting := false }

/-- R55. -/
def resetTrack : Track :=
  { records := [], nextSerial := 0, nip := 0, gate := 0, emboss := 0, marker := 0,
    gateHeld := false, good := 0, bad := 0, overflow := 0, rej := false }

/-- R76. -/
def resetLoop : Loop :=
  { mode := .off, nudge := 0, a := 0, p := 0, n := 0, run := 0, lastSerial := none,
    lastErr := none, lastCorr := none }

/-- R81; the latched interval is the item's (DESIGN CHOICE, log 21). -/
def resetEmitter : Emitter :=
  { state := .idle, tstp := false, tdir := .advance, t := 50, lastStep := none, lastTurn := none }

/-- R96. -/
def resetSequencer : Sequencer :=
  { state := .off, imp := false, engage := none, release := none, cause := .none }

/-- R105: the parameters of an empty staged sheet. -/
def emptyParams : SheetParams :=
  { lSub := 0, tF := 0, tE := 0, throwF := 0, throwE := 0, usesF := false, usesE := false,
    ref := .print }

/-- R105: the empty staged sheet. -/
def emptyStaged : Staged :=
  { params := emptyParams, windows := List.replicate Config.windowSlots none }

/-- R117. -/
def resetSheets : Sheets :=
  { staged := emptyStaged, pending := none, active := none, lastGen := 0, lastCommit := none }

/-- R145; the latched ratio, check steps and check interval are the items' (DESIGN CHOICE, log 21). -/
def resetLane : LaneCtl :=
  { state := .disabled, leads := List.replicate 64 0, runList := [], hold := false, run := none,
    ratioNow := 65536, acc := 0, runSteps := 0, tally := 0, lastRev := 0, foil := 0, motion := 0,
    parkPending := false, parkTimer := 0, parkExpired := false,
    check := { done := false, result := .none, steps := 0, pulses := 0 },
    checkTimer := none, checkSteps := 400, checkEvery := 1000, clipped := 0 }

/-- R145: an unmapped drive holds FDIR low. -/
def resetDrive : DriveOut := { fdir := false, pulses := 0 }

/-- R160. -/
def resetFaults : FaultUnit := { flags := 0, record := none, alm := false }

/-- The table of R162. -/
def baudOf (bdr : BitVec 2) : Nat :=
  if bdr = 0 then 115200 else if bdr = 1 then 230400 else if bdr = 2 then 460800 else 921600

/-- R174, R162: the Link Port after a FULL reset, with the strap levels it reads. -/
def resetLink (adr : BitVec 5) (bdr : BitVec 2) : Link :=
  { own := adr, baud := baudOf bdr, rx := .waitIdle, cls := .addressed, dest := 0, len := 0,
    kind := 0, body := [], sum := 0, checkHi := none, quiet := 0, rxBusy := false, replyPending := false,
    overlapSeen := false, image := [], txen := false, txd := [], waitLeft := 0, txLeft := 0,
    restart := none, good := 0, checkErrors := 0, charErrors := 0, overlaps := 0, ignored := 0 }

/-- The reset values of 1.7, 2.4, 3.5, 4.9, 5.5, 7.10 and 8.7. -/
def resetItems : Items :=
  { web := { inverted := false, threshold := 4, scale := 4 },
    index := ⟨{ source := .index, gate := 500, tol := 50, limit := 3 },
              { source := .index, gate := 500, tol := 50, limit := 3 }⟩,
    mark := { pwMin := 20, pwMax := 150, gP := 200, acquire := 3, coastLimit := 4, fwMin := 20,
              fwMax := 400, gF := 200 },
    geo := { dF := 0, dFS := 0, dE := 0, dR := 0, markerWidth := 500 },
    rejectMask := 0xFF,
    loop := ⟨{ gain := 8, deadband := 2, slew := 200, tol := 40, amax := 5000, runLength := 5 },
             { gain := 8, deadband := 2, slew := 200, tol := 40, amax := 5000, runLength := 5 }⟩,
    act := { trimInterval := 50, engage := ⟨400, 400⟩, release := ⟨400, 400⟩, stopDwell := 300,
             throwOff := true, autoResume := false },
    lane := ⟨resetLaneItems, resetLaneItems, resetLaneItems, resetLaneItems⟩,
    freeze := false,
    alarmMask := 0x3FF }
where
  /-- 7.10. -/
  resetLaneItems : LaneItems :=
    { drive := none, ratio := 65536, runOut := 100, minDwell := 300, window := 400, low := 0,
      parkTimeout := 60, checkSteps := 400, checkInterval := 1000, anchors := List.replicate 8 0 }

/-- The input levels `State.reset` takes (DESIGN CHOICE, log 7): every input low but the straps, which
give the station of the worked case of 9.5, address 5 at 230,400 baud. -/
def resetPins : PinLevels :=
  { encA := false, encB := false, pmark := false, fmark := false, cnfF := false, cnfE := false,
    adr := 5, bdr := 1 }

/-- The part right after power-on: R17, R34, R55, R76, R81, R96, R117, R145, R160, R174, R178. -/
def State.reset : State :=
  { now := 0,
    inputs := { pmark := false, fmark := false, cnf := ⟨false, false⟩, edge := ⟨false, false⟩ },
    web := resetWeb,
    phase := ⟨resetPhase, resetPhase⟩,
    qual := ⟨resetQual 20 150, resetQual 20 400⟩,
    tracker := resetTracker,
    track := resetTrack,
    loop := ⟨resetLoop, resetLoop⟩,
    emit := ⟨resetEmitter, resetEmitter⟩,
    seq := ⟨resetSequencer, resetSequencer⟩,
    stopDwell := none,
    resume := false,
    sheets := resetSheets,
    lane := ⟨resetLane, resetLane, resetLane, resetLane⟩,
    drives := ⟨resetDrive, resetDrive, resetDrive, resetDrive⟩,
    faults := resetFaults,
    link := resetLink resetPins.adr resetPins.bdr,
    configDefault := true,
    items := resetItems,
    free := 0,
    pending := [] }

end Sys2Proof.Machine
end

