-- ==== Sys2Proof/Machine/Operands.lean ====
section
/-! DEFINITION. The field codes of chapter 10: bytes and multi-byte fields, the codes of R175, and the
item numbers of R179. -/

namespace Sys2Proof.Machine

/-! ## Fields of several bytes, high byte first (R175) -/

/-- The `k` bytes of a number, high byte first; a number past the field is taken modulo it. -/
def natBytes : Nat → Nat → List Byte
  | 0, _ => []
  | k + 1, n => BitVec.ofNat 8 (n / 256 ^ k) :: natBytes k n

/-- The `k` bytes of a signed number in two's complement, high byte first. -/
def intBytes (k : Nat) (i : Int) : List Byte :=
  natBytes k (i % (256 ^ k : Nat)).toNat

/-- Two bytes as one field. -/
def word16 (hi lo : Byte) : BitVec 16 := hi ++ lo

/-- Three bytes as one field. -/
def word24 (b2 b1 b0 : Byte) : BitVec 24 := b2 ++ b1 ++ b0

/-- Four bytes as one field. -/
def word32 (b3 b2 b1 b0 : Byte) : BitVec 32 := b3 ++ b2 ++ b1 ++ b0

/-- A run of bytes as two-byte fields; none when a byte is left over. -/
def words16 : List Byte → Option (List (BitVec 16))
  | [] => some []
  | hi :: lo :: rest => (words16 rest).map (word16 hi lo :: ·)
  | [_] => none

/-- A run of bytes as window entries of seven bytes (R181); none when bytes are left over. -/
def windowEntries : List Byte → Option (List WindowBytes)
  | [] => some []
  | l :: s1 :: s0 :: n1 :: n0 :: t :: e :: rest =>
    (windowEntries rest).map
      ({ lane := l, start := word16 s1 s0, length := word16 n1 n0, tag := t, enabled := e } :: ·)
  | _ => none

/-- Bits to one byte: bit 0 is the first of the list. -/
def bitsByte (bits : List Bool) : Byte :=
  BitVec.ofNat 8 (bits.foldr (fun b n => 2 * n + b.toNat) 0)

/-! ## The codes of R175 -/

def Cyl.ofByte (b : Byte) : Option Cyl :=
  if b = 0 then some .f else if b = 1 then some .e else none

def Cyl.code : Cyl → Nat
  | .f => 0
  | .e => 1

def Lane.ofByte (b : Byte) : Option Lane :=
  if b = 0 then some .l0 else if b = 1 then some .l1
  else if b = 2 then some .l2 else if b = 3 then some .l3 else none

def Lane.code : Lane → Nat
  | .l0 => 0
  | .l1 => 1
  | .l2 => 2
  | .l3 => 3

def Drive.code : Drive → Nat
  | .d0 => 0
  | .d1 => 1
  | .d2 => 2
  | .d3 => 3

/-- Drive mapping: 0..3, or 255 for none. -/
def mappingCode : Option Drive → Nat
  | none => 255
  | some d => Drive.code d

/-- What a mapping value names; none for a value that is no mapping (R120 test 1). -/
def mappingOf (v : Nat) : Option (Option Drive) :=
  match v with
  | 0 => some (some .d0)
  | 1 => some (some .d1)
  | 2 => some (some .d2)
  | 3 => some (some .d3)
  | 255 => some none
  | _ => none

def flagOf (v : Nat) : Option Bool :=
  match v with
  | 0 => some false
  | 1 => some true
  | _ => none

def EmbossRef.code : EmbossRef → Nat
  | .print => 0
  | .foil => 1

def refUsedCode : Option RefUsed → Nat
  | none => 0
  | some .print => 1
  | some .foil => 2
  | some .fallback => 3

def PhaseSource.code : PhaseSource → Nat
  | .index => 0
  | .reckon => 1

def LoopMode.code : LoopMode → Nat
  | .off => 0
  | .measure => 1
  | .auto => 2

def LoopMode.ofByte (b : Byte) : Option LoopMode :=
  if b = 0 then some .off else if b = 1 then some .measure else if b = 2 then some .auto else none

def SeqState.code : SeqState → Nat
  | .off => 0
  | .waitPhase => 1
  | .engaging => 2
  | .on => 3
  | .releasing => 4

def ThrowCause.code : ThrowCause → Nat
  | .none => 0
  | .host => 1
  | .stop => 2
  | .fault => 3
  | .sheet => 4
  | .engageTimeout => 5
  | .confirmLost => 6

def TrackerState.code : TrackerState → Nat
  | .idle => 0
  | .search => 1
  | .locked => 2
  | .coast => 3
  | .lost => 4

def LaneState.code : LaneState → Nat
  | .disabled => 0
  | .dwell => 1
  | .run => 2
  | .parked => 3
  | .check => 4
  | .faulted => 5

def CheckResult.code : CheckResult → Nat
  | .none => 0
  | .pass => 1
  | .fail => 2
  | .aborted => 3

def Verdict.code : Verdict → Nat
  | .pending => 0
  | .good => 1
  | .reject => 2

def FaultSource.code : FaultSource → Nat
  | .cyl .f => 0
  | .cyl .e => 1
  | .lane l => 2 + Lane.code l
  | .tracker => 6

/-- The number of a fault code (table of 8.1). -/
def FaultCode.number : FaultCode → Nat
  | .foilBreak => 1
  | .foilOut => 2
  | .engageTimeout => 3
  | .releaseTimeout => 4
  | .confirmLost => 5
  | .markLost => 6
  | .indexLost => 7
  | .indexDeviation => 8
  | .trimLimit => 9
  | .parkExpired => 10
  | .registerRun => 11
  | .foilLow => 12

/-- The priority of a fault code (table of 8.1); 1 is the highest. -/
def FaultCode.priority : FaultCode → Nat
  | .foilBreak | .foilOut | .engageTimeout | .releaseTimeout | .confirmLost => 1
  | .markLost | .indexLost | .indexDeviation | .trimLimit | .parkExpired => 2
  | .registerRun | .foilLow => 3

/-- The result codes (R173). -/
def Result.code : Result → Nat
  | .ok => 0x00
  | .pending => 0x01
  | .late => 0x02
  | .part => 0x03
  | .clamped => 0x04
  | .already => 0x05
  | .superseded => 0x06
  | .unknownKind => 0x10
  | .badLength => 0x11
  | .badValue => 0x12
  | .badState => 0x13
  | .busy => 0x14
  | .sheetInvalid => 0x15
  | .laneFault => 0x16
  | .notConfigured => 0x17
  | .running => 0x18
  | .duplicate => 0x19
  | .noSheet => 0x1A
  | .foilOut => 0x1B

/-! ## Item numbers (R179) -/

/-- The lane items by their place in a lane's block of sixteen numbers. -/
def laneItemOf (l : Lane) (place : Nat) : Option Item :=
  match place with
  | 0 => some (.mapping l)
  | 1 => some (.lane .ratio l)
  | 2 => some (.lane .runOut l)
  | 3 => some (.lane .minDwell l)
  | 4 => some (.lane .motionWindow l)
  | 5 => some (.lane .lowThreshold l)
  | 6 => some (.lane .parkTimeout l)
  | 7 => some (.lane .checkSteps l)
  | 8 => some (.lane .checkInterval l)
  | _ => none

/-- The items of a loop by their place in the loop's block of eight numbers. -/
def loopItemOf (c : Cyl) (place : Nat) : Option Item :=
  match place with
  | 0 => some (.loop .gain c)
  | 1 => some (.loop .deadband c)
  | 2 => some (.loop .slewLimit c)
  | 3 => some (.loop .tolerance c)
  | 4 => some (.loop .amax c)
  | 5 => some (.loop .runLength c)
  | _ => none

/-- The item of a number; none for a number outside the table of R179. -/
def itemOfNat (n : Nat) : Option Item :=
  if n < 48 then
    match n with
    | 1 => some (.web .encoderDirection)
    | 2 => some (.web .stopThreshold)
    | 3 => some (.web .speedScale)
    | 4 => some (.index .phaseSource .f)
    | 5 => some (.index .phaseSource .e)
    | 6 => some (.index .indexGate .f)
    | 7 => some (.index .indexGate .e)
    | 8 => some (.index .indexTolerance .f)
    | 9 => some (.index .indexTolerance .e)
    | 10 => some (.index .missLimit .f)
    | 11 => some (.index .missLimit .e)
    | 16 => some (.mark .printWidthMin)
    | 17 => some (.mark .printWidthMax)
    | 18 => some (.mark .printGate)
    | 19 => some (.mark .acquireCount)
    | 20 => some (.mark .coastLimit)
    | 21 => some (.mark .foilWidthMin)
    | 22 => some (.mark .foilWidthMax)
    | 23 => some (.mark .foilGate)
    | 32 => some (.geo .dF)
    | 33 => some (.geo .dFS)
    | 34 => some (.geo .dE)
    | 35 => some (.geo .dR)
    | 36 => some (.geo .markerWidth)
    | 37 => some .rejectMask
    | _ => none
  else if n < 56 then loopItemOf .f (n - 48)
  else if n < 64 then loopItemOf .e (n - 56)
  else if n < 80 then
    match n with
    | 64 => some .trimInterval
    | 65 => some (.act (.engageTimeout .f))
    | 66 => some (.act (.engageTimeout .e))
    | 67 => some (.act (.releaseTimeout .f))
    | 68 => some (.act (.releaseTimeout .e))
    | 69 => some (.act .stopDwell)
    | 70 => some (.act .throwOffOnStop)
    | 71 => some (.act .autoResume)
    | _ => none
  else if n < 96 then laneItemOf .l0 (n - 80)
  else if n < 112 then laneItemOf .l1 (n - 96)
  else if n < 128 then laneItemOf .l2 (n - 112)
  else if n < 144 then laneItemOf .l3 (n - 128)
  else
    match n with
    | 144 => some .freezeOnFirst
    | 145 => some .alarmMask
    | _ => none

/-- The item of an item-number byte. -/
def itemOfNumber (b : Byte) : Option Item := itemOfNat b.toNat

/-- The number of an item (table of R179). -/
def itemNumber : Item → Nat
  | .web .encoderDirection => 1
  | .web .stopThreshold => 2
  | .web .speedScale => 3
  | .index .phaseSource c => 4 + Cyl.code c
  | .index .indexGate c => 6 + Cyl.code c
  | .index .indexTolerance c => 8 + Cyl.code c
  | .index .missLimit c => 10 + Cyl.code c
  | .mark .printWidthMin => 16
  | .mark .printWidthMax => 17
  | .mark .printGate => 18
  | .mark .acquireCount => 19
  | .mark .coastLimit => 20
  | .mark .foilWidthMin => 21
  | .mark .foilWidthMax => 22
  | .mark .foilGate => 23
  | .geo .dF => 32
  | .geo .dFS => 33
  | .geo .dE => 34
  | .geo .dR => 35
  | .geo .markerWidth => 36
  | .rejectMask => 37
  | .loop .gain c => 48 + 8 * Cyl.code c
  | .loop .deadband c => 49 + 8 * Cyl.code c
  | .loop .slewLimit c => 50 + 8 * Cyl.code c
  | .loop .tolerance c => 51 + 8 * Cyl.code c
  | .loop .amax c => 52 + 8 * Cyl.code c
  | .loop .runLength c => 53 + 8 * Cyl.code c
  | .trimInterval => 64
  | .act (.engageTimeout c) => 65 + Cyl.code c
  | .act (.releaseTimeout c) => 67 + Cyl.code c
  | .act .stopDwell => 69
  | .act .throwOffOnStop => 70
  | .act .autoResume => 71
  | .mapping l => 80 + 16 * Lane.code l
  | .lane .ratio l => 81 + 16 * Lane.code l
  | .lane .runOut l => 82 + 16 * Lane.code l
  | .lane .minDwell l => 83 + 16 * Lane.code l
  | .lane .motionWindow l => 84 + 16 * Lane.code l
  | .lane .lowThreshold l => 85 + 16 * Lane.code l
  | .lane .parkTimeout l => 86 + 16 * Lane.code l
  | .lane .checkSteps l => 87 + 16 * Lane.code l
  | .lane .checkInterval l => 88 + 16 * Lane.code l
  | .freezeOnFirst => 144
  | .alarmMask => 145

end Sys2Proof.Machine
end

