-- ==== Sys2Proof/Machine/Flags.lean ====
section
/-! DEFINITION. The sets of flags: fault flags and the alarm line, reasons and the reject output. -/

namespace Sys2Proof.Machine

/-- The flag of a fault code: bit n - 1 for code number n (R175). -/
def faultBit (c : FaultCode) : FaultSet := BitVec.twoPow 12 (FaultCode.number c - 1)

/-- R153: whether a set flag names a code of the alarm mask. -/
def alarmLevel (flags mask : FaultSet) : Bool := flags &&& mask != 0

/-- The bit of a reason (R175). -/
def reasonBit : Reason → Reasons
  | .unregistered => 0x001
  | .fNoMeasure => 0x002
  | .fOor => 0x004
  | .fOff => 0x008
  | .laneParked => 0x010
  | .eNoMeasure => 0x020
  | .eOor => 0x040
  | .eOff => 0x080
  | .eFallback => 0x100

/-- A reason once set stays set (3.1). -/
def addReason (x : Reason) (rs : Reasons) : Reasons := rs ||| reasonBit x

def hasReason (x : Reason) (rs : Reasons) : Bool := rs &&& reasonBit x != 0

/-- R44: whether the reasons share a reason with the reject mask. -/
def rejected (reasons mask : Reasons) : Bool := reasons &&& mask != 0

/-- R45: the reject output is on while some record of the track has verdict REJECT. -/
def rejectLevel (records : List LabelRecord) : Bool := records.any (·.verdict == .reject)

/-- R147 and R158: the unit is frozen while freeze on first is set and a flag is set. -/
def frozen (freeze : Bool) (flags : FaultSet) : Bool := freeze && flags != 0

end Sys2Proof.Machine
end

