-- ==== Sys2Proof/Machine/Ops.lean ====
section
/-! DEFINITION. The arithmetic of positions and counts, the views of the state that several blocks read,
and the raise of a fault (chapter 8). -/

namespace Sys2Proof.Machine

/-- What the meaning of a command answers. -/
abbrev Answer := Host.Outcome State Fault Refusal

/-! ## Counters, positions, rounding -/

/-- One more, saturating at 65,535. -/
def satInc (n : Nat) : Nat := min (n + 1) Config.counterMax

/-- The difference of two positions, read as a signed 32-bit number (R2). -/
def posDiff (a b : Pos) : Int := (a - b).toInt

/-- R2: W has reached X when W - X, read as a signed number, is zero or positive. -/
def reached (w x : Pos) : Bool := 0 ≤ posDiff w x

/-- A position moved on by a number of counts. -/
def posAdd (x : Pos) (n : Nat) : Pos := x + BitVec.ofNat 32 n

/-- A count position in sub-counts, modulo 2^40 (chapter 2). -/
def subPos (x : Pos) : SubPos := BitVec.ofNat 40 (x.toNat * 256)

/-- The difference of two sub-count positions, read as a signed 40-bit number. -/
def subDiff (a b : SubPos) : Int := (a - b).toInt

/-- A sub-count position moved on by a number of sub-counts. -/
def subAdd (x : SubPos) (n : Nat) : SubPos := x + BitVec.ofNat 40 n

/-- R25: (E_sub + 128) div 256, a position rounded to the nearest count. -/
def roundSub (x : SubPos) : Pos := BitVec.ofNat 32 ((subAdd x 128).toNat / 256)

/-- Rounded to nearest, a tie away from zero (00, "Rounding"). -/
def roundDiv (n : Int) (d : Nat) : Int :=
  if 0 ≤ n then (2 * n + d) / (2 * d) else -((2 * -n + d) / (2 * d))

/-- A number held to lo..hi. -/
def clamp (lo hi x : Int) : Int := max lo (min hi x)

/-! ## Views -/

/-- The web position and whether the station geometry is set (R21). -/
def geometrySet (g : GeoItems) : Bool := g.dF != 0 && g.dFS != 0 && g.dE != 0 && g.dR != 0

/-- Lc of a repeat length (6.1). -/
def lcOf (lSub : Nat) : Nat := lSub / 256

/-- The throw phase of a cylinder. -/
def SheetParams.throw (p : SheetParams) : Cyl → Nat
  | .f => p.throwF
  | .e => p.throwE

/-- The register target of a cylinder. -/
def SheetParams.target (p : SheetParams) : Cyl → Nat
  | .f => p.tF
  | .e => p.tE

/-- Whether a sheet uses a cylinder. -/
def SheetParams.uses (p : SheetParams) : Cyl → Bool
  | .f => p.usesF
  | .e => p.usesE

/-- The parameters of the active sheet. -/
def State.active? (s : State) : Option SheetParams := s.sheets.active.map (·.params)

/-- The base spans of a lane in the active sheet; none when no sheet is active (R188). -/
def State.spans (s : State) (l : Lane) : List Span :=
  match s.sheets.active with
  | some sh => sh.spans.get l
  | none => []

/-- Whether a lane has a base span in the active sheet. -/
def State.hasSpans (s : State) (l : Lane) : Bool := !(s.spans l).isEmpty

def State.setPhase (s : State) (c : Cyl) (p : Phase) : State :=
  { s with phase := s.phase.set c p }

def State.setLoop (s : State) (c : Cyl) (x : Loop) : State := { s with loop := s.loop.set c x }

def State.setEmit (s : State) (c : Cyl) (x : Emitter) : State := { s with emit := s.emit.set c x }

def State.setSeq (s : State) (c : Cyl) (x : Sequencer) : State := { s with seq := s.seq.set c x }

def State.setLane (s : State) (l : Lane) (x : LaneCtl) : State := { s with lane := s.lane.set l x }

def State.setQual (s : State) (x : Sensor) (q : Qual) : State := { s with qual := s.qual.set x q }

/-- A timer command at its instant: the timebase stands at it, if it has not passed it (log 3). -/
def State.reachTime (s : State) (due : Nat) : State := { s with now := max s.now due }

/-! ## The Fault Unit -/

/-- What a raise carries (8.2). -/
structure Raise where
  code   : FaultCode
  source : FaultSource
  serial : Option (BitVec 16)
  value  : Int
  deriving DecidableEq, Repr

/-- R148: the value as a signed 32-bit number; only a FOIL_LOW can lie above the field. -/
def faultValue (r : Raise) : Int :=
  if r.code = .foilLow then min r.value 2147483647 else r.value

/-- R148: a record freshly written from a raise at web position `w`. -/
def freshRecord (r : Raise) (w : Pos) : FaultRecord :=
  { code := r.code, source := r.source, serial := r.serial, value := faultValue r, w := w,
    again := false }

/-- R149: the priority latch. -/
def latchRecord (r : Raise) (w : Pos) : Option FaultRecord → FaultRecord
  | none => freshRecord r w
  | some old =>
    if FaultCode.priority r.code < FaultCode.priority old.code then freshRecord r w
    else if FaultCode.priority r.code = FaultCode.priority old.code then { old with again := true }
    else old

/-- R147: a raise taken by the Fault Unit: the freeze test, the flag, the record, the alarm line. -/
def raiseIn (freeze : Bool) (mask : FaultSet) (w : Pos) (r : Raise) (u : FaultUnit) : FaultUnit :=
  if frozen freeze u.flags then u
  else
    { flags := u.flags ||| faultBit r.code,
      record := some (latchRecord r w u.record),
      alm := alarmLevel (u.flags ||| faultBit r.code) mask }

/-- R147, with W as the Web Timing Unit holds it (R148; log 13). -/
def raise (r : Raise) (s : State) : State :=
  { s with faults := raiseIn s.items.freeze s.items.alarmMask s.web.w r s.faults }

/-- A raise that is due only if a test holds. -/
def raiseIf (b : Bool) (r : Raise) (s : State) : State := if b then raise r s else s

/-- R153: the alarm line re-evaluated. -/
def reevalAlarm (s : State) : State :=
  { s with faults := { s.faults with alm := alarmLevel s.faults.flags s.items.alarmMask } }

end Sys2Proof.Machine
end

