-- ==== Sys2Proof/Machine/LaneOps.lean ====
section
/-! DEFINITION. Shared operations of the Lane Controllers that reach no other block: the lead table, the
run list, the end of a run, the park (chapter 7). -/

namespace Sys2Proof.Machine

/-! ## The lead curve (7.2) -/

/-- R122: the lead at speed index `s` from the anchors. -/
def leadAt (anchors : List Nat) (s : Nat) : Nat :=
  if s = 63 then anchors.getD 7 0
  else
    let k := s / 9
    let j := s % 9
    let ak : Int := anchors.getD k 0
    let delta : Int := anchors.getD (k + 1) 0 - ak
    (ak + (delta * j + 4) / 9).toNat

/-- R122: the 64 leads. -/
def expandCurve (anchors : List Nat) : List Nat := (List.range 64).map (leadAt anchors)

/-! ## The run list (7.3) -/

/-- R123: a base span widened by the lead and the run-out, with the number of clamped ends. -/
def widen (lead runOut lc : Nat) (b : Span) : Span × Nat :=
  ({ start := b.start - lead, stop := min lc (b.stop + runOut) },
   (decide (b.start < lead)).toNat + (decide (lc < b.stop + runOut)).toNat)

/-- R123: the merge of runs in start order. `cur` is the last run of the list so far. -/
def mergeRuns (minDwell : Nat) (cur : Span) : List Span → List Span
  | [] => [cur]
  | r :: rest =>
    if r.start < cur.stop + minDwell then
      mergeRuns minDwell { cur with stop := max cur.stop r.stop } rest
    else cur :: mergeRuns minDwell r rest

/-- R123: the run list of a lane and how many ends were clamped. -/
def buildRuns (spans : List Span) (lead runOut minDwell lc : Nat) : List Span × Nat :=
  let widened := spans.map (widen lead runOut lc)
  let clips := (widened.map (·.2)).sum
  match widened.map (·.1) with
  | [] => ([], clips)
  | r :: rest => (mergeRuns minDwell r rest, clips)

/-- The lead at the present speed index (R143). -/
def State.leadNow (s : State) (l : Lane) : Nat := (s.lane.get l).leads.getD s.web.speed 0

/-- R123, R124: a lane's run list built anew from the active sheet, at the speed index last
published; the lead-clipped counter rises by the clamped ends. -/
def rebuilt (s : State) (l : Lane) (x : LaneCtl) : LaneCtl :=
  let it := s.items.lane.get l
  let lc := match s.active? with
    | some p => lcOf p.lSub
    | none => 0
  let (runs, clips) := buildRuns (s.spans l) (x.leads.getD s.web.speed 0) it.runOut it.minDwell lc
  { x with runList := runs, clipped := min (x.clipped + clips) Config.counterMax }

def rebuildLane (l : Lane) (s : State) : State := s.setLane l (rebuilt s l (s.lane.get l))

def rebuildAll (s : State) : State := { s with lane := s.lane.map (rebuilt s) }

/-! ## Ends of runs and parks -/

/-- R137: a park begins. -/
def parkBegin (x : LaneCtl) : LaneCtl :=
  { x with state := .parked, parkTimer := 0, parkExpired := false, parkPending := false }

/-- R121, R129: a run ends or is cut: to PARKED with park pending, else to DWELL; the run in progress
becomes absent and the accumulator's fraction is dropped. -/
def endRun (x : LaneCtl) : LaneCtl :=
  let y := { x with run := none, acc := 0 }
  if x.parkPending then parkBegin y else { y with state := .dwell }

/-- R121: "F has left ON" cuts the runs of every lane in RUN. -/
def cutRuns (s : State) : State :=
  { s with lane := s.lane.map fun _ x => if x.state = .run then endRun x else x }

/-- Whether a phase count lies inside a run. -/
def Span.has (r : Span) (p : Nat) : Bool := r.start ≤ p && p < r.stop

/-- R138: the park timer of a lane at a boundary of F, and whether PARK_EXPIRED is raised. -/
def parkAdvance (timeout : Nat) (x : LaneCtl) : LaneCtl × Bool :=
  if x.state = .parked ∨ x.state = .check then
    let t := min (x.parkTimer + 1) Config.parkMax
    if timeout ≤ t ∧ !x.parkExpired then ({ x with parkTimer := t, parkExpired := true }, true)
    else ({ x with parkTimer := t }, false)
  else (x, false)

/-- R123, R125, R138: one lane at a boundary of F: the tally copied, the list rebuilt, the park timer
advanced. -/
def laneBoundary (l : Lane) (s : State) : State :=
  let x := s.lane.get l
  let x1 := rebuilt s l { x with lastRev := x.tally, tally := 0 }
  let (x2, expired) := parkAdvance (s.items.lane.get l).parkTimeout x1
  raiseIf expired ⟨.parkExpired, .lane l, none, x2.parkTimer⟩ (s.setLane l x2)

/-- The four lanes at a boundary of F (log 10). -/
def lanesBoundary (s : State) : State :=
  laneBoundary .l3 (laneBoundary .l2 (laneBoundary .l1 (laneBoundary .l0 s)))

end Sys2Proof.Machine
end

