-- ==== Sys2Proof/Machine/SeqOps.lean ====
section
/-! DEFINITION. Shared operations of the Impression Sequencers (5.2 to 5.4): the entries of states, the
throw-off, ENGAGE, the gate end. -/

namespace Sys2Proof.Machine

/-- R82: the sequencer of a cylinder changes to a state: IMP follows it, the timers of the state it
leaves stop, and F's leaving ON is handed to the lanes (R121). -/
def seqTo (c : Cyl) (st : SeqState) (s : State) : State :=
  let q := s.seq.get c
  let s1 := s.setSeq c
    { q with state := st, imp := st == .engaging || st == .on, engage := none, release := none }
  if c = .f ∧ q.state = .on ∧ st ≠ .on then cutRuns s1 else s1

/-- R82: entering ENGAGING starts the engage timer; with CNF already active it goes on to ON. -/
def enterEngaging (c : Cyl) (s : State) : State :=
  let s1 := seqTo c .engaging s
  if s.inputs.cnf.get c then seqTo c .on s1
  else
    s1.setSeq c { s1.seq.get c with
      engage := some (s.now + s.items.act.engage.get c * Config.msTicks) }

/-- R82: entering RELEASING starts the release timer; with CNF already inactive it goes on to OFF. -/
def enterReleasing (c : Cyl) (s : State) : State :=
  let s1 := seqTo c .releasing s
  if s.inputs.cnf.get c then
    s1.setSeq c { s1.seq.get c with
      release := some (s.now + s.items.act.release.get c * Config.msTicks) }
  else seqTo c .off s1

/-- The last throw-off cause of a cylinder. -/
def setCause (c : Cyl) (cause : ThrowCause) (s : State) : State :=
  s.setSeq c { s.seq.get c with cause := cause }

/-- R88: for F, a throw-off that acts stops the stop dwell timer and clears resume-pending. -/
def dropDwell (c : Cyl) (s : State) : State :=
  if c = .f then { s with stopDwell := none, resume := false } else s

/-- R89, R92: resume-pending of F is cleared. -/
def clearResume (c : Cyl) (s : State) : State := if c = .f then { s with resume := false } else s

/-- R88: a throw-off with a cause. -/
def throwOff (c : Cyl) (cause : ThrowCause) (s : State) : State :=
  match (s.seq.get c).state with
  | .waitPhase => seqTo c .off (setCause c cause (dropDwell c s))
  | .engaging | .on => enterReleasing c (setCause c cause (dropDwell c s))
  | .off | .releasing => s

/-- R84: the throw-phase event at the sequencer of its cylinder. -/
def throwPhaseEvent (c : Cyl) (s : State) : State :=
  if (s.seq.get c).state = .waitPhase then enterEngaging c s else s

/-- R92: a throw-off order of a lane. -/
def laneOrder (s : State) : State := clearResume .f (throwOff .f .fault s)

/-- R83: some lane with a base span in the active sheet is FAULTED. -/
def faultedWithSpans (s : State) : Bool :=
  [Lane.l0, .l1, .l2, .l3].any fun l => (s.lane.get l).state == .faulted && s.hasSpans l

/-- R83: the active sheet uses the cylinder, and the geometry is set. -/
def configuredFor (c : Cyl) (s : State) : Bool :=
  match s.active? with
  | some p => p.uses c && geometrySet s.items.geo
  | none => false

/-- R83: the tests of ENGAGE in their order, and its effect. -/
def engageCyl (c : Cyl) (s : State) : State × Result :=
  if !configuredFor c s then (s, .notConfigured)
  else if c = .f ∧ faultedWithSpans s then (s, .laneFault)
  else match (s.seq.get c).state with
    | .off =>
      let s1 := clearResume c s
      (if s.web.stopped then enterEngaging c s1 else seqTo c .waitPhase s1, .pending)
    | .waitPhase | .engaging | .on => (clearResume c s, .already)
    | .releasing => (s, .busy)

/-- R90: the stop dwell runs out: a throw-off with cause STOP, and resume-pending with auto-resume. -/
def stopThrowOff (s : State) : State :=
  let s1 := throwOff .f .stop { s with stopDwell := none }
  if s.items.act.autoResume then { s1 with resume := true } else s1

/-- Whether a sequencer is thrown or throwing on. -/
def SeqState.thrown (st : SeqState) : Bool := st == .waitPhase || st == .engaging || st == .on

/-- R90: the stop dwell at a gate end that carries "web has stopped"; `was` is F's state as the event
found it. -/
def startDwell (was : SeqState) (s : State) : State :=
  if s.items.act.throwOff && SeqState.thrown was then
    if s.items.act.stopDwell = 0 then stopThrowOff s
    else { s with stopDwell := some (s.now + s.items.act.stopDwell * Config.msTicks) }
  else s

/-- R91: a moving gate end that finds resume-pending and F in OFF performs the owed ENGAGE. -/
def resumeEngage (s : State) : State :=
  if s.resume ∧ (s.seq.get .f).state = .off then { (engageCyl .f s).1 with resume := false } else s

/-- R84, R90, R91: the gate-end event at the sequencers; `changed` says whether stopped changed. -/
def gateEndSeqs (changed : Bool) (s : State) : State :=
  if s.web.stopped then
    if changed then
      startDwell (s.seq.get .f).state (throwPhaseEvent .e (throwPhaseEvent .f s))
    else s
  else resumeEngage (if changed then { s with stopDwell := none } else s)

end Sys2Proof.Machine
end

