-- ==== Sys2Proof/Machine/LaneSteps.lean ====
section
/-! DEFINITION. A lane's steps (R127, R128), its faults (R131, R132, R134, R135) and a lane at a forward
count (R126, R129). -/

namespace Sys2Proof.Machine

/-- R135: a lane enters FAULTED, raising its faults in order, and sends one throw-off order if it has
a base span in the active sheet. -/
def enterFaulted (l : Lane) (broke low out : Bool) (s : State) : State :=
  let x := s.lane.get l
  let check := if x.state = .check then { x.check with done := true, result := .fail } else x.check
  let s1 := s.setLane l
    { x with state := .faulted, run := none, acc := 0, parkPending := false, parkTimer := 0,
             parkExpired := false, check := check, checkTimer := none }
  let s2 := raiseIf broke ⟨.foilBreak, .lane l, none, x.motion⟩ s1
  let s3 := raiseIf low ⟨.foilLow, .lane l, none, x.foil⟩ s2
  let s4 := raiseIf out ⟨.foilOut, .lane l, none, 0⟩ s3
  if s4.hasSpans l then laneOrder s4 else s4

/-- The run step counter after one more step; past 65,535 a free value, held to the counter's range
and to multiples of four, which R129 needs (log 15). -/
def nextRunSteps (free n : Nat) : Nat :=
  if n < 65535 then n + 1 else 4 * (Config.runStepsPast free % 16384)

/-- The revolution step tally after one more step; past its range a free value of the range (log 16). -/
def nextTally (free n : Nat) : Nat :=
  if n < 16777215 then n + 1 else Config.tallyPast free % 16777216

/-- R128: the counts of one emitted step. -/
def stepCounts (free : Nat) (x : LaneCtl) : LaneCtl :=
  { x with
    foil := x.foil - 1, motion := x.motion + 1, runSteps := nextRunSteps free x.runSteps,
    tally := (if x.state = .run then nextTally free x.tally else x.tally),
    check := (if x.state = .check then { x.check with steps := x.check.steps + 1 } else x.check) }

/-- R119, R128: one pulse on the FSTP output of the drive mapped to the lane. -/
def pulseOut (l : Lane) (s : State) : State :=
  match (s.items.lane.get l).drive with
  | none => s
  | some d =>
    let out := s.drives.get d
    { s with drives := s.drives.set d { out with pulses := out.pulses + 1 } }

/-- R131: the step that brings foil remaining down to the low threshold raises FOIL_LOW. -/
def lowNext (it : LaneItems) (x : LaneCtl) : Bool := x.foil == it.low + 1 && it.low != 0

/-- R128: one step of a lane in RUN or CHECK: not emitted with no foil; otherwise the pulse, the
counts, and the three tests in their order. -/
def laneStep (l : Lane) (s : State) : State :=
  let x := s.lane.get l
  if x.foil = 0 then enterFaulted l false false true s
  else
    let y := stepCounts s.free x
    let s1 := pulseOut l { s.setLane l y with free := s.free + 1 }
    let it := s.items.lane.get l
    let broke := it.window < y.motion
    let low := lowNext it x
    let out := y.foil == 0
    if broke || out then enterFaulted l broke low out s1
    else raiseIf low ⟨.foilLow, .lane l, none, y.foil⟩ s1

/-- R127, R128: up to `n` steps; a step that raises a fault ends the count's stepping, FOIL_LOW
included. -/
def laneSteps (l : Lane) : Nat → State → State
  | 0, s => s
  | n + 1, s =>
    if (s.lane.get l).state = .run then
      if lowNext (s.items.lane.get l) (s.lane.get l) then laneStep l s
      else laneSteps l n (laneStep l s)
    else s

/-- R127: a forward count in RUN: the ratio added, whole steps emitted. Whole steps that a fault keeps
from being emitted are dropped, and the fraction is kept (log 14). -/
def runCount (l : Lane) (s : State) : State :=
  let x := s.lane.get l
  let total := x.acc + x.ratioNow
  laneSteps l (total / 65536) (s.setLane l { x with acc := total % 65536 })

/-- Whether a phase count lies inside some run of a list. -/
def insideAny (runs : List Span) (p : Nat) : Bool := runs.any (·.has p)

/-- R129: the run-end test at phase count `p`. -/
def runEnds (x : LaneCtl) (p : Nat) : Bool :=
  x.state == .run && !(x.run.any (·.has p)) && !insideAny x.runList p && x.runSteps % 4 == 0

/-- R127, R129: a forward count taken in RUN. -/
def laneRun (l : Lane) (p : Nat) (s : State) : State :=
  let s1 := runCount l s
  if runEnds (s1.lane.get l) p then s1.setLane l (endRun (s1.lane.get l)) else s1

/-- R126: the lane as a run starts. -/
def startRun (ratio : Nat) (r : Span) (x : LaneCtl) : LaneCtl :=
  { x with state := .run, run := some r, ratioNow := ratio, acc := 0, runSteps := 0, motion := 0 }

/-- R126, R127: a lane takes a forward count; `p` is the phase count of F that the count published. -/
def laneCount (l : Lane) (p : Nat) (s : State) : State :=
  let x := s.lane.get l
  match x.state with
  | .run => laneRun l p s
  | .dwell =>
    if x.hold then
      if insideAny x.runList p then s else s.setLane l { x with hold := false }
    else if (s.seq.get .f).state = .on then
      match x.runList.find? (·.has p) with
      | some r => laneRun l p (s.setLane l (startRun (s.items.lane.get l).ratio r x))
      | none => s
    else s
  | _ => s

/-- The lanes take a forward count, in the order of their numbers (log 10). -/
def lanesCount (s : State) : State :=
  let p := (s.phase.get .f).pub / 256
  laneCount .l3 p (laneCount .l2 p (laneCount .l1 p (laneCount .l0 p s)))

end Sys2Proof.Machine
end

