-- ==== Sys2Proof/Machine/SwapOps.lean ====
section
/-! DEFINITION. The swap of a sheet (R114) with its effect on each block that reads the sheet, and the
boundary of F that may bring it (R8, R113). -/

namespace Sys2Proof.Machine

/-- R21: the tracker leaves IDLE for SEARCH, or goes to IDLE: counts 0 and coast waiting clear. -/
def trackerTo (st : TrackerState) (t : Tracker) : Tracker :=
  { t with state := st, k := 0, coast := 0, waiting := false }

/-- R21: whether the tracker may be out of IDLE. -/
def State.canTrack (s : State) : Bool := s.sheets.active.isSome && geometrySet s.items.geo

/-- R21: the tracker follows the active sheet and the geometry. -/
def settleTracker (s : State) : State :=
  if s.tracker.state = .idle then
    if s.canTrack then { s with tracker := trackerTo .search s.tracker } else s
  else if s.canTrack then s
  else { s with tracker := trackerTo .idle s.tracker }

/-- R29: the tracker at a swap that changes the repeat length. -/
def trackerNewLength (t : Tracker) : Tracker :=
  match t.state with
  | .locked | .coast | .lost => { t with state := .lost, k := 0 }
  | .search => { t with k := 0 }
  | .idle => t

/-- R21, R29: the tracker at a swap. -/
def swapTracker (first changed : Bool) (s : State) : State :=
  if first then settleTracker s
  else if changed then { s with tracker := trackerNewLength s.tracker }
  else s

/-- R15: a phase generator at a swap that brings a first sheet or a new L_sub; whether the throw-phase
event fires comes with it. -/
def swapPhase (lSub throw : Nat) (p : Phase) : Phase × Bool :=
  let phi := p.phi % lSub
  let fires := phi / 256 == throw
  ({ p with phi := phi, hold := 0, armed := !fires, missOpen := false }, fires)

/-- R15: both phase generators at such a swap. -/
def swapPhases (p : SheetParams) (s : State) : State :=
  let (pf, tf) := swapPhase p.lSub p.throwF s.phase.f
  let (pe, te) := swapPhase p.lSub p.throwE s.phase.e
  let s1 := { s with phase := ⟨pf, pe⟩ }
  let s2 := if tf then throwPhaseEvent .f s1 else s1
  if te then throwPhaseEvent .e s2 else s2

/-- R73: the nudge is kept when the target is unchanged. -/
def swapLoop (old : Option SheetParams) (new : SheetParams) (c : Cyl) (x : Loop) : Loop :=
  match old with
  | some o => if o.target c = new.target c then x else { x with nudge := 0 }
  | none => { x with nudge := 0 }

/-- R93: a sequencer whose cylinder the new sheet does not use throws off with cause SHEET; for F it
also clears resume-pending. -/
def swapSeq (p : SheetParams) (c : Cyl) (s : State) : State :=
  if p.uses c then s else clearResume c (throwOff c .sheet s)

/-- R93, R136: a FAULTED lane with a base span in the new sheet throws F off if the sheet uses F. -/
def swapOrders (p : SheetParams) (s : State) : State :=
  if p.usesF && faultedWithSpans s then laneOrder s else s

/-- R114: a sheet becomes active. A throw-phase event that R15 fires is taken before the throw-off of R93, an
order that R84 leaves open (DESIGN CHOICE, log 41). -/
def swapTo (sh : Sheet) (s : State) : State :=
  let old := s.active?
  let first := old.isNone
  let changed := match old with
    | some o => o.lSub != sh.params.lSub
    | none => true
  let s1 := { s with sheets := { s.sheets with active := some sh, pending := none } }
  let s2 := if changed then swapPhases sh.params s1 else s1
  let s3 := swapTracker first changed s2
  let s4 := { s3 with loop := ⟨swapLoop old sh.params .f s3.loop.f, swapLoop old sh.params .e s3.loop.e⟩ }
  let s5 := swapSeq sh.params .e (swapSeq sh.params .f s4)
  rebuildAll (swapOrders sh.params s5)

/-- R113: the pending sheet, if there is one, is swapped. -/
def swapPending (s : State) : State :=
  match s.sheets.pending with
  | some sh => swapTo sh s
  | none => s

/-- R8: a revolution boundary is handed to the Job Sheet Store and then to the Lane Controllers
(log 11); that of E is without effect at both. -/
def handBoundary (c : Cyl) (s : State) : State :=
  match c with
  | .f => lanesBoundary (swapPending s)
  | .e => s

end Sys2Proof.Machine
end

