-- ==== Sys2Proof/Machine/PhaseOps.lean ====
section
/-! DEFINITION. The phase generators (1.3, 1.4): forward and backward steps, index arrivals, and what
they hand on. -/

namespace Sys2Proof.Machine

/-- What one step of a phase generator hands on. -/
structure PhaseOut where
  phase    : Phase
  boundary : Bool
  throwEv  : Bool
  lost     : Bool
  deriving DecidableEq, Repr

/-- R12: the miss point. -/
def missPoint (gate lSub : Nat) : Nat := min (gate * 256) (lSub / 2)

/-- R6, R8: the crossing decision of a forward step. -/
def crossing (lSub : Nat) (it : IndexItems) (p : Phase) : Phase × Bool :=
  let phi := p.phi + 256
  let hold := min (p.hold + 256) Config.holdMax
  if phi < lSub then ({ p with phi := phi, hold := hold }, false)
  else if hold < lSub / 2 then ({ p with phi := phi - lSub, hold := hold }, false)
  else
    ({ p with phi := phi - lSub, hold := 0, armed := true,
              missOpen := (it.source == .index && !p.indexLost) || p.missOpen }, true)

/-- R9: the throw-phase event, if throw armed is set and the phase count is the throw phase. -/
def throwTest (throw : Nat) (p : Phase) : Phase × Bool :=
  if p.armed && p.phi / 256 == throw then ({ p with armed := false }, true) else (p, false)

/-- R12, R13: a forward step that brings phi from `before` to the miss point counts a miss. -/
def missTest (lSub : Nat) (it : IndexItems) (before : Nat) (p : Phase) : Phase × Bool :=
  let mp := missPoint it.gate lSub
  if p.missOpen && decide (before < mp) && decide (mp ≤ p.phi) then
    if p.missCount < it.limit then
      let n := p.missCount + 1
      let lost := n == it.limit
      ({ p with missCount := n, missOpen := false, indexLost := p.indexLost || lost }, lost)
    else ({ p with missOpen := false }, false)
  else (p, false)

/-- R6: a forward step. -/
def forwardStep (lSub throw : Nat) (it : IndexItems) (p : Phase) : PhaseOut :=
  let (p1, boundary) := crossing lSub it p
  let (p2, throwEv) := throwTest throw p1
  let (p3, lost) := missTest lSub it p.phi p2
  { phase := p3, boundary := boundary, throwEv := throwEv, lost := lost }

/-- R7: a backward step. -/
def backwardStep (lSub : Nat) (p : Phase) : PhaseOut :=
  { phase := { p with phi := if p.phi < 256 then p.phi + lSub - 256 else p.phi - 256 },
    boundary := false, throwEv := false, lost := false }

/-- R10: the deviation of an arrival at phase `phi`. -/
def deviation (lSub phi : Nat) : Int := if 2 * phi ≤ lSub then phi else (phi : Int) - lSub

/-- R10: an index arrival in source INDEX, forward, with a sheet active. -/
def indexStep (lSub throw : Nat) (p : Phase) : PhaseOut :=
  let boundary := decide (lSub / 2 ≤ p.hold)
  let armed := p.armed || boundary
  let fires := armed && throw == 0
  { phase := { p with phi := 0, hold := (if boundary then 0 else p.hold), armed := armed && !fires,
                      missOpen := false, missCount := 0, indexLost := false,
                      lastDev := deviation lSub p.phi, arrivals := satInc p.arrivals },
    boundary := boundary, throwEv := fires, lost := false }

/-- R6, R13: a step handed on: the boundary, the throw-phase event, then INDEX_LOST if a counted miss
brought it. -/
def handStep (c : Cyl) (o : PhaseOut) (s : State) : State :=
  let s1 := if o.boundary then handBoundary c s else s
  let s2 := if o.throwEv then throwPhaseEvent c s1 else s1
  raiseIf o.lost ⟨.indexLost, .cyl c, none, o.phase.missCount⟩ s2

/-- R6, R7: a step of one cylinder against the active sheet; R5: none while no sheet is active. -/
def stepOf (d : TrimDir) (c : Cyl) (s : State) : Option PhaseOut :=
  s.active?.map fun p =>
    match d with
    | .advance => forwardStep p.lSub (p.throw c) (s.items.index.get c) (s.phase.get c)
    | .retard => backwardStep p.lSub (s.phase.get c)

/-- R80: a trim pulse as a step of its own cylinder's phase. -/
def stepPhase (d : TrimDir) (c : Cyl) (s : State) : State :=
  match stepOf d c s with
  | some o => handStep c o (s.setPhase c o.phase)
  | none => s

/-- R2, R6: a count's step of both cylinders, each taken against the sheet active at the step, and
handed on for F and then for E (log 10). -/
def stepBoth (d : TrimDir) (s : State) : State :=
  match stepOf d .f s, stepOf d .e s with
  | some a, some b => handStep .e b (handStep .f a { s with phase := ⟨a.phase, b.phase⟩ })
  | _, _ => s

/-- R2: the count published: both phases as they stand after it. -/
def publish (s : State) : State :=
  { s with phase := ⟨{ s.phase.f with pub := s.phase.f.phi }, { s.phase.e with pub := s.phase.e.phi }⟩ }

end Sys2Proof.Machine
end

