-- ==== Sys2Proof/Machine/TrimOps.lean ====
section
/-! DEFINITION. The trim emitters (5.1) and the trim accounts they drain (R66). -/

namespace Sys2Proof.Machine

/-- R79: the direction a pending trim asks for; the level stays when P is 0. -/
def trimDir (p : Int) (old : TrimDir) : TrimDir :=
  if 0 < p then .advance else if p < 0 then .retard else old

/-- R78: the step time of a latched interval. -/
def stepTime (t : Nat) : Nat := t / 2

/-- R78: the setup time of a latched interval. -/
def setupTime (t : Nat) : Nat := t - t / 2

/-- R66: P one toward 0, N one in the pulse's direction, A unchanged. -/
def pulseAccount (x : Loop) : Loop :=
  if 0 < x.p then { x with p := x.p - 1, n := x.n + 1 }
  else if x.p < 0 then { x with p := x.p + 1, n := x.n - 1 }
  else x

/-- R78: the emitter as a pulse rises: t latched, the last step time set. -/
def pulseEmitter (now interval : Nat) (x : Emitter) : Emitter :=
  { x with state := .step, tstp := true, t := interval, lastStep := some now }

/-- R79: TDIR turns: t latched, the last turn time set. -/
def turnEmitter (now interval : Nat) (d : TrimDir) (x : Emitter) : Emitter :=
  { x with tdir := d, t := interval, lastTurn := some now }

/-- R78, R80: a trim pulse: the emitter, the accounts, and the cylinder's phase. -/
def emitPulse (c : Cyl) (s : State) : State :=
  let d := trimDir (s.loop.get c).p (s.emit.get c).tdir
  let s1 := s.setEmit c (pulseEmitter s.now s.items.act.trimInterval (s.emit.get c))
  let s2 := s1.setLoop c (pulseAccount (s1.loop.get c))
  stepPhase d c s2

/-- R79: in IDLE or SPACE, TDIR turns at once to the sign of P. -/
def turnIfNeeded (c : Cyl) (s : State) : State :=
  let x := s.emit.get c
  let d := trimDir (s.loop.get c).p x.tdir
  if d = x.tdir then s else s.setEmit c (turnEmitter s.now s.items.act.trimInterval d x)

/-- R78, R79: the emitter after P has been changed by a correction or a TRIM MOVE. -/
def trimChanged (c : Cyl) (s : State) : State :=
  let x := s.emit.get c
  let p := (s.loop.get c).p
  match x.state with
  | .idle =>
    if p = 0 then s
    else if trimDir p x.tdir = x.tdir then emitPulse c s
    else
      let s1 := turnIfNeeded c s
      s1.setEmit c { s1.emit.get c with state := .space }
  | .space => turnIfNeeded c s
  | .step => s

/-- R78: the instant at which TSTP falls. -/
def stepTimeDue (x : Emitter) : Nat := x.lastStep.getD 0 + stepTime x.t

/-- R78: the instant at which SPACE ends: the later of the last step time plus t and the last turn
time plus the setup time (log 20). -/
def spaceDue (x : Emitter) : Nat :=
  max ((x.lastStep.map (· + x.t)).getD 0) ((x.lastTurn.map (· + setupTime x.t)).getD 0)

end Sys2Proof.Machine
end

