-- ==== Sys2Proof/Machine/LoopOps.lean ====
section
/-! DEFINITION. The register loops: the measurement, the error and the correction (4.1 to 4.3). -/

namespace Sys2Proof.Machine

/-- R60: the live target. -/
def liveTarget (lSub target : Nat) (nudge : Int) : Int := ((target : Int) + nudge * 256) % lSub

/-- R59: the published phase referred back to the due point. -/
def measuredPhase (lSub pub : Nat) (lateness : Int) : Int := ((pub : Int) - 256 * lateness) % lSub

/-- R61: the error in sub-counts, wrapped into one revolution centred on zero. -/
def errorSub (lSub : Nat) (measured live : Int) : Int :=
  let r := (measured - live) % lSub
  if ((lSub + 1) / 2 : Nat) ≤ r then r - lSub else r

/-- R62: the error in counts. -/
def errorCounts (eSub : Int) : Int := roundDiv eSub 256

/-- R64: the correction of an effective error: deadband, gain, slew. -/
def correction (it : LoopItems) (eEff : Int) : Int :=
  if eEff.natAbs ≤ it.deadband then 0
  else clamp (-it.slew) it.slew (-(roundDiv (eEff * it.gain) 16))

/-- R65: the range step: c reduced so that A + c stays within Amax. -/
def rangeStep (amax : Nat) (a c : Int) : Int := clamp (-amax) amax (a + c) - a

/-- R65: whether the range step raises TRIM_LIMIT. -/
def rangeExceeded (amax : Nat) (a c : Int) : Bool := amax < (a + c).natAbs

/-- The records with one of them changed. -/
def changeAt (k : Nat) (g : LabelRecord → LabelRecord) (rs : List LabelRecord) :
    List LabelRecord := rs.modify k g

/-- The record at an index of the track changed. -/
def State.changeRecord (s : State) (k : Nat) (g : LabelRecord → LabelRecord) : State :=
  { s with track := { s.track with records := changeAt k g s.track.records } }

def noMeasure : Cyl → Reason
  | .f => .fNoMeasure
  | .e => .eNoMeasure

def outOfRegister : Cyl → Reason
  | .f => .fOor
  | .e => .eOor

/-- e_F or e_E written into a record. -/
def putError (c : Cyl) (e : Int) (r : LabelRecord) : LabelRecord :=
  match c with
  | .f => { r with eF := some e }
  | .e => { r with eE := some e }

/-- c_F or c_E written into a record. -/
def putCorr (c : Cyl) (x : Int) (r : LabelRecord) : LabelRecord :=
  match c with
  | .f => { r with cF := some x }
  | .e => { r with cE := some x }

def withReason (x : Reason) (r : LabelRecord) : LabelRecord :=
  { r with reasons := addReason x r.reasons }

/-- R65: the correction committed: A and P rise by it, and the emitter is told. -/
def commitTrim (c : Cyl) (x : Int) (s : State) : State :=
  let l := s.loop.get c
  trimChanged c (s.setLoop c { l with a := l.a + x, p := l.p + x })

/-- R64, R65: a valid measurement in AUTO goes on to its correction. -/
def correct (c : Cyl) (k : Nat) (serial : BitVec 16) (e : Int) (s : State) : State :=
  let it := s.items.loop.get c
  let l := s.loop.get c
  let wanted := correction it (e + l.p)
  let x := rangeStep it.amax l.a wanted
  let s1 := raiseIf (rangeExceeded it.amax l.a wanted)
    ⟨.trimLimit, .cyl c, some serial, wanted⟩ s
  let s2 := s1.changeRecord k (putCorr c x)
  let s3 := s2.setLoop c { s2.loop.get c with lastCorr := some x }
  commitTrim c x s3

/-- R63: the run count after a measurement, and whether REGISTER_RUN is raised. -/
def runAfter (it : LoopItems) (e : Int) (run : Nat) : Nat × Bool :=
  if it.tol < e.natAbs then
    if it.runLength ≤ run + 1 then (0, true) else (run + 1, false)
  else (0, false)

/-- R62, R63: a valid measurement gave the error `e` for the record at index `k`. -/
def judge (c : Cyl) (k : Nat) (serial : BitVec 16) (e : Int) (s : State) : State :=
  let it := s.items.loop.get c
  let l := s.loop.get c
  let (run, raised) := runAfter it e l.run
  let s1 := s.changeRecord k (putError c e)
  let s2 := if it.tol < e.natAbs then s1.changeRecord k (withReason (outOfRegister c)) else s1
  let s3 := s2.setLoop c
    { l with lastSerial := some serial, lastErr := some e, run := run,
             lastCorr := if l.mode = .measure then none else l.lastCorr }
  let s4 := raiseIf raised ⟨.registerRun, .cyl c, some serial, e⟩ s3
  if l.mode = .auto then correct c k serial e s4 else s4

/-- R57, R58: the loop of a cylinder takes the record at index `k` at its nip event; `known` says
whether the label's position is known, `due` is its due point. -/
def measure (c : Cyl) (k : Nat) (rec : LabelRecord) (known : Bool) (due : Pos) (s : State) : State :=
  match s.active? with
  | none => s
  | some p =>
    if !p.uses c then s
    else if (s.loop.get c).mode = .off ∨ (s.phase.get c).indexLost ∨ !known then
      s.changeRecord k (withReason (noMeasure c))
    else
      let m := measuredPhase p.lSub (s.phase.get c).pub (posDiff s.web.w due)
      let t := liveTarget p.lSub (p.target c) (s.loop.get c).nudge
      judge c k rec.serial (errorCounts (errorSub p.lSub m t)) s

end Sys2Proof.Machine
end

