-- ==== Sys2Proof/Machine/TrackOps.lean ====
section
/-! DEFINITION. The Label Track: creation, the five stations and their events, removals (chapter 3). -/

namespace Sys2Proof.Machine

/-- R45: the reject output re-evaluated. -/
def reevalRej (t : Track) : Track := { t with rej := rejectLevel t.records }

/-- R37, R46: the oldest record leaves the track: every cursor that stood on it moves to the next. -/
def dropOldest (t : Track) : Track :=
  reevalRej
    { t with records := t.records.tail, nip := t.nip - 1, gate := t.gate - 1,
             emboss := t.emboss - 1, marker := t.marker - 1, gateHeld := t.gateHeld && t.gate != 0 }

/-- R47: the newest record leaves the track: every cursor that stood on it becomes none. -/
def dropNewest (t : Track) : Track :=
  let n := t.records.length - 1
  reevalRej
    { t with records := t.records.dropLast, nip := min t.nip n, gate := min t.gate n,
             emboss := min t.emboss n, marker := min t.marker n,
             gateHeld := t.gateHeld && t.gate != n }

/-- R48: the track emptied. -/
def emptyTrack (t : Track) : Track :=
  { t with records := [], nip := 0, gate := 0, emboss := 0, marker := 0, gateHeld := false,
           rej := false }

/-- R36: a new record. -/
def newRecord (serial : BitVec 16) (o : Origin) (r : Pos) (width : Option Nat) : LabelRecord :=
  { serial := serial, origin := o, r := r, width := width, gen := none, fOn := none,
    parked := ⟨false, false, false, false⟩, eF := none, cF := none, foil := none, refUsed := none,
    eE := none, cE := none,
    reasons := if o = .predicted then addReason .unregistered 0 else 0,
    verdict := .pending }

/-- R37: room for one record: the oldest of 64 is dropped and the overflow counter rises. -/
def makeRoom (t : Track) : Track :=
  if Config.trackMax ≤ t.records.length then
    { dropOldest t with overflow := satInc t.overflow }
  else t

/-- R36, R37: a record is created with the next serial and placed as the newest. -/
def createIn (o : Origin) (r : Pos) (width : Option Nat) (t : Track) : Track :=
  let t1 := makeRoom t
  { t1 with records := t1.records ++ [newRecord t1.nextSerial o r width],
            nextSerial := t1.nextSerial + 1 }

def createRecord (o : Origin) (r : Pos) (width : Option Nat) (s : State) : State :=
  { s with track := createIn o r width s.track }

/-! ## Foil nip -/

/-- R39: the lanes that are PARKED or CHECK and have a base span in the active sheet. -/
def parkedLanes (s : State) : PerLane Bool :=
  s.lane.map fun l x => (x.state == .parked || x.state == .check) && s.hasSpans l

def anyLane (p : PerLane Bool) : Bool := p.l0 || p.l1 || p.l2 || p.l3

/-- R39: the fields and reasons that the Label Track writes at the foil nip. -/
def nipFields (gen : Option Nat) (usesF fOn : Bool) (parked : PerLane Bool) (r : LabelRecord) :
    LabelRecord :=
  let rs1 := if usesF && !fOn then addReason .fOff r.reasons else r.reasons
  let rs2 := if anyLane parked then addReason .laneParked rs1 else rs1
  { r with gen := gen, fOn := some fOn, parked := parked, reasons := rs2 }

/-- R39: the foil nip event of the record at the cursor. -/
def nipEvent (rec : LabelRecord) (s : State) : State :=
  let k := s.track.nip
  let gen := s.sheets.active.map (·.gen)
  let usesF := (s.active?.map (·.usesF)).getD false
  let s1 := s.changeRecord k (nipFields gen usesF ((s.seq.get .f).state == .on) (parkedLanes s))
  let s2 := { s1 with track := { s1.track with nip := k + 1 } }
  measure .f k rec (rec.origin == .marked) (posAdd rec.r s.items.geo.dF) s2

/-- R38: the foil nip station on a forward count. -/
def serveNip : Nat → State → State
  | 0, s => s
  | n + 1, s =>
    match s.track.records[s.track.nip]? with
    | none => s
    | some rec =>
      if reached s.web.w (posAdd rec.r s.items.geo.dF) then serveNip n (nipEvent rec s) else s

/-! ## Foil gate close -/

/-- R30, R31: a position lies in the foil gate of a record. -/
def inFoilGate (s : State) (rec : LabelRecord) (x : Pos) : Bool :=
  (posDiff x (posAdd rec.r s.items.geo.dFS)).natAbs ≤ s.items.mark.gF

/-- R40: the gate-close due point of a record is reached. -/
def gateDue (s : State) (rec : LabelRecord) : Bool :=
  reached s.web.w (posAdd rec.r (s.items.geo.dFS + s.items.mark.gF))

/-- R31: a foil measurement is in progress whose leading edge lies in the record's gate. -/
def gateBusy (s : State) (rec : LabelRecord) : Bool :=
  s.qual.foil.state == .measuring && inFoilGate s rec s.qual.foil.lead

/-- R40: the gate-close event of the record at the cursor is taken. -/
def gateTaken (s : State) : State :=
  { s with track := { s.track with gate := s.track.gate + 1, gateHeld := false } }

/-- R38, R40: the gate-close station: it stays on a record whose event is held. -/
def serveGate : Nat → State → State
  | 0, s => s
  | n + 1, s =>
    match s.track.records[s.track.gate]? with
    | none => s
    | some rec =>
      if s.track.gateHeld then s
      else if gateDue s rec then
        if gateBusy s rec then { s with track := { s.track with gateHeld := true } }
        else serveGate n (gateTaken s)
      else s

/-! ## Emboss nip -/

/-- R42: the emboss reference used for a record. -/
def refUsedFor (ref : EmbossRef) (rec : LabelRecord) : RefUsed :=
  match ref, rec.foil with
  | .print, _ => .print
  | .foil, some _ => .foil
  | .foil, none => .fallback

/-- The emboss reference of the active sheet. -/
def embossRef (s : State) : EmbossRef := (s.active?.map (·.ref)).getD .print

/-- R41, R59: the due point of a record at the emboss nip with the reference used. -/
def embossPoint (s : State) (rec : LabelRecord) : Pos :=
  match embossRef s, rec.foil with
  | .foil, some (mf, _) => posAdd mf (s.items.geo.dE - s.items.geo.dFS)
  | _, _ => posAdd rec.r s.items.geo.dE

/-- R41: the emboss nip of the record at index `k` is due. -/
def embossDue (s : State) (k : Nat) (rec : LabelRecord) : Bool :=
  (embossRef s == .print || rec.foil.isSome || decide (k < s.track.gate)) &&
    reached s.web.w (embossPoint s rec)

/-- R42: the fields and reasons that the Label Track writes at the emboss nip. -/
def embossFields (used : RefUsed) (eOff : Bool) (r : LabelRecord) : LabelRecord :=
  let rs1 := if used = .fallback then addReason .eFallback r.reasons else r.reasons
  let rs2 := if eOff then addReason .eOff rs1 else rs1
  { r with refUsed := some used, reasons := rs2 }

/-- R42: the active sheet uses E and Impression Sequencer E is not ON. -/
def embossOff (s : State) : Bool :=
  (s.active?.map (·.usesE)).getD false && (s.seq.get .e).state != .on

/-- R58: whether the label's position is known for the reference used. -/
def embossKnown (used : RefUsed) (rec : LabelRecord) : Bool :=
  match used with
  | .foil => rec.foil.isSome
  | .print | .fallback => rec.origin == .marked

/-- R42: the emboss nip event of the record at the cursor. -/
def embossEvent (rec : LabelRecord) (s : State) : State :=
  let k := s.track.emboss
  let used := refUsedFor (embossRef s) rec
  let s1 := s.changeRecord k (embossFields used (embossOff s))
  let s2 := { s1 with track := { s1.track with emboss := k + 1 } }
  measure .e k rec (embossKnown used rec) (embossPoint s rec) s2

/-- R38, R41: the emboss nip station. -/
def serveEmboss : Nat → State → State
  | 0, s => s
  | n + 1, s =>
    match s.track.records[s.track.emboss]? with
    | none => s
    | some rec =>
      if embossDue s s.track.emboss rec then serveEmboss n (embossEvent rec s) else s

/-! ## Marker and removal -/

/-- R43: the emboss nip of the record at index `k` is brought forward by the marker: no measurement. -/
def embossByMarker (k : Nat) (rec : LabelRecord) (s : State) : State :=
  let used := refUsedFor (embossRef s) rec
  let s1 := s.changeRecord k
    (fun r => withReason .eNoMeasure (embossFields used (embossOff s) r))
  let s2 := { s1 with track := { s1.track with emboss := k + 1 } }
  serveEmboss s2.track.records.length s2

/-- R44: the verdict of the record at index `k`. -/
def verdictIn (mask : Reasons) (k : Nat) (t : Track) : Track :=
  match t.records[k]? with
  | none => t
  | some rec =>
    if rejected rec.reasons mask then
      reevalRej { t with records := changeAt k (fun r => { r with verdict := .reject }) t.records,
                         bad := satInc t.bad }
    else
      reevalRej { t with records := changeAt k (fun r => { r with verdict := .good }) t.records,
                         good := satInc t.good }

/-- R43, R44: the marker event of the record at the cursor. -/
def markerEvent (rec : LabelRecord) (s : State) : State :=
  let k := s.track.marker
  let s1 := if s.track.emboss ≤ k then embossByMarker k rec s else s
  let t := verdictIn s1.items.rejectMask k s1.track
  { s1 with track := { t with marker := k + 1 } }

/-- R38: the marker station. -/
def serveMarker : Nat → State → State
  | 0, s => s
  | n + 1, s =>
    match s.track.records[s.track.marker]? with
    | none => s
    | some rec =>
      if reached s.web.w (posAdd rec.r s.items.geo.dR) then serveMarker n (markerEvent rec s)
      else s

/-- R46: the removal station. -/
def serveRemoval : Nat → State → State
  | 0, s => s
  | n + 1, s =>
    match s.track.records with
    | [] => s
    | rec :: _ =>
      if reached s.web.w (posAdd rec.r (s.items.geo.dR + s.items.geo.markerWidth)) then
        serveRemoval n { s with track := dropOldest s.track }
      else s

/-- R38: the stations on a forward count, in the order of the table of 3.2. -/
def serveStations (s : State) : State :=
  let n := s.track.records.length
  serveRemoval n (serveMarker n (serveEmboss n (serveGate n (serveNip n s))))

/-- R40, R41: a foil measurement has ended: a held gate-close event is released, the younger records
whose gate-close point is reached follow, and the emboss station is tested from its cursor on, which may
stand on an older record than the released one (DESIGN CHOICE, log 38). -/
def releaseGate (s : State) : State :=
  if s.track.gateHeld then
    let n := s.track.records.length
    serveEmboss n (serveGate n (gateTaken s))
  else s

/-! ## Reverse motion -/

/-- R28: the tracker's expectation moved back for a removed record: every removal subtracts L_sub. Past a
removed MARKED record that did not lie a repeat before the next one, and for a record taken back after a swap
that changed L_sub, that is not R × 256 (DESIGN CHOICE, log 36). -/
def rollback (lSub : Nat) (o : Origin) (t : Tracker) : Tracker :=
  match t.state with
  | .locked | .lost => { t with eSub := t.eSub - BitVec.ofNat 40 lSub }
  | .coast =>
    { t with eSub := t.eSub - BitVec.ofNat 40 lSub,
             coast := if o = .predicted then t.coast - 1 else t.coast }
  | .idle | .search => t

/-- R28, R47: every record whose R lies ahead of W is removed, newest first. L_sub is that of the sheet active
at the removal, so after a swap that changed it not even the newest record taken back leaves E_sub at
R × 256, or at the expectation that a PREDICTED one was made from (DESIGN CHOICE, log 36). -/
def reverseRemoval : Nat → State → State
  | 0, s => s
  | n + 1, s =>
    match s.track.records.getLast? with
    | none => s
    | some rec =>
      if 0 < posDiff rec.r s.web.w then
        let lSub := (s.active?.map (·.lSub)).getD 0
        reverseRemoval n
          { s with track := dropNewest s.track, tracker := rollback lSub rec.origin s.tracker }
      else s

end Sys2Proof.Machine
end

