-- ==== Sys2Proof/Machine/MarkOps.lean ====
section
/-! DEFINITION. The Mark Trackers: width qualification, the print tracker, foil assignment (chapter 2),
and a whole count with everything it causes (R2). -/

namespace Sys2Proof.Machine

/-! ## The print tracker -/

/-- The repeat length of the active sheet; 0 with none, when the tracker is IDLE. -/
def State.lSub (s : State) : Nat := (s.active?.map (·.lSub)).getD 0

/-- R24: a leading edge lies in the gate of E_sub. -/
def inPrintGate (s : State) (x : Pos) : Bool :=
  (subDiff (subPos x) s.tracker.eSub).natAbs ≤ s.items.mark.gP * 256

/-- R25: the coast point is reached. -/
def coastPoint (s : State) : Bool :=
  0 ≤ subDiff (subPos s.web.w) (subAdd s.tracker.eSub (s.items.mark.gP * 256))

/-- R25, R26, R27: the tracker coasts: a PREDICTED record, E_sub a repeat on, and outside LOST the
coast count and, at the coast limit, MARK_LOST. -/
def coast (s : State) : State :=
  let serial := s.track.nextSerial
  let s1 := createRecord .predicted (roundSub s.tracker.eSub) none s
  let t := { s1.tracker with eSub := subAdd s1.tracker.eSub s.lSub }
  if t.state = .lost then { s1 with tracker := t }
  else
    let n := t.coast + 1
    if s.items.mark.coastLimit ≤ n then
      raise ⟨.markLost, .tracker, some serial, n⟩
        { s1 with tracker := { t with state := .lost, coast := n, k := 0 } }
    else { s1 with tracker := { t with state := .coast, coast := n } }

/-- R25, R27: the decision waits for the measurement in progress. -/
def coastWaits (s : State) : Bool :=
  s.qual.print.state == .measuring &&
    (s.tracker.state == .lost || inPrintGate s s.qual.print.lead)

/-- R25, R27: the coast test on a forward count. -/
def coastTest (s : State) : State :=
  match s.tracker.state with
  | .locked | .coast | .lost =>
    if s.tracker.waiting then s
    else if coastPoint s then
      if coastWaits s then { s with tracker := { s.tracker with waiting := true } } else coast s
    else s
  | .idle | .search => s

/-- R23, R24: a MARKED record at X; E_sub a repeat on; LOCKED, with the coast count 0 and coast
waiting clear. -/
def acceptMark (x : Pos) (width : Nat) (s : State) : State :=
  let s1 := createRecord .marked x (some width) s
  { s1 with tracker := { s1.tracker with
      state := .locked, eSub := subAdd (subPos x) s.lSub, coast := 0, waiting := false } }

/-- R23: the lock: as an accepted mark, with the acquisition count 0. -/
def lock (x : Pos) (width : Nat) (s : State) : State :=
  let s1 := acceptMark x width s
  { s1 with tracker := { s1.tracker with k := 0 } }

/-- R22: the spacing test against the latest candidate. -/
def spacingPasses (s : State) (x : Pos) : Bool :=
  (subDiff (subPos x) (subAdd (subPos s.tracker.q) s.lSub)).natAbs ≤ s.items.mark.gP * 256

/-- R22: an acquisition step. -/
def acquire (x : Pos) (width : Nat) (s : State) : State :=
  if s.tracker.k = 0 ∨ !spacingPasses s x then
    { s with tracker := { s.tracker with q := x, k := 1 } }
  else
    let s1 := { s with tracker := { s.tracker with q := x, k := s.tracker.k + 1 } }
    if s.items.mark.acquire ≤ s1.tracker.k then lock x width s1 else s1

/-- A stray counter rises (R24, R30). -/
def countStray (x : Sensor) (s : State) : State :=
  s.setQual x { s.qual.get x with strays := satInc (s.qual.get x).strays }

/-- R22, R24: the tracker takes a qualified print mark. -/
def printMark (x : Pos) (width : Nat) (s : State) : State :=
  match s.tracker.state with
  | .idle => s
  | .search | .lost => acquire x width s
  | .locked | .coast => if inPrintGate s x then acceptMark x width s else countStray .print s

/-! ## Foil assignment -/

/-- R30: the index of the oldest record that takes a foil mark at `mf`: its gate is not closed
(R40), it has no foil mark, and its gate holds `mf`. -/
def foilTaker (s : State) (mf : Pos) : Option Nat :=
  (List.range s.track.records.length).find? fun k =>
    match s.track.records[k]? with
    | some rec => s.track.gate ≤ k && rec.foil.isNone && inFoilGate s rec mf
    | none => false

/-- R30: the foil mark and its offset written into a record. -/
def putFoil (dFS : Nat) (mf : Pos) (r : LabelRecord) : LabelRecord :=
  { r with foil := some (mf, posDiff mf (posAdd r.r dFS)) }

/-- R30: a qualified foil mark is assigned, or is a stray. -/
def foilMark (mf : Pos) (s : State) : State :=
  match foilTaker s mf with
  | some k => s.changeRecord k (putFoil s.items.geo.dFS mf)
  | none => countStray .foil s

/-! ## Qualification -/

/-- R20: the notice that a measurement has ended: a waiting coast decision is taken, held gate-close
events are released. -/
def measurementEnded (x : Sensor) (s : State) : State :=
  match x with
  | .print =>
    if s.tracker.waiting then coast { s with tracker := { s.tracker with waiting := false } } else s
  | .foil => releaseGate s

/-- A qualified mark is handed on (R20). -/
def qualified (x : Sensor) (lead : Pos) (width : Nat) (s : State) : State :=
  match x with
  | .print => printMark lead width s
  | .foil => foilMark lead s

/-- R20: a measurement ends without a qualified mark. -/
def rejectMark (x : Sensor) (st : QualState) (s : State) : State :=
  let q := s.qual.get x
  measurementEnded x (s.setQual x { q with state := st, rejects := satInc q.rejects })

/-- R19: the width limits in force for a sensor. -/
def widthLimits (s : State) : Sensor → Nat × Nat
  | .print => (s.items.mark.pwMin, s.items.mark.pwMax)
  | .foil => (s.items.mark.fwMin, s.items.mark.fwMax)

/-- R19: a rising edge that finds the qualifier WAITING. -/
def leadingEdge (x : Sensor) (s : State) : State :=
  let q := s.qual.get x
  match q.state with
  | .waiting =>
    match s.web.dir with
    | .forward =>
      s.setQual x
        { q with state := .measuring, lead := s.web.w, min := (widthLimits s x).1,
                 max := (widthLimits s x).2 }
    | .reverse => s.setQual x { q with state := .discarding, rejects := satInc q.rejects }
  | .measuring | .discarding => s

/-- R20: a falling edge. -/
def trailingEdge (x : Sensor) (s : State) : State :=
  let q := s.qual.get x
  match q.state with
  | .waiting => s
  | .discarding => s.setQual x { q with state := .waiting }
  | .measuring =>
    let width := posDiff s.web.w q.lead
    if (q.min : Int) ≤ width ∧ width ≤ q.max then
      measurementEnded x (qualified x q.lead width.toNat (s.setQual x { q with state := .waiting }))
    else rejectMark x .waiting s

/-- R20: a forward count at a qualifier: too wide at W_lead + max + 1. -/
def qualForward (x : Sensor) (s : State) : State :=
  let q := s.qual.get x
  if q.state = .measuring ∧ s.web.w = posAdd q.lead (q.max + 1) then rejectMark x .discarding s
  else s

/-- R20: a reverse count at a qualifier. -/
def qualReverse (x : Sensor) (s : State) : State :=
  if (s.qual.get x).state = .measuring then rejectMark x .discarding s else s

/-! ## A whole count (R2) -/

/-- R2: W, the direction and the gate tally. -/
def moveWeb (d : Direction) (x : Web) : Web :=
  match d with
  | .forward => { x with w := x.w + 1, dir := .forward, tally := x.tally + 1 }
  | .reverse => { x with w := x.w - 1, dir := .reverse, tally := x.tally - 1 }

/-- R2: a forward count: W, both phases, then the Label Track, the Mark Trackers and the lanes. The
stations come before the trackers, so that they test a record created on the count on the next one
(R38; log 10). -/
def forwardCount (s : State) : State :=
  let s1 := publish (stepBoth .advance { s with web := moveWeb .forward s.web })
  let s2 := serveStations s1
  lanesCount (coastTest (qualForward .foil (qualForward .print s2)))

/-- R2: a reverse count: W, both phases, then the Mark Trackers and the Label Track (log 10). -/
def reverseCount (s : State) : State :=
  let s1 := publish (stepBoth .retard { s with web := moveWeb .reverse s.web })
  let s2 := qualReverse .foil (qualReverse .print s1)
  reverseRemoval s2.track.records.length s2

end Sys2Proof.Machine
end

