-- ==== Sys2Proof/Machine/ConfigOps.lean ====
section
/-! DEFINITION. The configuration items: the value in force (R179) and the write of each under the rule
that owns it (R4, R14, R32, R49, R51, R75, R81, R94, R120, R144, R154, R159). -/

namespace Sys2Proof.Machine

/-- The result of a request's own rule and the body of its reply. -/
structure Reply where
  result : Result
  body   : List Byte
  deriving DecidableEq, Repr

/-! ## The value in force -/

def webValue (it : WebItems) : WebItem → Nat
  | .encoderDirection => it.inverted.toNat
  | .stopThreshold => it.threshold
  | .speedScale => it.scale

def indexValue (it : IndexItems) : IndexItem → Nat
  | .phaseSource => PhaseSource.code it.source
  | .indexGate => it.gate
  | .indexTolerance => it.tol
  | .missLimit => it.limit

def markValue (it : MarkItems) : MarkItem → Nat
  | .printWidthMin => it.pwMin
  | .printWidthMax => it.pwMax
  | .printGate => it.gP
  | .acquireCount => it.acquire
  | .coastLimit => it.coastLimit
  | .foilWidthMin => it.fwMin
  | .foilWidthMax => it.fwMax
  | .foilGate => it.gF

def geoValue (it : GeoItems) : GeoItem → Nat
  | .dF => it.dF
  | .dFS => it.dFS
  | .dE => it.dE
  | .dR => it.dR
  | .markerWidth => it.markerWidth

def loopValue (it : LoopItems) : LoopItem → Nat
  | .gain => it.gain
  | .deadband => it.deadband
  | .slewLimit => it.slew
  | .tolerance => it.tol
  | .amax => it.amax
  | .runLength => it.runLength

def actValue (it : ActItems) : ActItem → Nat
  | .engageTimeout c => it.engage.get c
  | .releaseTimeout c => it.release.get c
  | .stopDwell => it.stopDwell
  | .throwOffOnStop => it.throwOff.toNat
  | .autoResume => it.autoResume.toNat

def laneValue (it : LaneItems) : LaneItem → Nat
  | .ratio => it.ratio
  | .runOut => it.runOut
  | .minDwell => it.minDwell
  | .motionWindow => it.window
  | .lowThreshold => it.low
  | .parkTimeout => it.parkTimeout
  | .checkSteps => it.checkSteps
  | .checkInterval => it.checkInterval

/-- R179: the value of an item in force. -/
def itemValue (it : Items) : Item → Nat
  | .web i => webValue it.web i
  | .index i c => indexValue (it.index.get c) i
  | .mark i => markValue it.mark i
  | .geo i => geoValue it.geo i
  | .rejectMask => it.rejectMask.toNat
  | .loop i c => loopValue (it.loop.get c) i
  | .trimInterval => it.act.trimInterval
  | .act i => actValue it.act i
  | .mapping l => mappingCode (it.lane.get l).drive
  | .lane i l => laneValue (it.lane.get l) i
  | .freezeOnFirst => it.freeze.toNat
  | .alarmMask => it.alarmMask.toNat

/-! ## Constraints (R50) -/

/-- R50: a constraint that names distances is tested only when each of them is set. -/
def ifSet (ds : List Nat) (b : Bool) : Bool := ds.any (· == 0) || b

/-- R50: the constraints among the distances, the gates and the mark widths. -/
def spacingOk (g : GeoItems) (m : MarkItems) : Bool :=
  ifSet [g.dF, g.dFS] (g.dF < g.dFS) && ifSet [g.dF, g.dE] (g.dF < g.dE) &&
  ifSet [g.dF, g.dR] (g.dF < g.dR) && ifSet [g.dFS, g.dE] (g.dFS < g.dE) &&
  ifSet [g.dFS, g.dR] (g.dFS < g.dR) && ifSet [g.dE, g.dR] (g.dE < g.dR) &&
  ifSet [g.dF] (decide (m.gP + m.pwMax < g.dF)) &&
  ifSet [g.dE, g.dFS] (decide (m.gF + m.fwMax + g.dFS < g.dE)) &&
  decide (m.pwMax < m.gP)

/-- R50: the constraints with the integer length of a repeat. -/
def lengthOk (g : GeoItems) (m : MarkItems) (lc : Nat) : Bool :=
  ifSet [g.dR] (decide (g.dR ≤ 31 * lc)) && decide (4 * m.gP ≤ lc) && decide (4 * m.gF ≤ lc)

/-- R50: the whole table, with the active sheet if there is one. -/
def constraintsOk (g : GeoItems) (m : MarkItems) (active : Option SheetParams) : Bool :=
  spacingOk g m &&
    match active with
    | some p => lengthOk g m (lcOf p.lSub)
    | none => true

/-! ## Writes, each under its owner's rule -/

/-- A write that is taken. -/
abbrev Written := State × Result

def refuse (r : Result) (s : State) : Written := (s, r)

def inRange (lo hi v : Nat) : Bool := lo ≤ v && v ≤ hi

/-- R4. -/
def writeWeb (i : WebItem) (v : Nat) (s : State) : Written :=
  let it := s.items.web
  let put (x : WebItems) : State := { s with items := { s.items with web := x } }
  match i with
  | .encoderDirection =>
    match flagOf v with
    | none => refuse .badValue s
    | some b => if s.web.stopped then (put { it with inverted := b }, .ok) else refuse .busy s
  | .stopThreshold => if v ≤ 255 then (put { it with threshold := v }, .ok) else refuse .badValue s
  | .speedScale => if v ≤ 10 then (put { it with scale := v }, .ok) else refuse .badValue s

/-- R14. -/
def writeIndex (i : IndexItem) (c : Cyl) (v : Nat) (s : State) : Written :=
  let it := s.items.index.get c
  let p := s.phase.get c
  let put (x : IndexItems) (q : Phase) : State :=
    { s with items := { s.items with index := s.items.index.set c x }, phase := s.phase.set c q }
  match i with
  | .phaseSource =>
    let q := { p with missCount := 0, indexLost := false, missOpen := false }
    match v with
    | 0 => (put { it with source := .index } q, .ok)
    | 1 => (put { it with source := .reckon } q, .ok)
    | _ => refuse .badValue s
  | .indexGate =>
    if inRange 1 32767 v then (put { it with gate := v } { p with missOpen := false }, .ok)
    else refuse .badValue s
  | .indexTolerance => if v ≤ 32767 then (put { it with tol := v } p, .ok) else refuse .badValue s
  | .missLimit =>
    if inRange 1 16 v then (put { it with limit := v } { p with missCount := 0 }, .ok)
    else refuse .badValue s

/-- R32: the range of a mark item and the items with the value put in. -/
def putMark (it : MarkItems) (v : Nat) : MarkItem → Bool × MarkItems
  | .printWidthMin => (inRange 1 4095 v, { it with pwMin := v })
  | .printWidthMax => (inRange 1 4095 v, { it with pwMax := v })
  | .printGate => (inRange 1 16383 v, { it with gP := v })
  | .acquireCount => (inRange 2 8 v, { it with acquire := v })
  | .coastLimit => (inRange 1 32 v, { it with coastLimit := v })
  | .foilWidthMin => (inRange 1 4095 v, { it with fwMin := v })
  | .foilWidthMax => (inRange 1 4095 v, { it with fwMax := v })
  | .foilGate => (inRange 1 16383 v, { it with gF := v })

/-- R32: whether an item takes part in the width and geometry tests. -/
def MarkItem.geometric : MarkItem → Bool
  | .acquireCount | .coastLimit => false
  | _ => true

/-- R32. -/
def writeMark (i : MarkItem) (v : Nat) (s : State) : Written :=
  let (ranged, m) := putMark s.items.mark v i
  let fits := m.pwMin ≤ m.pwMax && m.fwMin ≤ m.fwMax && constraintsOk s.items.geo m s.active?
  if ranged && (!MarkItem.geometric i || fits) then
    let s1 := { s with items := { s.items with mark := m } }
    (if i = .acquireCount then { s1 with tracker := { s1.tracker with k := 0 } } else s1, .ok)
  else refuse .badValue s

/-- R49: the range of a geometry item and the items with the value put in. -/
def putGeo (it : GeoItems) (v : Nat) : GeoItem → Bool × GeoItems
  | .dF => (v ≤ 2031585, { it with dF := v })
  | .dFS => (v ≤ 2031585, { it with dFS := v })
  | .dE => (v ≤ 2031585, { it with dE := v })
  | .dR => (v ≤ 2031585, { it with dR := v })
  | .markerWidth => (inRange 1 4095 v, { it with markerWidth := v })

/-- R49: range, then the empty track, then the constraints; the tracker follows (R21). -/
def writeGeo (i : GeoItem) (v : Nat) (s : State) : Written :=
  let (ranged, g) := putGeo s.items.geo v i
  if !ranged then refuse .badValue s
  else if !s.track.records.isEmpty then refuse .busy s
  else if i != .markerWidth && !constraintsOk g s.items.mark s.active? then refuse .badValue s
  else (settleTracker { s with items := { s.items with geo := g } }, .ok)

/-- R51. -/
def writeRejectMask (v : Nat) (s : State) : Written :=
  if v < 512 then ({ s with items := { s.items with rejectMask := BitVec.ofNat 9 v } }, .ok)
  else refuse .badValue s

/-- R75: the range of a loop item and the items with the value put in. -/
def putLoop (it : LoopItems) (v : Nat) : LoopItem → Bool × LoopItems
  | .gain => (inRange 1 16 v, { it with gain := v })
  | .deadband => (v ≤ 4095, { it with deadband := v })
  | .slewLimit => (inRange 1 30000 v, { it with slew := v })
  | .tolerance => (v ≤ 32767, { it with tol := v })
  | .amax => (inRange 1 30000 v, { it with amax := v })
  | .runLength => (inRange 1 255 v, { it with runLength := v })

/-- R75. -/
def writeLoop (i : LoopItem) (c : Cyl) (v : Nat) (s : State) : Written :=
  let x := s.loop.get c
  let (ranged, it) := putLoop (s.items.loop.get c) v i
  if !ranged then refuse .badValue s
  else if i = .amax ∧ (v < x.a.natAbs ∨ v < x.n.natAbs) then refuse .badState s
  else
    let s1 := { s with items := { s.items with loop := s.items.loop.set c it } }
    (if i = .runLength then s1.setLoop c { x with run := 0 } else s1, .ok)

/-- R81. -/
def writeTrimInterval (v : Nat) (s : State) : Written :=
  if inRange 5 1000 v then
    ({ s with items := { s.items with act := { s.items.act with trimInterval := v } } }, .ok)
  else refuse .badValue s

/-- R94: a write that clears throw-off on stop stops the stop dwell timer; one that clears
auto-resume clears resume-pending. -/
def writeAct (i : ActItem) (v : Nat) (s : State) : Written :=
  let it := s.items.act
  let put (x : ActItems) : State := { s with items := { s.items with act := x } }
  match i with
  | .engageTimeout c =>
    if inRange 1 10000 v then (put { it with engage := it.engage.set c v }, .ok)
    else refuse .badValue s
  | .releaseTimeout c =>
    if inRange 1 10000 v then (put { it with release := it.release.set c v }, .ok)
    else refuse .badValue s
  | .stopDwell => if v ≤ 10000 then (put { it with stopDwell := v }, .ok) else refuse .badValue s
  | .throwOffOnStop =>
    match flagOf v with
    | some true => (put { it with throwOff := true }, .ok)
    | some false => ({ put { it with throwOff := false } with stopDwell := none }, .ok)
    | none => refuse .badValue s
  | .autoResume =>
    match flagOf v with
    | some true => (put { it with autoResume := true }, .ok)
    | some false => ({ put { it with autoResume := false } with resume := false }, .ok)
    | none => refuse .badValue s

/-- R119: FDIR of a drive. -/
def setDir (d : Option Drive) (level : Bool) (s : State) : State :=
  match d with
  | none => s
  | some d =>
    let out := s.drives.get d
    { s with drives := s.drives.set d { out with fdir := level } }

/-- R120 test 3: the lane has a base span in the active or the pending sheet. -/
def spansAnywhere (s : State) (l : Lane) : Bool :=
  s.hasSpans l || s.sheets.pending.any fun sh => !(sh.spans.get l).isEmpty

/-- R120 test 4: a drive is mapped to another lane. -/
def mappedElsewhere (s : State) (l : Lane) (d : Drive) : Bool :=
  [Lane.l0, .l1, .l2, .l3].any fun m => m != l && (s.items.lane.get m).drive == some d

/-- R120: the mapping changes: DISABLED to DWELL with entry hold, DWELL to DISABLED, and the levels
of the drives (R119). -/
def remap (l : Lane) (d : Option Drive) (s : State) : State :=
  let it := s.items.lane.get l
  let x := s.lane.get l
  if it.drive = d then s
  else
    let y := match d, x.state with
      | some _, .disabled => { x with state := .dwell, hold := true }
      | none, .dwell => { x with state := .disabled }
      | _, _ => x
    let s1 := { s with items := { s.items with lane := s.items.lane.set l { it with drive := d } } }
    setDir d true (setDir it.drive false (s1.setLane l y))

/-- R120: the four tests in their order. -/
def writeMapping (l : Lane) (v : Nat) (s : State) : Written :=
  match mappingOf v with
  | none => refuse .badValue s
  | some d =>
    let st := (s.lane.get l).state
    if (st != .disabled && st != .dwell) || (s.seq.get .f).state != .off then refuse .busy s
    else if d.isNone && spansAnywhere s l then refuse .badState s
    else if d.any (mappedElsewhere s l) then refuse .duplicate s
    else (remap l d s, .ok)

/-- R144: the range of a lane item and the items with the value put in. -/
def putLane (it : LaneItems) (v : Nat) : LaneItem → Bool × LaneItems
  | .ratio => (inRange 16384 262144 v, { it with ratio := v })
  | .runOut => (v ≤ 4095, { it with runOut := v })
  | .minDwell => (v ≤ 32767, { it with minDwell := v })
  | .motionWindow => (inRange 16 4096 v, { it with window := v })
  | .lowThreshold => (v ≤ 4294967295, { it with low := v })
  | .parkTimeout => (inRange 1 250 v, { it with parkTimeout := v })
  | .checkSteps => (inRange 4 4096 v && v % 4 == 0, { it with checkSteps := v })
  | .checkInterval => (inRange 50 65535 v, { it with checkInterval := v })

/-- R144, R124: run-out and min dwell rebuild the run list at once. -/
def writeLane (i : LaneItem) (l : Lane) (v : Nat) (s : State) : Written :=
  let (ranged, it) := putLane (s.items.lane.get l) v i
  if !ranged then refuse .badValue s
  else
    let s1 := { s with items := { s.items with lane := s.items.lane.set l it } }
    (if i = .runOut ∨ i = .minDwell then rebuildLane l s1 else s1, .ok)

/-- R159. -/
def writeFreeze (v : Nat) (s : State) : Written :=
  match flagOf v with
  | some b => ({ s with items := { s.items with freeze := b } }, .ok)
  | none => refuse .badValue s

/-- R154: the mask is used at once. -/
def writeAlarmMask (v : Nat) (s : State) : Written :=
  if v < 4096 then
    (reevalAlarm { s with items := { s.items with alarmMask := BitVec.ofNat 12 v } }, .ok)
  else refuse .badValue s

/-- R179: a write handed to the rule that owns the item. -/
def writeItem (i : Item) (v : Nat) (s : State) : Written :=
  match i with
  | .web i => writeWeb i v s
  | .index i c => writeIndex i c v s
  | .mark i => writeMark i v s
  | .geo i => writeGeo i v s
  | .rejectMask => writeRejectMask v s
  | .loop i c => writeLoop i c v s
  | .trimInterval => writeTrimInterval v s
  | .act i => writeAct i v s
  | .mapping l => writeMapping l v s
  | .lane i l => writeLane i l v s
  | .freezeOnFirst => writeFreeze v s
  | .alarmMask => writeAlarmMask v s

/-- R178: CONFIG_DEFAULT is cleared by a CONFIG WRITE or CURVE WRITE answered OK. -/
def noteWrite (r : Result) (s : State) : State :=
  if r = .ok then { s with configDefault := false } else s

/-- R179: the reply body: the item number and the value in force after the request. -/
def itemBody (number value : Nat) : List Byte := natBytes 1 number ++ natBytes 4 value

/-- R179: CONFIG WRITE of an item under its owner's write `w`. -/
def configWriteWith (i : Item) (w : State → Written) (s : State) : State × Reply :=
  let (s1, r) := w s
  (noteWrite r s1, ⟨r, itemBody (itemNumber i) (itemValue s1.items i)⟩)

/-- R179: CONFIG WRITE of an item number; an unknown number is refused, with the value 0. -/
def configWriteNumber (number : Byte) (v : BitVec 32) (s : State) : State × Reply :=
  match itemOfNumber number with
  | some i => configWriteWith i (writeItem i v.toNat) s
  | none => (s, ⟨.badValue, itemBody number.toNat 0⟩)

/-- R179: CONFIG READ. -/
def configReadNumber (number : Byte) (s : State) : State × Reply :=
  match itemOfNumber number with
  | some i => (s, ⟨.ok, itemBody number.toNat (itemValue s.items i)⟩)
  | none => (s, ⟨.badValue, []⟩)

end Sys2Proof.Machine
end

