-- ==== Sys2Proof/Machine/SheetOps.lean ====
section
/-! DEFINITION. The Job Sheet Store (chapter 6): parameters, the window table, WINDOW EDIT, COMMIT with
its checks and compilation. -/

namespace Sys2Proof.Machine

/-! ## Parameters (R97, R98, R181) -/

/-- R181: the fifteen parameter bytes. -/
def paramBytes (p : SheetParams) : List Byte :=
  natBytes 3 p.lSub ++ natBytes 3 p.tF ++ natBytes 3 p.tE ++ natBytes 2 p.throwF ++
  natBytes 2 p.throwE ++ [bitsByte [p.usesF, p.usesE]] ++ natBytes 1 (EmbossRef.code p.ref)

/-- R97: SHEET PARAM WRITE. -/
def sheetParamWrite (lSub tF tE : BitVec 24) (throwF throwE : BitVec 16) (use ref : Byte)
    (s : State) : State × Reply :=
  if use.toNat < 4 ∧ ref.toNat < 2 then
    let p : SheetParams :=
      { lSub := lSub.toNat, tF := tF.toNat, tE := tE.toNat, throwF := throwF.toNat,
        throwE := throwE.toNat, usesF := use.getLsbD 0, usesE := use.getLsbD 1,
        ref := if ref = 0 then .print else .foil }
    ({ s with sheets := { s.sheets with staged := { s.sheets.staged with params := p } } },
     ⟨.ok, []⟩)
  else (s, ⟨.badValue, []⟩)

/-- R98: SHEET PARAM READ. -/
def sheetParamRead (sel : Byte) (s : State) : State × Reply :=
  if sel = 0 then (s, ⟨.ok, [0] ++ natBytes 2 0 ++ paramBytes s.sheets.staged.params⟩)
  else if sel = 1 then
    match s.sheets.active with
    | some sh => (s, ⟨.ok, [1] ++ natBytes 2 sh.gen ++ paramBytes sh.params⟩)
    | none => (s, ⟨.noSheet, []⟩)
  else (s, ⟨.badValue, []⟩)

/-! ## The window table (R99 to R103) -/

/-- R100: an entry tested field by field: none when it fails, else what the table stores. -/
def entryOf (b : WindowBytes) : Option (Option Window) :=
  if b.lane = 255 then some none
  else
    match Lane.ofByte b.lane with
    | none => none
    | some l =>
      if b.length.toNat = 0 ∨ 15 < b.tag.toNat ∨ 1 < b.enabled.toNat then none
      else some (some { lane := l, start := b.start.toNat, length := b.length.toNat,
                        tag := b.tag.toNat, enabled := b.enabled == 1 })

/-- R100: the walk of WINDOW WRITE: the table, the result, and the number stored. -/
def storeEntries (index stored : Nat) (table : List (Option Window)) :
    List WindowBytes → List (Option Window) × Result × Nat
  | [] => (table, .ok, stored)
  | b :: rest =>
    if Config.windowSlots ≤ index then (table, .part, stored)
    else
      match entryOf b with
      | none => (table, .badValue, stored)
      | some w => storeEntries (index + 1) (stored + 1) (table.set index w) rest

def State.setWindows (s : State) (t : List (Option Window)) : State :=
  { s with sheets := { s.sheets with staged := { s.sheets.staged with windows := t } } }

/-- R100: WINDOW WRITE; any other number of entries is no body of the kind (R177). -/
def windowWrite (start : Byte) (entries : List WindowBytes) (s : State) : State × Reply :=
  if entries.length = 0 ∨ 8 < entries.length then (s, ⟨.badLength, []⟩)
  else if Config.windowSlots ≤ start.toNat then (s, ⟨.badValue, natBytes 1 0⟩)
  else
    let (t, r, n) := storeEntries start.toNat 0 s.sheets.staged.windows entries
    (s.setWindows t, ⟨r, natBytes 1 n⟩)

/-- R181: a window entry as seven bytes. -/
def entryBytes : Option Window → List Byte
  | none => [255, 0, 0, 0, 0, 0, 0]
  | some w =>
    natBytes 1 (Lane.code w.lane) ++ natBytes 2 w.start ++ natBytes 2 w.length ++
    natBytes 1 w.tag ++ natBytes 1 w.enabled.toNat

/-- R101: WINDOW READ. -/
def windowRead (table start count : Byte) (s : State) : State × Reply :=
  if 1 < table.toNat ∨ Config.windowSlots ≤ start.toNat ∨ count.toNat < 1 ∨ 8 < count.toNat then
    (s, ⟨.badValue, []⟩)
  else
    let answer (t : List (Option Window)) : State × Reply :=
      let es := (t.drop start.toNat).take count.toNat
      (s, ⟨.ok, [table, start] ++ natBytes 1 es.length ++ es.flatMap entryBytes⟩)
    if table = 0 then answer s.sheets.staged.windows
    else
      match s.sheets.active with
      | some sh => answer sh.windows
      | none => (s, ⟨.noSheet, []⟩)

/-- R102, R182: a decoded WINDOW EDIT; an absent condition is ANY, an absent change is not in the
mask. -/
structure Edit where
  laneC    : Option Lane
  tagC     : Option Nat
  enabledC : Option Bool
  lane     : Option (Option Lane)
  tag      : Option Nat
  enabled  : Option Bool
  shift    : Option Int
  deriving DecidableEq, Repr

/-- R182: the fields of WINDOW EDIT tested and decoded; none when one is refused. -/
def editOf (laneC tagC enabledC mask newLane newTag newEnabled : Byte) (shift : BitVec 16) :
    Option Edit := do
  let lc ← if laneC = 254 then some none else (Lane.ofByte laneC).map some
  let tc ← if tagC = 254 then some none else if tagC.toNat ≤ 15 then some (some tagC.toNat) else none
  let ec ← if enabledC = 254 then some none else (flagOf enabledC.toNat).map some
  let _ ← if mask.toNat < 16 then some () else none
  let nl ← if !mask.getLsbD 0 then some none
    else if newLane = 255 then some (some none) else (Lane.ofByte newLane).map (some ∘ some)
  let nt ← if !mask.getLsbD 1 then some none
    else if newTag.toNat ≤ 15 then some (some newTag.toNat) else none
  let ne ← if !mask.getLsbD 2 then some none else (flagOf newEnabled.toNat).map some
  return { laneC := lc, tagC := tc, enabledC := ec, lane := nl, tag := nt, enabled := ne,
           shift := if mask.getLsbD 3 then some shift.toInt else none }

/-- R102: a condition that is ANY or equal. -/
def meets {α : Type} [DecidableEq α] (c : Option α) (x : α) : Bool :=
  match c with
  | none => true
  | some y => x == y

/-- R102: a window is matched. -/
def matched (ed : Edit) (w : Window) : Bool :=
  meets ed.laneC w.lane && meets ed.tagC w.tag && meets ed.enabledC w.enabled

/-- R103: a matched window takes the mask: none when it is skipped, else its new entry. -/
def editWindow (ed : Edit) (lc : Nat) (w : Window) : Option (Option Window) :=
  match ed.lane with
  | some none => some none
  | _ =>
    let start : Int := w.start + ed.shift.getD 0
    if ed.shift.isSome && (decide (start < 0) || decide ((lc : Int) < start + w.length)) then none
    else
      some (some { w with
        lane := (ed.lane.getD none).getD w.lane, tag := ed.tag.getD w.tag,
        enabled := ed.enabled.getD w.enabled, start := start.toNat })

/-- R102, R103: one entry of the walk: the entry after it, and whether it was matched, changed,
skipped. -/
def editEntry (ed : Edit) (lc : Nat) (e : Option Window) : Option Window × Nat × Nat × Nat :=
  match e with
  | none => (none, 0, 0, 0)
  | some w =>
    if matched ed w then
      match editWindow ed lc w with
      | none => (some w, 1, 0, 1)
      | some new => (new, 1, (new != some w).toNat, 0)
    else (some w, 0, 0, 0)

/-- R102, R103: WINDOW EDIT. -/
def windowEdit (laneC tagC enabledC mask newLane newTag newEnabled : Byte) (shift : BitVec 16)
    (s : State) : State × Reply :=
  match editOf laneC tagC enabledC mask newLane newTag newEnabled shift with
  | none => (s, ⟨.badValue, [0, 0, 0]⟩)
  | some ed =>
    let out := s.sheets.staged.windows.map (editEntry ed (lcOf s.sheets.staged.params.lSub))
    (s.setWindows (out.map (·.1)),
     ⟨.ok, natBytes 1 (out.map (·.2.1)).sum ++ natBytes 1 (out.map (·.2.2.1)).sum ++
           natBytes 1 (out.map (·.2.2.2)).sum⟩)

/-- R104: SHEET COPY BACK. -/
def sheetCopyBack (s : State) : State × Reply :=
  match s.sheets.active with
  | some sh =>
    ({ s with sheets := { s.sheets with staged := { params := sh.params, windows := sh.windows } } },
     ⟨.ok, []⟩)
  | none => (s, ⟨.noSheet, []⟩)

/-- R105: SHEET CLEAR. -/
def sheetClear (s : State) : State × Reply :=
  ({ s with sheets := { s.sheets with staged := emptyStaged } }, ⟨.ok, []⟩)

/-! ## Compilation (R108) -/

/-- The enabled windows of the table. -/
def enabledWindows (t : List (Option Window)) : List Window := (t.filterMap id).filter (·.enabled)

/-- An interval put in its place by start. -/
def insertSpan (x : Span) : List Span → List Span
  | [] => [x]
  | y :: rest => if x.start ≤ y.start then x :: y :: rest else y :: insertSpan x rest

def sortSpans (l : List Span) : List Span := l.foldr insertSpan []

/-- R108: intervals in start order merged where they overlap or touch; `cur` is the span being
built. -/
def mergeSpans (cur : Span) : List Span → List Span
  | [] => [cur]
  | x :: rest =>
    if x.start ≤ cur.stop then mergeSpans { cur with stop := max cur.stop x.stop } rest
    else cur :: mergeSpans x rest

/-- R108: the base spans of a lane. -/
def laneSpans (t : List (Option Window)) (l : Lane) : List Span :=
  let ivs := ((enabledWindows t).filter (·.lane == l)).map
    fun w => ({ start := w.start, stop := w.start + w.length } : Span)
  match sortSpans ivs with
  | [] => []
  | x :: rest => mergeSpans x rest

/-- R108: the span lists of all lanes. -/
def compileSpans (t : List (Option Window)) : PerLane (List Span) :=
  ⟨laneSpans t .l0, laneSpans t .l1, laneSpans t .l2, laneSpans t .l3⟩

/-! ## COMMIT (R106, R107, R109 to R111) -/

/-- The lowest index of an enabled window with a property; none without one. -/
def firstWindow (t : List (Option Window)) (bad : Window → Bool) : Option Nat :=
  t.findIdx? fun e => match e with
    | some w => w.enabled && bad w
    | none => false

/-- R106 check 8: the lowest-numbered lane with more than 12 base spans. -/
def crowdedLane (t : List (Option Window)) : Option Lane :=
  [Lane.l0, .l1, .l2, .l3].find? fun l => Config.spanMax < (laneSpans t l).length

/-- R106: the first check that fails: its reason code and window index. -/
def commitCheck (st : Staged) (it : Items) : Option (Nat × Nat) :=
  let p := st.params
  let lc := lcOf p.lSub
  if p.lSub < 512000 ∨ 16777215 < p.lSub then some (1, 255)
  else if p.lSub ≤ p.tF then some (2, 255)
  else if p.lSub ≤ p.tE then some (3, 255)
  else if lc ≤ p.throwF then some (4, 255)
  else if lc ≤ p.throwE then some (5, 255)
  else match firstWindow st.windows (fun w => lc < w.start + w.length) with
  | some i => some (6, i)
  | none =>
    match firstWindow st.windows (fun w => (it.lane.get w.lane).drive.isNone) with
    | some i => some (7, i)
    | none =>
      match crowdedLane st.windows with
      | some l => some (8, (firstWindow st.windows (·.lane == l)).getD 255)
      | none =>
        if !p.usesF && !p.usesE then some (9, 255)
        else if !(spacingOk it.geo it.mark && lengthOk it.geo it.mark lc) then some (10, 255)
        else none

/-- R107: a sheet is active, its L_sub differs, and the web is not stopped. -/
def commitRunning (s : State) : Bool :=
  match s.active? with
  | some p => p.lSub != s.sheets.staged.params.lSub && !s.web.stopped
  | none => false

/-- R109: the generation after another, 0 never. -/
def succGen (g : Nat) : Nat := if g < 65535 then g + 1 else 1

/-- R109: the generation a passing COMMIT assigns. -/
def nextGen (last : Nat) (active : Option Sheet) : Nat :=
  if active.map (·.gen) = some (succGen last) then succGen (succGen last) else succGen last

/-- R108: the compiled sheet. -/
def compile (st : Staged) (gen : Nat) : Sheet :=
  { params := st.params, windows := st.windows, gen := gen, spans := compileSpans st.windows }

/-- R111: the last commit record written. -/
def noteCommit (r : CommitRecord) (s : State) : State :=
  { s with sheets := { s.sheets with lastCommit := some r } }

/-- R182: the reply of COMMIT from its record. -/
def commitReply (r : CommitRecord) : Reply :=
  ⟨r.result, natBytes 2 (r.gen.getD 0) ++ natBytes 1 r.reason ++ natBytes 1 r.window⟩

/-- R110: a passing COMMIT puts its compiled sheet in force. -/
def placeSheet (sh : Sheet) (s : State) : State × Result :=
  if s.sheets.active.isNone || s.web.stopped then (swapTo sh s, .ok)
  else
    ({ s with sheets := { s.sheets with pending := some sh } },
     if s.sheets.pending.isSome then .superseded else .pending)

/-- R106 to R111: COMMIT, with the record it writes. -/
def commitSheet (s : State) : State × Reply :=
  match commitCheck s.sheets.staged s.items with
  | some (reason, window) =>
    let r : CommitRecord := { result := .sheetInvalid, reason := reason, window := window, gen := none }
    (noteCommit r s, commitReply r)
  | none =>
    if commitRunning s then
      let r : CommitRecord := { result := .running, reason := 0, window := 255, gen := none }
      (noteCommit r s, commitReply r)
    else
      let g := nextGen s.sheets.lastGen s.sheets.active
      let sh := compile s.sheets.staged g
      let (s1, res) := placeSheet sh { s with sheets := { s.sheets with lastGen := g } }
      let r : CommitRecord := { result := res, reason := 0, window := 255, gen := some g }
      (noteCommit r s1, commitReply r)

end Sys2Proof.Machine
end

