-- ==== Sys2Proof/Machine/CylOps.lean ====
section
/-! DEFINITION. The requests on cylinders and loops: ENGAGE, DISENGAGE, LOOP MODE, NUDGE, TRIM MOVE,
TRIM ZERO (chapters 4 and 5, coded as R183). -/

namespace Sys2Proof.Machine

/-- R176: a request that names a cylinder; a refused cylinder field is answered with the reply body
at 0. -/
def withCyl (b : Byte) (bodyLen : Nat) (g : Cyl → State → State × Reply) (s : State) :
    State × Reply :=
  match Cyl.ofByte b with
  | some c => g c s
  | none => (s, ⟨.badValue, List.replicate bodyLen 0⟩)

def seqCode (c : Cyl) (s : State) : List Byte := natBytes 1 (SeqState.code (s.seq.get c).state)

/-- R83, R183: ENGAGE. -/
def engageReq (cyl : Byte) (s : State) : State × Reply :=
  withCyl cyl 1 (fun c s => let (s1, r) := engageCyl c s; (s1, ⟨r, seqCode c s1⟩)) s

/-- R89: one sequencer named by a DISENGAGE. -/
def disengageCyl (c : Cyl) (s : State) : State := clearResume c (throwOff c .host s)

/-- R175: the cylinders a set names: F, E or both. -/
def cylSet (b : Byte) : Option (List Cyl) :=
  if b = 0 then some [.f] else if b = 1 then some [.e] else if b = 2 then some [.f, .e] else none

/-- R89, R183: DISENGAGE. -/
def disengageReq (set : Byte) (s : State) : State × Reply :=
  match cylSet set with
  | none => (s, ⟨.badValue, seqCode .f s ++ seqCode .e s⟩)
  | some cs =>
    let acted := cs.any fun c => SeqState.thrown (s.seq.get c).state
    let s1 := cs.foldl (fun s c => disengageCyl c s) s
    (s1, ⟨if acted then .ok else .already, seqCode .f s1 ++ seqCode .e s1⟩)

/-- R68, R69: a loop's mode changes. -/
def setMode (m : LoopMode) (x : Loop) : Loop :=
  match m with
  | .off => { x with mode := .off, run := 0, a := x.a - x.p, p := 0 }
  | _ => { x with mode := m, run := 0 }

/-- R183: the reply body of LOOP MODE. -/
def modeBody (x : Loop) : List Byte :=
  natBytes 1 (LoopMode.code x.mode) ++ intBytes 2 x.a ++ intBytes 4 x.p ++ intBytes 2 x.n

/-- R68, R183: LOOP MODE. -/
def loopModeReq (cyl mode : Byte) (s : State) : State × Reply :=
  withCyl cyl 9 (fun c s =>
    let x := s.loop.get c
    match LoopMode.ofByte mode with
    | none => (s, ⟨.badValue, modeBody x⟩)
    | some m =>
      if m = x.mode then (s, ⟨.already, modeBody x⟩)
      else (s.setLoop c (setMode m x), ⟨.ok, modeBody (setMode m x)⟩)) s

/-- R70, R183: NUDGE. -/
def nudgeReq (cyl : Byte) (delta : BitVec 16) (s : State) : State × Reply :=
  withCyl cyl 2 (fun c s =>
    let x := s.loop.get c
    let sum := x.nudge + delta.toInt
    let n := clamp (-Config.nudgeMax) Config.nudgeMax sum
    (s.setLoop c { x with nudge := n }, ⟨if n = sum then .ok else .clamped, intBytes 2 n⟩)) s

/-- R71, R183: TRIM MOVE. -/
def trimMoveReq (cyl : Byte) (move : BitVec 16) (s : State) : State × Reply :=
  withCyl cyl 8 (fun c s =>
    let x := s.loop.get c
    let m := rangeStep (s.items.loop.get c).amax x.a move.toInt
    let s1 := commitTrim c m s
    let y := s1.loop.get c
    (s1, ⟨if m = move.toInt then .ok else .clamped,
          intBytes 2 m ++ intBytes 2 y.a ++ intBytes 4 y.p⟩)) s

/-- R183: the reply body of TRIM ZERO. -/
def zeroBody (x : Loop) : List Byte := intBytes 2 x.a ++ intBytes 4 x.p ++ intBytes 2 x.n

/-- R72, R183: TRIM ZERO. -/
def trimZeroReq (cyl : Byte) (s : State) : State × Reply :=
  withCyl cyl 8 (fun c s =>
    let x := s.loop.get c
    if x.p.natAbs ≤ (s.items.loop.get c).amax then
      let y := { x with a := x.p, n := 0 }
      (s.setLoop c y, ⟨.ok, zeroBody y⟩)
    else (s, ⟨.badState, zeroBody x⟩)) s

end Sys2Proof.Machine
end

