-- ==== Sys2Proof/Machine/LaneReqs.lean ====
section
/-! DEFINITION. The requests on lanes: CURVE WRITE, PARK, RELEASE, ROLL LOAD, LANE CHECK (chapter 7,
coded as R180 and R184). -/

namespace Sys2Proof.Machine

/-- R176: a request that names a lane; a refused lane field is answered with the reply body at 0. -/
def withLane (b : Byte) (bodyLen : Nat) (g : Lane → State → State × Reply) (s : State) :
    State × Reply :=
  match Lane.ofByte b with
  | some l => g l s
  | none => (s, ⟨.badValue, List.replicate bodyLen 0⟩)

/-- R122: the anchors stored, the table expanded, the run list rebuilt. -/
def storeCurve (l : Lane) (anchors : List Nat) (s : State) : State :=
  let it := s.items.lane.get l
  let s1 := { s with items := { s.items with
    lane := s.items.lane.set l { it with anchors := anchors } } }
  rebuildLane l (s1.setLane l { s1.lane.get l with leads := expandCurve anchors })

/-- R122, R180: CURVE WRITE; a number of anchors other than eight is no body of the kind (R177). -/
def curveWriteReq (lane : Byte) (anchors : List (BitVec 16)) (s : State) : State × Reply :=
  if anchors.length ≠ 8 then (s, ⟨.badLength, []⟩)
  else
    withLane lane 0 (fun l s =>
      let as := anchors.map (·.toNat)
      if as.all (· ≤ 4095) then (noteWrite .ok (storeCurve l as s), ⟨.ok, []⟩)
      else (s, ⟨.badValue, []⟩)) s

def laneCode (l : Lane) (s : State) : List Byte := natBytes 1 (LaneState.code (s.lane.get l).state)

/-- R137: PARK by the lane's state. -/
def parkLane (x : LaneCtl) : LaneCtl × Result :=
  match x.state with
  | .dwell => (parkBegin x, .ok)
  | .run => ({ x with parkPending := true }, .pending)
  | .parked | .check => (x, .already)
  | .disabled | .faulted => (x, .badState)

/-- R137, R184: LANE PARK. -/
def lanePark (lane : Byte) (s : State) : State × Reply :=
  withLane lane 1 (fun l s =>
    let (x, r) := parkLane (s.lane.get l)
    (s.setLane l x, ⟨r, natBytes 1 (LaneState.code x.state)⟩)) s

/-- R139: RELEASE by the lane's state; from PARKED it ends the present park, and with it park expired
(R156; log 26). -/
def releaseLane (x : LaneCtl) : LaneCtl × Result :=
  match x.state with
  | .parked =>
    ({ x with state := .dwell, hold := true, parkExpired := false },
     if x.parkExpired then .late else .ok)
  | .run => if x.parkPending then ({ x with parkPending := false }, .ok) else (x, .already)
  | .dwell => (x, .already)
  | .check => (x, .busy)
  | .faulted => if x.foil = 0 then (x, .foilOut) else ({ x with state := .dwell, hold := true }, .ok)
  | .disabled => (x, .badState)

/-- R139, R184: LANE RELEASE. -/
def laneRelease (lane : Byte) (s : State) : State × Reply :=
  withLane lane 1 (fun l s =>
    let (x, r) := releaseLane (s.lane.get l)
    (s.setLane l x, ⟨r, natBytes 1 (LaneState.code x.state)⟩)) s

/-- R130, R184: ROLL LOAD. -/
def rollLoad (lane : Byte) (steps : BitVec 32) (s : State) : State × Reply :=
  withLane lane 4 (fun l s =>
    let x := s.lane.get l
    match x.state with
    | .disabled | .parked | .faulted =>
      (s.setLane l { x with foil := steps.toNat }, ⟨.ok, natBytes 4 steps.toNat⟩)
    | .dwell | .run | .check => (s, ⟨.badState, natBytes 4 x.foil⟩)) s

/-- R140: the lane as a check starts. -/
def startCheck (now : Nat) (it : LaneItems) (x : LaneCtl) : LaneCtl :=
  { x with state := .check, check := { done := false, result := .none, steps := 0, pulses := 0 },
           motion := 0, runSteps := 0, checkSteps := it.checkSteps, checkEvery := it.checkInterval,
           checkTimer := some (now + it.checkInterval) }

/-- R140, R184: LANE CHECK. -/
def laneCheck (lane : Byte) (s : State) : State × Reply :=
  withLane lane 1 (fun l s =>
    let x := s.lane.get l
    if x.state = .parked ∧ (s.seq.get .f).state = .off then
      let s1 := s.setLane l (startCheck s.now (s.items.lane.get l) x)
      (s1, ⟨.pending, laneCode l s1⟩)
    else (s, ⟨.badState, laneCode l s⟩)) s

end Sys2Proof.Machine
end

