-- ==== Sys2Proof/Machine/ReadOps.lean ====
section
/-! DEFINITION. The read requests and their layouts (10.8), TRACK FLUSH, FAULT CLEAR, COUNTERS CLEAR and
RESTART. -/

namespace Sys2Proof.Machine

/-! ## STATUS (R178) -/

/-- R188: the last commit record in STATUS; 255 when there is none. -/
def commitBytes : Option CommitRecord → List Byte
  | none => [255, 0, 0, 0, 0]
  | some r =>
    natBytes 1 (Result.code r.result) ++ natBytes 1 r.reason ++ natBytes 1 r.window ++
    natBytes 2 (r.gen.getD 0)

/-- R188: the STATUS layout, 23 bytes. -/
def statusBody (s : State) : List Byte :=
  seqCode .f s ++ seqCode .e s ++
  natBytes 1 (ThrowCause.code s.seq.f.cause) ++ natBytes 1 (ThrowCause.code s.seq.e.cause) ++
  natBytes 1 (TrackerState.code s.tracker.state) ++ natBytes 1 s.tracker.coast ++
  laneCode .l0 s ++ laneCode .l1 s ++ laneCode .l2 s ++ laneCode .l3 s ++
  natBytes 2 ((s.sheets.active.map (·.gen)).getD 0) ++
  natBytes 2 ((s.sheets.pending.map (·.gen)).getD 0) ++
  commitBytes s.sheets.lastCommit ++ natBytes 1 s.web.speed ++
  [bitsByte [s.web.stopped, s.faults.alm, s.track.rej, s.resume, s.configDefault]] ++
  natBytes 2 s.faults.flags.toNat

def statusReq (s : State) : State × Reply := (s, ⟨.ok, statusBody s⟩)

/-! ## CURVE READ, LOOP READ, LANE READ -/

/-- R180: CURVE READ; a refused read carries an empty body. -/
def curveReadReq (lane : Byte) (s : State) : State × Reply :=
  withLane lane 0 (fun l s =>
    (s, ⟨.ok, natBytes 1 (Lane.code l) ++ (s.items.lane.get l).anchors.flatMap (natBytes 2) ++
              (s.lane.get l).leads.flatMap (natBytes 2)⟩)) s

/-- R188: the LOOP READ layout, 54 bytes. -/
def loopBody (c : Cyl) (s : State) : List Byte :=
  let x := s.loop.get c
  let p := s.phase.get c
  let it := s.items.loop.get c
  let sheet := s.active?
  let em := s.emit.get c
  natBytes 1 (Cyl.code c) ++ natBytes 1 (LoopMode.code x.mode) ++
  [bitsByte [sheet.isSome, x.lastSerial.isSome, x.lastErr.isSome, x.lastCorr.isSome]] ++
  natBytes 3 ((sheet.map (·.target c)).getD 0) ++ intBytes 2 x.nudge ++
  intBytes 3 ((sheet.map fun q => liveTarget q.lSub (q.target c) x.nudge).getD 0) ++
  intBytes 2 x.a ++ intBytes 4 x.p ++ intBytes 2 x.n ++ natBytes 1 x.run ++
  natBytes 2 ((x.lastSerial.map (·.toNat)).getD 0) ++ intBytes 4 (x.lastErr.getD 0) ++
  intBytes 2 (x.lastCorr.getD 0) ++
  [bitsByte [p.indexLost, s.web.dir == .reverse, em.state != .idle, em.tdir == .advance]] ++
  natBytes 4 s.web.w.toNat ++ intBytes 2 s.web.v ++ natBytes 3 p.phi ++
  natBytes 1 (PhaseSource.code (s.items.index.get c).source) ++ natBytes 1 p.missCount ++
  intBytes 4 p.lastDev ++ natBytes 1 it.gain ++ natBytes 2 it.deadband ++ natBytes 2 it.slew ++
  natBytes 2 it.tol ++ natBytes 2 it.amax ++ natBytes 1 it.runLength

/-- R74: LOOP READ. -/
def loopReadReq (cyl : Byte) (s : State) : State × Reply :=
  withCyl cyl 0 (fun c s => (s, ⟨.ok, loopBody c s⟩)) s

def spanBytes (r : Span) : List Byte := natBytes 2 r.start ++ natBytes 2 r.stop

/-- R188: twelve slots of four bytes, a slot beyond the list at 0. -/
def slots (rs : List Span) : List Byte :=
  (rs ++ List.replicate (12 - rs.length) (⟨0, 0⟩ : Span)).flatMap spanBytes

/-- The two-byte field of the motion pulses counted; past the field a free value (log 17). -/
def pulsesField (n : Nat) : Nat := if n < 65536 then n else Config.checkPulsesField n

/-- R188: the LANE READ layout, 144 bytes. -/
def laneBody (l : Lane) (s : State) : List Byte :=
  let x := s.lane.get l
  let it := s.items.lane.get l
  natBytes 1 (Lane.code l) ++ natBytes 1 (LaneState.code x.state) ++
  natBytes 1 (mappingCode it.drive) ++
  [bitsByte [x.hold, x.parkPending, x.parkExpired, x.run.isSome, x.check.done]] ++
  natBytes 1 x.parkTimer ++ natBytes 1 (CheckResult.code x.check.result) ++
  natBytes 2 x.runSteps ++ natBytes 2 (s.leadNow l) ++ natBytes 4 x.foil ++ natBytes 2 x.motion ++
  natBytes 3 x.lastRev ++ natBytes 2 x.check.steps ++ natBytes 2 (pulsesField x.check.pulses) ++
  spanBytes (x.run.getD ⟨0, 0⟩) ++
  natBytes 1 (s.spans l).length ++ slots (s.spans l) ++
  natBytes 1 x.runList.length ++ slots x.runList ++
  natBytes 4 it.ratio ++ natBytes 2 it.runOut ++ natBytes 2 it.minDwell ++ natBytes 2 it.window ++
  natBytes 4 it.low ++ natBytes 1 it.parkTimeout ++ natBytes 2 it.checkSteps ++
  natBytes 2 it.checkInterval

/-- R143: LANE READ. -/
def laneReadReq (lane : Byte) (s : State) : State × Reply :=
  withLane lane 0 (fun l s => (s, ⟨.ok, laneBody l s⟩)) s

/-! ## TRACK READ and TRACK FLUSH -/

/-- R188: the TRACK READ record layout, 34 bytes. -/
def recordBytes (r : LabelRecord) : List Byte :=
  natBytes 2 r.serial.toNat ++
  [bitsByte [r.origin == .predicted, r.gen.isSome, r.fOn == some true, r.eF.isSome, r.cF.isSome,
             r.foil.isSome, r.eE.isSome, r.cE.isSome]] ++
  natBytes 4 r.r.toNat ++ natBytes 2 (r.width.getD 0) ++ natBytes 2 (r.gen.getD 0) ++
  [bitsByte [r.parked.l0, r.parked.l1, r.parked.l2, r.parked.l3]] ++
  intBytes 4 (r.eF.getD 0) ++ intBytes 2 (r.cF.getD 0) ++
  natBytes 4 ((r.foil.map (·.1.toNat)).getD 0) ++ intBytes 2 ((r.foil.map (·.2)).getD 0) ++
  intBytes 4 (r.eE.getD 0) ++ intBytes 2 (r.cE.getD 0) ++
  natBytes 1 (refUsedCode r.refUsed) ++ natBytes 2 r.reasons.toNat ++
  natBytes 1 (Verdict.code r.verdict)

/-- R52: the records from a serial on. -/
def fromSerial (serial : BitVec 16) (rs : List LabelRecord) : List LabelRecord :=
  rs.dropWhile (·.serial != serial)

/-- R52, R185: TRACK READ. -/
def trackReadReq (sel : Byte) (serial : BitVec 16) (count : Byte) (s : State) : State × Reply :=
  if 1 < sel.toNat ∨ count.toNat < 1 ∨ 6 < count.toNat then (s, ⟨.badValue, []⟩)
  else
    let rs := s.track.records
    let out := (if sel = 0 then rs else fromSerial serial rs).take count.toNat
    (s, ⟨.ok, natBytes 1 rs.length ++ natBytes 2 s.track.nextSerial.toNat ++
              natBytes 1 out.length ++ out.flatMap recordBytes⟩)

/-- R29: the tracker at a flush. -/
def flushTracker (t : Tracker) : Tracker :=
  if t.state = .idle then t else trackerTo .search t

/-- R48: TRACK FLUSH. -/
def trackFlushReq (s : State) : State × Reply :=
  ({ s with track := emptyTrack s.track, tracker := flushTracker s.tracker }, ⟨.ok, []⟩)

/-! ## Faults and counters -/

/-- R188: the FAULT READ layout, 17 bytes. -/
def faultBody (s : State) : List Byte :=
  natBytes 2 s.faults.flags.toNat ++
  (match s.faults.record with
   | none => List.replicate 14 0
   | some r =>
     [bitsByte [true, r.again, r.serial.isSome]] ++ natBytes 1 (FaultCode.priority r.code) ++
     natBytes 1 (FaultCode.number r.code) ++ natBytes 1 (FaultSource.code r.source) ++
     natBytes 2 ((r.serial.map (·.toNat)).getD 0) ++ intBytes 4 r.value ++ natBytes 4 r.w.toNat) ++
  [bitsByte [s.items.freeze, frozen s.items.freeze s.faults.flags]]

/-- R158: FAULT READ. -/
def faultReadReq (s : State) : State × Reply := (s, ⟨.ok, faultBody s⟩)

/-- R186: the reply body of FAULT CLEAR. -/
def clearBody (u : FaultUnit) : List Byte :=
  natBytes 2 u.flags.toNat ++ [bitsByte [u.record.isSome]]

/-- R155: flags of a set cleared, the record invalidated with option clear, the alarm re-evaluated. -/
def clearFaults (codes : FaultSet) (clear : Bool) (s : State) : State :=
  reevalAlarm
    { s with faults := { s.faults with
        flags := s.faults.flags &&& ~~~codes,
        record := if clear then none else s.faults.record } }

/-- R155, R186: FAULT CLEAR. -/
def faultClearReq (codes : BitVec 16) (option : Byte) (s : State) : State × Reply :=
  if 4096 ≤ codes.toNat ∨ 1 < option.toNat then (s, ⟨.badValue, clearBody s.faults⟩)
  else
    let s1 := clearFaults (codes.setWidth 12) (option == 1) s
    (s1, ⟨.ok, clearBody s1.faults⟩)

/-- R188: the COUNTERS READ layout, 38 bytes. -/
def countersBody (s : State) : List Byte :=
  [s.web.encErrors, s.phase.f.arrivals, s.phase.e.arrivals, s.qual.print.rejects,
   s.qual.print.strays, s.qual.foil.rejects, s.qual.foil.strays, s.track.good, s.track.bad,
   s.track.overflow, s.lane.l0.clipped, s.lane.l1.clipped, s.lane.l2.clipped, s.lane.l3.clipped,
   s.link.good, s.link.checkErrors, s.link.charErrors, s.link.overlaps,
   s.link.ignored].flatMap (natBytes 2)

/-- R186: COUNTERS READ. -/
def countersReadReq (s : State) : State × Reply := (s, ⟨.ok, countersBody s⟩)

/-- R186: every counter of the layout at 0. -/
def clearCounters (s : State) : State :=
  { s with
    web := { s.web with encErrors := 0 },
    phase := ⟨{ s.phase.f with arrivals := 0 }, { s.phase.e with arrivals := 0 }⟩,
    qual := ⟨{ s.qual.print with rejects := 0, strays := 0 },
             { s.qual.foil with rejects := 0, strays := 0 }⟩,
    track := { s.track with good := 0, bad := 0, overflow := 0 },
    lane := s.lane.map fun _ x => { x with clipped := 0 },
    link := { s.link with good := 0, checkErrors := 0, charErrors := 0, overlaps := 0,
                          ignored := 0 } }

/-- R186: COUNTERS CLEAR. -/
def countersClearReq (s : State) : State × Reply := (clearCounters s, ⟨.ok, []⟩)

/-- R187: RESTART: answered, and due at the end of its reply. -/
def restartReq (level : Byte) (s : State) : State × Reply :=
  if level = 0 then ({ s with link := { s.link with restart := some .runtime } }, ⟨.ok, []⟩)
  else if level = 1 then ({ s with link := { s.link with restart := some .full } }, ⟨.ok, []⟩)
  else (s, ⟨.badValue, []⟩)

end Sys2Proof.Machine
end

