-- ==== Sys2Proof/Machine/LinkOps.lean ====
section
/-! DEFINITION. The Link Port and the Request Decoder (chapter 9): characters, the receiver, frames,
taking a request, the reply. -/

namespace Sys2Proof.Machine

/-! ## The Request Decoder -/

/-- R169: the answers of the Request Decoder itself; they reach no block. -/
def unknownKind (s : State) : State × Reply := (s, ⟨.unknownKind, []⟩)

def badLength (s : State) : State × Reply := (s, ⟨.badLength, []⟩)

/-- R169, R177: a frame's kind and body handed to the block that owns the kind, or answered
UNKNOWN_KIND or BAD_LENGTH. -/
def requestOf (kind : Nat) (body : List Byte) : State → State × Reply :=
  match kind, body with
  | 0x01, [] => statusReq
  | 0x02, [n, a, b, c, d] => configWriteNumber n (word32 a b c d)
  | 0x03, [n] => configReadNumber n
  | 0x04, l :: rest =>
    match words16 rest with
    | some as => curveWriteReq l as
    | none => badLength
  | 0x05, [l] => curveReadReq l
  | 0x10, [l2, l1, l0, f2, f1, f0, e2, e1, e0, p1, p0, q1, q0, u, r] =>
    sheetParamWrite (word24 l2 l1 l0) (word24 f2 f1 f0) (word24 e2 e1 e0) (word16 p1 p0)
      (word16 q1 q0) u r
  | 0x11, i :: rest =>
    match windowEntries rest with
    | some es => windowWrite i es
    | none => badLength
  | 0x12, [t, i, n] => windowRead t i n
  | 0x13, [lc, tc, ec, m, nl, nt, ne, d1, d0] => windowEdit lc tc ec m nl nt ne (word16 d1 d0)
  | 0x14, [] => sheetCopyBack
  | 0x15, [] => sheetClear
  | 0x16, [] => commitSheet
  | 0x17, [x] => sheetParamRead x
  | 0x20, [c] => engageReq c
  | 0x21, [c] => disengageReq c
  | 0x22, [c, m] => loopModeReq c m
  | 0x23, [c, d1, d0] => nudgeReq c (word16 d1 d0)
  | 0x24, [c, d1, d0] => trimMoveReq c (word16 d1 d0)
  | 0x25, [c] => trimZeroReq c
  | 0x26, [c] => loopReadReq c
  | 0x30, [l] => lanePark l
  | 0x31, [l] => laneRelease l
  | 0x32, [l, a, b, c, d] => rollLoad l (word32 a b c d)
  | 0x33, [l] => laneCheck l
  | 0x34, [l] => laneReadReq l
  | 0x40, [x, s1, s0, n] => trackReadReq x (word16 s1 s0) n
  | 0x41, [] => trackFlushReq
  | 0x50, [] => faultReadReq
  | 0x51, [c1, c0, o] => faultClearReq (word16 c1 c0) o
  | 0x52, [] => countersReadReq
  | 0x53, [] => countersClearReq
  | 0x60, [l] => restartReq l
  | k, _ => if knownKind k then badLength else unknownKind
where
  /-- The kinds of the catalogue (R177). -/
  knownKind (k : Nat) : Bool :=
    [0x01, 0x02, 0x03, 0x04, 0x05, 0x10, 0x11, 0x12, 0x13, 0x14, 0x15, 0x16, 0x17, 0x20, 0x21,
     0x22, 0x23, 0x24, 0x25, 0x26, 0x30, 0x31, 0x32, 0x33, 0x34, 0x40, 0x41, 0x50, 0x51, 0x52,
     0x53, 0x60].contains k

/-! ## The reply -/

/-- R167, R171: the sum of bytes, modulo 65,536. -/
def byteSum (bs : List Byte) : BitVec 16 := BitVec.ofNat 16 (bs.map (·.toNat)).sum

/-- R171: the reply image. -/
def replyImage (own : BitVec 5) (kind : Nat) (r : Reply) : List Byte :=
  let inner := [BitVec.ofNat 8 (0x80 + own.toNat), BitVec.ofNat 8 (1 + r.body.length),
                BitVec.ofNat 8 kind ||| 0x80#8, BitVec.ofNat 8 (Result.code r.result)] ++ r.body
  Config.lead :: inner ++ natBytes 2 (byteSum inner).toNat

/-- R169: the reply formed: the image, reply pending, overlap seen cleared, the reply wait begun. -/
def formReply (kind : Nat) (r : Reply) (s : State) : State :=
  { s with link := { s.link with
      image := replyImage s.link.own kind r, replyPending := true, overlapSeen := false,
      waitLeft := Config.waitUnits + Config.halfBit } }

/-- R163: the parity bit that makes the count of ones even. -/
def evenParity (b : Byte) : Bool := (List.range 8).foldl (fun acc i => acc ^^ b.getLsbD i) false

/-- R163: the eleven bits of a character, the start bit at bit 0. -/
def charBits (b : Byte) : BitVec 11 :=
  BitVec.ofNat 11 (b.toNat * 2 + (evenParity b).toNat * 512 + 1024)

/-! ## Taking requests -/

/-- R164, R168: the frame buffer emptied; the receiver goes to a state (log 6). -/
def Link.clearBuffer (l : Link) (rx : RxState) : Link :=
  { l with rx := rx, cls := .addressed, dest := 0, len := 0, kind := 0, body := [], sum := 0,
           checkHi := none }

/-- R163: a character has been handed over at the middle of its stop bit: the quiet time starts again
half a bit time later, and rises only once RXD is high, which it is not where the stop bit is low. -/
def Link.noise (l : Link) (stop : Bool) : Link := { l with quiet := -Config.halfBit, rxBusy := !stop }

/-- R163: RXD falls, as for a start bit: the quiet time rises no more until the character's end. RXD is not
sampled while TXEN is asserted. -/
def Link.startBit (l : Link) : Link := if l.txen then l else { l with rxBusy := true }

/-- R163: RXD is high and no character runs: after a low stop bit the quiet time begins to rise, and after
a falling edge that did not stay low it rises on from where it stands (log 34). -/
def Link.lineHigh (l : Link) : Link := if l.txen then l else { l with rxBusy := false }

/-- R172: a character seen while a reply is pending and TXEN is not asserted. -/
def Link.seeOverlap (l : Link) : Link :=
  if l.overlapSeen then l else { l with overlapSeen := true, overlaps := satInc l.overlaps }

/-- R167: a well-formed frame: the good frame counter rises, the receiver goes to WAIT_IDLE. -/
def Link.goodFrame (l : Link) : Link :=
  { l.clearBuffer .waitIdle with good := satInc l.good }

/-- R169: an addressed request taken by its owner, and its reply formed. -/
def takeAddressed (kind : Nat) (op : State → State × Reply) (s : State) : State :=
  let (s1, r) := op { s with link := s.link.goodFrame }
  formReply kind r s1

/-- R170: a broadcast taken by its owner, without a reply. -/
def takeBroadcast (op : State → State × Reply) (s : State) : State :=
  (op { s with link := s.link.goodFrame }).1

/-- R170: a broadcast that reaches no block. -/
def ignoreBroadcast (s : State) : State :=
  { s with link := { s.link.goodFrame with ignored := satInc s.link.ignored } }

/-- R170: a well-formed broadcast frame. -/
def takeBroadcastFrame (kind : Nat) (body : List Byte) (s : State) : State :=
  match kind, body with
  | 0x16, [] => takeBroadcast commitSheet s
  | 0x21, [c] => if (cylSet c).isSome then takeBroadcast (disengageReq c) s else ignoreBroadcast s
  | _, _ => ignoreBroadcast s

/-! ## The receiver -/

/-- R168: a frame cut off: the buffer thrown away, a character error counted; DISCARD goes on to
WAIT_IDLE, and after an idle gap to HUNT. -/
def Link.cutOff (l : Link) (rx : RxState) : Link :=
  { l.clearBuffer rx with charErrors := satInc l.charErrors }

/-- R168: the receiver is inside a frame. -/
def RxState.inFrame : RxState → Bool
  | .dest | .len | .kind | .body | .check => true
  | .waitIdle | .hunt | .skip | .discard => false

/-- R163, R164, R168: an idle gap event at the receiver. RXD has been high for 20 bit times, so a start bit
or a low line that it finds marked has ended (log 34). -/
def Link.idleGap (l : Link) : Link :=
  if l.txen then l
  else
    let l1 := { l with quiet := Config.gapUnits, rxBusy := false }
    if l1.replyPending then l1
    else
      match l1.rx with
      | .waitIdle | .skip | .discard => l1.clearBuffer .hunt
      | .hunt => l1
      | .dest | .len | .kind | .body | .check => l1.cutOff .hunt

/-- R163: the error marks of a character: parity, framing. -/
def charError (data : Byte) (parity stop : Bool) : Bool := parity != evenParity data || !stop

/-- R165: the destination byte. -/
def Link.takeDest (l : Link) (b : Byte) : Link :=
  let l1 := { l with dest := b, sum := l.sum + b.setWidth 16 }
  if l.own ≠ 0 ∧ b = l.own.setWidth 8 then { l1 with cls := .addressed, rx := .len }
  else if b = Config.broadcastDest then { l1 with cls := .broadcast, rx := .len }
  else l.clearBuffer .skip

/-- R166: the length byte. -/
def Link.takeLen (l : Link) (b : Byte) : Link :=
  if Config.bodyMax < b.toNat then l.cutOff .waitIdle
  else { l with len := b.toNat, sum := l.sum + b.setWidth 16, rx := .kind }

/-- R166: the kind byte. -/
def Link.takeKind (l : Link) (b : Byte) : Link :=
  { l with kind := b, sum := l.sum + b.setWidth 16, rx := if l.len = 0 then .check else .body }

/-- R166: a body byte. -/
def Link.takeBody (l : Link) (b : Byte) : Link :=
  let body := l.body ++ [b]
  { l with body := body, sum := l.sum + b.setWidth 16,
           rx := if body.length = l.len then .check else .body }

/-- R167: the second CHECK byte: the frame is well formed and taken, or a check error. -/
def endFrame (lo : Byte) (hi : Byte) (s : State) : State :=
  let l := s.link
  if word16 hi lo = l.sum then
    match l.cls with
    | .addressed => takeAddressed l.kind.toNat (requestOf l.kind.toNat l.body) s
    | .broadcast => takeBroadcastFrame l.kind.toNat l.body s
  else
    { s with link := { l.clearBuffer .waitIdle with checkErrors := satInc l.checkErrors } }

/-- R164 to R168: the receiver takes a character; `err` says whether it carries an error mark. -/
def receive (b : Byte) (err : Bool) (s : State) : State :=
  let l := s.link
  if RxState.inFrame l.rx && err then { s with link := l.cutOff .waitIdle }
  else
    match l.rx with
    | .waitIdle | .skip | .discard => s
    | .hunt =>
      if b = Config.lead ∧ !err then { s with link := l.clearBuffer .dest }
      else { s with link := l.clearBuffer .waitIdle }
    | .dest => { s with link := l.takeDest b }
    | .len => { s with link := l.takeLen b }
    | .kind => { s with link := l.takeKind b }
    | .body => { s with link := l.takeBody b }
    | .check =>
      match l.checkHi with
      | none => { s with link := { l with checkHi := some b } }
      | some hi => endFrame b hi s

/-- R163, R172: a character on RXD: not sampled while TXEN is asserted; held off while a reply is
pending; else taken by the receiver. -/
def takeChar (b : Byte) (parity stop : Bool) (s : State) : State :=
  if s.link.txen then s
  else if s.link.replyPending then { s with link := (s.link.noise stop).seeOverlap }
  else receive b (charError b parity stop) { s with link := s.link.noise stop }

/-- The bytes of a request frame (9.2). -/
def frameBytes (dest kind : Byte) (body : List Byte) (check : BitVec 16) : List Byte :=
  [Config.lead, dest, BitVec.ofNat 8 body.length, kind] ++ body ++ natBytes 2 check.toNat

/-- R164 to R172: a whole frame, led by its idle gap, character by character and free of error
marks (log 5). -/
def takeFrame (dest kind : Byte) (body : List Byte) (check : BitVec 16) (s : State) : State :=
  (frameBytes dest kind body check).foldl (fun s b => takeChar b (evenParity b) true s)
    { s with link := s.link.idleGap }

/-! ## A request as one command (log 5) -/

/-- A well-formed frame to this station carrying a request, led by its idle gap: lost while a reply
is pending (R172), passed by where the own address is 0 (R162), else taken. -/
def hostRequest (kind : Nat) (op : State → State × Reply) (s : State) : State :=
  if s.link.txen then s
  else if s.link.replyPending then { s with link := (s.link.noise true).seeOverlap }
  else
    let l := s.link.idleGap.noise true
    if l.own = 0 then { s with link := l.clearBuffer .skip }
    else takeAddressed kind op { s with link := l }

/-- The same for a broadcast (R170), which a station of address 0 takes as any other. -/
def hostBroadcast (take : State → State) (s : State) : State :=
  if s.link.txen then s
  else if s.link.replyPending then { s with link := (s.link.noise true).seeOverlap }
  else take { s with link := s.link.idleGap.noise true }

/-- R171: the end of the reply wait: TXEN is asserted, and RXD is sampled no further (R163). The link's own times are in bit times, so the timebase stays where it stands (log 3). -/
def beginReply (s : State) : State :=
  if s.link.replyPending ∧ !s.link.txen then
    { s with link := { s.link with
        txen := true, rxBusy := false, txd := s.link.image.map charBits, waitLeft := 0,
        txLeft := Config.charUnits * s.link.image.length } }
  else s

/-- R171, R174: TXEN is released and reply pending cleared; a new quiet stretch begins, with RXD taken to
rest until it is seen to fall (log 34). The timebase stays where it stands (log 3). -/
def endReply (s : State) : State :=
  { s with link := { s.link with
      txen := false, txd := [], txLeft := 0, replyPending := false, quiet := 0,
      rxBusy := false, restart := none } }

end Sys2Proof.Machine
end

