-- ==== Sys2Proof/Machine/ResetOps.lean ====
section
/-! DEFINITION. The two levels of reset, block by block: FULL (R17, R34, R55, R76, R81, R96, R117, R145,
R160, R174) and RUNTIME (R18, R35, R56, R77, R81, R96, R118, R146, R161). -/

namespace Sys2Proof.Machine

/-- R34: a qualifier as a reset leaves it for an input level. -/
def levelState (high : Bool) : QualState := if high then .discarding else .waiting

/-! ## FULL -/

/-- R17, R1: the web side after a FULL reset that ends at instant `now`. -/
def fullWeb (now : Nat) (p : PinLevels) : Web :=
  { resetWeb with encA := p.encA, encB := p.encB, gateEnd := now + Config.gateTicks }

/-- R34: the qualifiers after a FULL reset. -/
def fullQual (p : PinLevels) : PerSensor Qual :=
  ⟨{ resetQual 20 150 with state := levelState p.pmark },
   { resetQual 20 400 with state := levelState p.fmark }⟩

/-- The levels a reset reads at the sensors and confirm inputs. -/
def pinInputs (p : PinLevels) : Inputs :=
  { pmark := p.pmark, fmark := p.fmark, cnf := ⟨p.cnfF, p.cnfE⟩, edge := ⟨false, false⟩ }

/-- R187: a FULL reset: every block at its FULL values, the inputs and straps as `p` gives them. The
timebase, the commands that wait and the model's own counter go on. -/
def fullReset (p : PinLevels) (s : State) : State :=
  { State.reset with
    now := s.now, inputs := pinInputs p, web := fullWeb s.now p, qual := fullQual p,
    link := resetLink p.adr p.bdr, free := s.free, pending := s.pending }

/-! ## RUNTIME -/

/-- R18: the web side: the quadrature reference is the level of the pins as last seen (R1). -/
def runtimeWeb (now : Nat) (x : Web) : Web :=
  { x with w := 0, dir := .forward, tally := 0, v := 0, stopped := true, speed := 0,
           gateEnd := now + Config.gateTicks }

/-- R18. -/
def runtimePhase (p : Phase) : Phase :=
  { p with phi := 0, pub := 0, hold := 0, armed := true, missOpen := false, missCount := 0,
           indexLost := false }

/-- R35: a measurement in progress is dropped without being counted. W_lead and the latched width limits,
for which R35 gives no value, stay as they are (DESIGN CHOICE, log 37). -/
def runtimeQual (high : Bool) (q : Qual) : Qual := { q with state := levelState high }

/-- R35. Q, for which R35 gives no value, stays as it is (DESIGN CHOICE, log 37). -/
def runtimeTracker (canTrack : Bool) (t : Tracker) : Tracker :=
  { t with state := if canTrack then .search else .idle, eSub := 0, k := 0, coast := 0,
           waiting := false }

/-- R77. -/
def runtimeLoop (x : Loop) : Loop := { x with mode := .off, a := x.a - x.p, p := 0, run := 0 }

/-- R81. The latched interval t, for which R81 gives no value, stays as it is (DESIGN CHOICE, log 40). -/
def runtimeEmitter (x : Emitter) : Emitter :=
  { x with state := .idle, tstp := false, tdir := .advance, lastStep := none, lastTurn := none }

/-- R146: the state of a lane. -/
def runtimeLaneState : LaneState → LaneState
  | .run | .dwell => .dwell
  | .parked | .check => .parked
  | .faulted => .faulted
  | .disabled => .disabled

/-- R146: a lane before its run list is rebuilt. Four points R146 leaves open (DESIGN CHOICE): park expired is
cleared in CHECK as it is in PARKED; the entry hold is set in RUN and DWELL and stays as it was in the other
states; the park timer of a lane that was neither PARKED nor CHECK stays as it was (log 39); and the latched
ratio, check steps and check interval, for which R146 gives no value, stay as they were (log 40). -/
def runtimeLane (x : LaneCtl) : LaneCtl :=
  { x with
    state := runtimeLaneState x.state,
    hold := x.hold || x.state == .run || x.state == .dwell,
    run := none, acc := 0, runSteps := 0, motion := 0, tally := 0, parkPending := false,
    parkTimer := (if x.state = .parked ∨ x.state = .check then 0 else x.parkTimer),
    parkExpired := (if x.state = .parked ∨ x.state = .check then false else x.parkExpired),
    check := (if x.state = .check then { x.check with done := true, result := .aborted }
              else x.check),
    checkTimer := none }

/-- R187: a RUNTIME reset: every block from the state it has reached; the Fault Unit, the Link Port and
CONFIG_DEFAULT are left as they are. -/
def runtimeReset (s : State) : State :=
  let s1 : State :=
    { s with
      web := runtimeWeb s.now s.web,
      phase := ⟨runtimePhase s.phase.f, runtimePhase s.phase.e⟩,
      qual := ⟨runtimeQual s.inputs.pmark s.qual.print, runtimeQual s.inputs.fmark s.qual.foil⟩,
      tracker := runtimeTracker s.canTrack s.tracker,
      track := emptyTrack s.track,
      loop := ⟨runtimeLoop s.loop.f, runtimeLoop s.loop.e⟩,
      emit := ⟨runtimeEmitter s.emit.f, runtimeEmitter s.emit.e⟩,
      seq := ⟨resetSequencer, resetSequencer⟩,
      stopDwell := none,
      resume := false,
      sheets := { s.sheets with pending := none },
      lane := s.lane.map fun _ x => runtimeLane x }
  rebuildAll s1

/-- The levels of the input pins as the part last saw them, with strap levels given. -/
def pinsSeen (adr : BitVec 5) (bdr : BitVec 2) (s : State) : PinLevels :=
  { encA := s.web.encA, encB := s.web.encB, pmark := s.inputs.pmark, fmark := s.inputs.fmark,
    cnfF := s.inputs.cnf.f, cnfE := s.inputs.cnf.e, adr := adr, bdr := bdr }

/-- R174, R187: the restart that was waiting for the end of its reply. -/
def takeRestart (adr : BitVec 5) (bdr : BitVec 2) : Option RestartLevel → State → State
  | none, s => s
  | some .runtime, s => runtimeReset s
  | some .full, s => fullReset (pinsSeen adr bdr s) s

end Sys2Proof.Machine
end

