-- ==== Sys2Proof/Machine/Timebase.lean ====
section
/-! DEFINITION. The 1 MHz timebase between commands: which timers have reached their instants, and one
tick (00, "Time"; log 2). -/

namespace Sys2Proof.Machine

/-- A timer that has reached its instant. -/
def expired (now : Nat) (t : Option Nat) : Bool := t.any (· ≤ now)

/-- The commands of the trim emitter of a cylinder that are due (R78). -/
def emitterDue (now : Nat) (c : Cyl) (x : Emitter) : List Instr :=
  match x.state with
  | .idle => []
  | .step => if stepTimeDue x ≤ now then [.stepTimeEnd c] else []
  | .space => if spaceDue x ≤ now then [.spaceEnd c] else []

/-- The timer commands of a sequencer that are due (R85, R87). -/
def seqDue (now : Nat) (c : Cyl) (q : Sequencer) : List Instr :=
  (if expired now q.engage then [.engageTimerExpiry c] else []) ++
  (if expired now q.release then [.releaseTimerExpiry c] else [])

/-- The edge of a confirm input that still waits for its sequencer (log 35). -/
def edgeDue (c : Cyl) (i : Inputs) : List Instr :=
  if i.edge.get c then
    [if i.cnf.get c then .confirmRise ⟨c, true⟩ else .confirmFall ⟨c, true⟩]
  else []

/-- The command of a lane's check timer that is due (R141). -/
def checkDue (now : Nat) (l : Lane) (x : LaneCtl) : List Instr :=
  if expired now x.checkTimer then [.checkTimerExpiry l] else []

/-- The commands of the link that are due (R163, R171): `old` is the Link Port before the tick. -/
def linkDue (old l : Link) : List Instr :=
  (if old.quiet < Config.gapUnits ∧ Config.gapUnits ≤ l.quiet then [.idleGap] else []) ++
  (if l.replyPending && !l.txen && decide (l.waitLeft ≤ 0) then [.replyWaitEnd] else []) ++
  (if l.txen && decide (l.txLeft ≤ 0) then [.replyEnd l.own (baudCode l.baud)] else [])
where
  /-- The strap levels that give a baud rate (R162). -/
  baudCode (b : Nat) : BitVec 2 :=
    if b = 115200 then 0 else if b = 230400 then 1 else if b = 460800 then 2 else 3

/-- R163: the quiet time one microsecond on. Below 0 it runs up to the end of the character whatever RXD
does; from 0 on it rises only while RXD is at rest, up to the idle gap; it stands while TXEN is asserted. -/
def Link.quietTick (l : Link) : Int :=
  if l.txen then l.quiet
  else if l.rxBusy then max l.quiet (min (l.quiet + l.baud) 0)
  else min (l.quiet + l.baud) Config.gapUnits

/-- One microsecond at the Link Port, in millionths of a bit time. -/
def Link.tick (l : Link) : Link :=
  { l with
    quiet := l.quietTick,
    waitLeft := (if l.replyPending && !l.txen then l.waitLeft - l.baud else l.waitLeft),
    txLeft := (if l.txen then l.txLeft - l.baud else l.txLeft) }

/-- Every waiting edge and timer command that is due, in the order the model takes them (log 2). -/
def dueCommands (old : Link) (s : State) : List Instr :=
  edgeDue .f s.inputs ++ edgeDue .e s.inputs ++
  (if s.web.gateEnd ≤ s.now then [.speedGateEnd] else []) ++
  emitterDue s.now .f s.emit.f ++ emitterDue s.now .e s.emit.e ++
  seqDue s.now .f s.seq.f ++ seqDue s.now .e s.seq.e ++
  (if expired s.now s.stopDwell then [.stopDwellExpiry] else []) ++
  checkDue s.now .l0 s.lane.l0 ++ checkDue s.now .l1 s.lane.l1 ++
  checkDue s.now .l2 s.lane.l2 ++ checkDue s.now .l3 s.lane.l3 ++
  linkDue old s.link

/-- One tick of the timebase: what a step on an empty queue does. -/
def tick (s : State) : State :=
  let s1 := { s with now := s.now + 1, link := s.link.tick }
  { s1 with pending := s1.pending ++ dueCommands s.link s1 }

end Sys2Proof.Machine
end

