-- ==== Sys2Proof/Machine/ActuationEvents.lean ====
section
/-! DEFINITION. The events of the trim emitters and the impression sequencers: SPACE_END, STEP_TIME_END,
CONFIRM_RISE, CONFIRM_FALL and the expiries of the timers (chapter 5). An expiry of a timer that does
not run changes nothing (log 3, 4). -/

namespace Sys2Proof.Machine

/-! ## Trim emitters (R78, R79) -/

/-- R78: the end of a SPACE: the next pulse, or IDLE. -/
def spaceEnd (c : Cyl) (s : State) : State :=
  if (s.emit.get c).state = .space then
    let s1 := s.reachTime (spaceDue (s.emit.get c))
    if (s1.loop.get c).p = 0 then s1.setEmit c { s1.emit.get c with state := .idle }
    else emitPulse c s1
  else s

/-- SPACE_END (R78). -/
def execSpaceEnd (c : Cyl) (s : State) : Answer := .next (spaceEnd c s)

/-- R78, R79: the step time is over: TSTP falls, and TDIR turns if P has taken the other sign. -/
def stepTimeEnd (c : Cyl) (s : State) : State :=
  if (s.emit.get c).state = .step then
    let s1 := s.reachTime (stepTimeDue (s.emit.get c))
    turnIfNeeded c (s1.setEmit c { s1.emit.get c with state := .space, tstp := false })
  else s

/-- STEP_TIME_END (R78, R79). -/
def execStepTimeEnd (c : Cyl) (s : State) : Answer := .next (stepTimeEnd c s)

/-! ## Confirm inputs (R85 to R87) -/

/-- R85, R87: the sequencer takes a rising edge of CNF. -/
def takeRise (c : Cyl) (s : State) : State :=
  match (s.seq.get c).state with
  | .engaging => seqTo c .on s
  | .off | .waitPhase | .on | .releasing => s

/-- R86: the confirm is lost in ON. -/
def confirmLost (c : Cyl) (s : State) : State :=
  let s1 := raise ⟨.confirmLost, .cyl c, none, ((s.phase.get c).phi / 256 : Nat)⟩ s
  seqTo c .off (setCause c .confirmLost (dropDwell c s1))

/-- R86, R87: the sequencer takes a falling edge of CNF. -/
def takeFall (c : Cyl) (s : State) : State :=
  match (s.seq.get c).state with
  | .on => confirmLost c s
  | .releasing => seqTo c .off s
  | .off | .waitPhase | .engaging => s

/-- The edge that brought a confirm input to its level is taken. -/
def takeEdge (c : Cyl) (s : State) : State :=
  if s.inputs.cnf.get c then takeRise c s else takeFall c s

/-- The level of a confirm input, and whether the edge that brought it waits. -/
def setConfirm (c : Cyl) (high waits : Bool) (s : State) : State :=
  { s with inputs := { s.inputs with
      cnf := s.inputs.cnf.set c high, edge := s.inputs.edge.set c waits } }

/-- R85, R92: an edge of CNF to the level `high`: taken at once, or left to wait while an event that came
together with it goes first. An edge the other way that still waits is taken before it (log 35). -/
def confirmEdge (high : Bool) (x : ConfirmEdge) (s : State) : State :=
  let s1 := if s.inputs.edge.get x.cyl && s.inputs.cnf.get x.cyl != high then takeEdge x.cyl s else s
  let s2 := setConfirm x.cyl high (!x.taken) s1
  if x.taken then takeEdge x.cyl s2 else s2

/-- CONFIRM_RISE (R85). -/
def execConfirmRise (c : ConfirmEdge) (s : State) : Answer := .next (confirmEdge true c s)

/-- CONFIRM_FALL (R86). -/
def execConfirmFall (c : ConfirmEdge) (s : State) : Answer := .next (confirmEdge false c s)

/-! ## Timers of the sequencers -/

/-- R90: the stop dwell timer of F stops. -/
def stopDwellOf (c : Cyl) (s : State) : State := if c = .f then { s with stopDwell := none } else s

/-- R85: the engage timer expires in ENGAGING. -/
def engageTimeout (c : Cyl) (s : State) : State :=
  let s1 := raise ⟨.engageTimeout, .cyl c, none, (s.items.act.engage.get c : Nat)⟩ s
  enterReleasing c (setCause c .engageTimeout (stopDwellOf c s1))

/-- R85: the engage timer expires. -/
def engageExpiry (c : Cyl) (s : State) : State :=
  match (s.seq.get c).engage with
  | some due => engageTimeout c (s.reachTime due)
  | none => s

/-- ENGAGE_TIMER_EXPIRY (R85). -/
def execEngageTimerExpiry (c : Cyl) (s : State) : Answer := .next (engageExpiry c s)

/-- R87: the release timer expires in RELEASING. -/
def releaseTimeout (c : Cyl) (s : State) : State :=
  let s1 := raise ⟨.releaseTimeout, .cyl c, none, (s.items.act.release.get c : Nat)⟩ s
  clearResume c (seqTo c .off s1)

/-- R87: the release timer expires. -/
def releaseExpiry (c : Cyl) (s : State) : State :=
  match (s.seq.get c).release with
  | some due => releaseTimeout c (s.reachTime due)
  | none => s

/-- RELEASE_TIMER_EXPIRY (R87). -/
def execReleaseTimerExpiry (c : Cyl) (s : State) : Answer := .next (releaseExpiry c s)

/-- R90: the stop dwell timer expires. -/
def stopDwellExpiry (s : State) : State :=
  match s.stopDwell with
  | some due => stopThrowOff (s.reachTime due)
  | none => s

/-- STOP_DWELL_EXPIRY (R90). -/
def execStopDwellExpiry (s : State) : Answer := .next (stopDwellExpiry s)

end Sys2Proof.Machine
end

