-- ==== Sys2Proof/Machine/ConfigRequests.lean ====
section
/-! DEFINITION. The requests on configuration items and curves: CONFIG WRITE under each owner's rule,
CONFIG READ, CURVE WRITE, CURVE READ (10.3, 10.4). -/

namespace Sys2Proof.Machine

/-- CONFIG_WRITE (R179): an item number that no other row writes. -/
def execConfigWrite (item : Byte) (value : BitVec 32) (s : State) : Answer :=
  .next (hostRequest 0x02 (configWriteNumber item value) s)

/-- WEB_TIMING_CONFIG_WRITE (R4). -/
def execWebTimingConfigWrite (i : WebItem) (value : BitVec 32) (s : State) : Answer :=
  .next (hostRequest 0x02 (configWriteWith (.web i) (writeWeb i value.toNat)) s)

/-- INDEX_CONFIG_WRITE (R14). -/
def execIndexConfigWrite (i : IndexItem) (c : Cyl) (value : BitVec 32) (s : State) : Answer :=
  .next (hostRequest 0x02 (configWriteWith (.index i c) (writeIndex i c value.toNat)) s)

/-- MARK_CONFIG_WRITE (R32). -/
def execMarkConfigWrite (i : MarkItem) (value : BitVec 32) (s : State) : Answer :=
  .next (hostRequest 0x02 (configWriteWith (.mark i) (writeMark i value.toNat)) s)

/-- GEOMETRY_WRITE (R49). -/
def execGeometryWrite (i : GeoItem) (value : BitVec 32) (s : State) : Answer :=
  .next (hostRequest 0x02 (configWriteWith (.geo i) (writeGeo i value.toNat)) s)

/-- REJECT_MASK_WRITE (R51). -/
def execRejectMaskWrite (value : BitVec 32) (s : State) : Answer :=
  .next (hostRequest 0x02 (configWriteWith .rejectMask (writeRejectMask value.toNat)) s)

/-- LOOP_CONFIG_WRITE (R75). -/
def execLoopConfigWrite (i : LoopItem) (c : Cyl) (value : BitVec 32) (s : State) : Answer :=
  .next (hostRequest 0x02 (configWriteWith (.loop i c) (writeLoop i c value.toNat)) s)

/-- TRIM_INTERVAL_WRITE (R81). -/
def execTrimIntervalWrite (value : BitVec 32) (s : State) : Answer :=
  .next (hostRequest 0x02 (configWriteWith .trimInterval (writeTrimInterval value.toNat)) s)

/-- ACTUATION_CONFIG_WRITE (R94). -/
def execActuationConfigWrite (i : ActItem) (value : BitVec 32) (s : State) : Answer :=
  .next (hostRequest 0x02 (configWriteWith (.act i) (writeAct i value.toNat)) s)

/-- DRIVE_MAPPING_WRITE (R120). -/
def execDriveMappingWrite (l : Lane) (value : BitVec 32) (s : State) : Answer :=
  .next (hostRequest 0x02 (configWriteWith (.mapping l) (writeMapping l value.toNat)) s)

/-- LANE_CONFIG_WRITE (R144). -/
def execLaneConfigWrite (i : LaneItem) (l : Lane) (value : BitVec 32) (s : State) : Answer :=
  .next (hostRequest 0x02 (configWriteWith (.lane i l) (writeLane i l value.toNat)) s)

/-- FREEZE_ON_FIRST_WRITE (R159). -/
def execFreezeOnFirstWrite (value : BitVec 32) (s : State) : Answer :=
  .next (hostRequest 0x02 (configWriteWith .freezeOnFirst (writeFreeze value.toNat)) s)

/-- ALARM_MASK_WRITE (R154). -/
def execAlarmMaskWrite (value : BitVec 32) (s : State) : Answer :=
  .next (hostRequest 0x02 (configWriteWith .alarmMask (writeAlarmMask value.toNat)) s)

/-- CONFIG_READ (R179). -/
def execConfigRead (item : Byte) (s : State) : Answer :=
  .next (hostRequest 0x03 (configReadNumber item) s)

/-- CURVE_WRITE (R122, R180). -/
def execCurveWrite (lane : Byte) (anchors : List (BitVec 16)) (s : State) : Answer :=
  .next (hostRequest 0x04 (curveWriteReq lane anchors) s)

/-- CURVE_READ (R180). -/
def execCurveRead (lane : Byte) (s : State) : Answer :=
  .next (hostRequest 0x05 (curveReadReq lane) s)

end Sys2Proof.Machine
end

