-- ==== Sys2Proof/Machine/CylinderRequests.lean ====
section
/-! DEFINITION. The requests on cylinders and register loops (chapters 4 and 5, coded as R183). -/

namespace Sys2Proof.Machine

/-- ENGAGE (R83). -/
def execEngage (cyl : Byte) (s : State) : Answer := .next (hostRequest 0x20 (engageReq cyl) s)

/-- DISENGAGE (R89): addressed, or a broadcast (R170). -/
def execDisengage (set : Byte) (broadcast : Bool) (s : State) : Answer :=
  .next (if broadcast then hostBroadcast (takeBroadcastFrame 0x21 [set]) s
         else hostRequest 0x21 (disengageReq set) s)

/-- LOOP_MODE (R68, R69). -/
def execLoopMode (cyl mode : Byte) (s : State) : Answer :=
  .next (hostRequest 0x22 (loopModeReq cyl mode) s)

/-- NUDGE (R70). -/
def execNudge (cyl : Byte) (delta : BitVec 16) (s : State) : Answer :=
  .next (hostRequest 0x23 (nudgeReq cyl delta) s)

/-- TRIM_MOVE (R71). -/
def execTrimMove (cyl : Byte) (move : BitVec 16) (s : State) : Answer :=
  .next (hostRequest 0x24 (trimMoveReq cyl move) s)

/-- TRIM_ZERO (R72). -/
def execTrimZero (cyl : Byte) (s : State) : Answer :=
  .next (hostRequest 0x25 (trimZeroReq cyl) s)

/-- LOOP_READ (R74). -/
def execLoopRead (cyl : Byte) (s : State) : Answer :=
  .next (hostRequest 0x26 (loopReadReq cyl) s)

end Sys2Proof.Machine
end

