-- ==== Sys2Proof/Machine/LaneEvents.lean ====
section
/-! DEFINITION. The events of the foil lanes: MOTION_PULSE, CHECK_TIMER_EXPIRY (chapter 7). -/

namespace Sys2Proof.Machine

/-- R133: a motion pulse at its lane. -/
def takeMotion (x : LaneCtl) : LaneCtl :=
  { x with motion := 0,
           check := if x.state = .check then { x.check with pulses := x.check.pulses + 1 }
                    else x.check }

def motionPulse (l : Lane) (s : State) : State := s.setLane l (takeMotion (s.lane.get l))

/-- MOTION_PULSE (R133). -/
def execMotionPulse (l : Lane) (s : State) : Answer := .next (motionPulse l s)

/-- R141: the check ends with the lane back in PARKED. -/
def endCheck (x : LaneCtl) : LaneCtl :=
  { x with state := .parked, checkTimer := none,
           check := { x.check with done := true,
                                   result := if x.check.pulses = 0 then .fail else .pass } }

/-- R141: the check timer expires in CHECK at the instant `due`. -/
def checkStep (l : Lane) (due : Nat) (s : State) : State :=
  let x := s.lane.get l
  if x.check.steps < x.checkSteps then
    laneStep l (s.setLane l { x with checkTimer := some (due + x.checkEvery) })
  else s.setLane l (endCheck x)

/-- R141: a check timer expires; one that does not run, or a lane not in CHECK, takes none (log 4). -/
def checkExpiry (l : Lane) (s : State) : State :=
  match (s.lane.get l).checkTimer with
  | some due => if (s.lane.get l).state = .check then checkStep l due (s.reachTime due) else s
  | none => s

/-- CHECK_TIMER_EXPIRY (R141). -/
def execCheckTimerExpiry (l : Lane) (s : State) : Answer := .next (checkExpiry l s)

end Sys2Proof.Machine
end

