-- ==== Sys2Proof/Machine/LaneRequests.lean ====
section
/-! DEFINITION. The requests on foil lanes (chapter 7, coded as R184). -/

namespace Sys2Proof.Machine

/-- LANE_PARK (R137). -/
def execLanePark (lane : Byte) (s : State) : Answer := .next (hostRequest 0x30 (lanePark lane) s)

/-- LANE_RELEASE (R139). -/
def execLaneRelease (lane : Byte) (s : State) : Answer :=
  .next (hostRequest 0x31 (laneRelease lane) s)

/-- ROLL_LOAD (R130). -/
def execRollLoad (lane : Byte) (steps : BitVec 32) (s : State) : Answer :=
  .next (hostRequest 0x32 (rollLoad lane steps) s)

/-- LANE_CHECK (R140). -/
def execLaneCheck (lane : Byte) (s : State) : Answer := .next (hostRequest 0x33 (laneCheck lane) s)

/-- LANE_READ (R143). -/
def execLaneRead (lane : Byte) (s : State) : Answer := .next (hostRequest 0x34 (laneReadReq lane) s)

end Sys2Proof.Machine
end

