-- ==== Sys2Proof/Machine/LinkEvents.lean ====
section
/-! DEFINITION. The events of the line link: CHARACTER_RECEIVED, IDLE_GAP, FRAME_RECEIVED, FRAME_CUT_OFF,
OVERLAP, REPLY_WAIT_END, REPLY_END (chapter 9). -/

namespace Sys2Proof.Machine

/-- R163: RXD falls, RXD is high again, or a character is handed over. -/
def characterReceived (data : RxData) (parity stop : Bool) (s : State) : State :=
  match data with
  | .startBit => { s with link := s.link.startBit }
  | .lineHigh => { s with link := s.link.lineHigh }
  | .byte b => takeChar b parity stop s

/-- CHARACTER_RECEIVED (R163 to R168, R172). -/
def execCharacterReceived (data : RxData) (parity stop : Bool) (s : State) : Answer :=
  .next (characterReceived data parity stop s)

/-- R163, R164, R168: the quiet time reaches 20 bit times. The timebase stays where it stands
(log 3). -/
def idleGap (s : State) : State := { s with link := s.link.idleGap }

/-- IDLE_GAP (R163, R164). -/
def execIdleGap (s : State) : Answer := .next (idleGap s)

/-- FRAME_RECEIVED (R164 to R170): a whole frame, led by its idle gap (log 5). -/
def execFrameReceived (dest kind : Byte) (body : List Byte) (check : BitVec 16) (s : State) :
    Answer :=
  .next (takeFrame dest kind body check s)

/-- R168: the causes that can meet the receiver in a state: a refused length only in LEN. -/
def cutPossible (cause : CutCause) (rx : RxState) : Bool :=
  match cause with
  | .length => rx == .len
  | .parity | .framing | .idleGap => RxState.inFrame rx

/-- R168: the frame being received is cut off. Of the causes a framing error alone leaves RXD low, as its
stop bit is (R163, log 34). -/
def frameCutOff (cause : CutCause) (s : State) : State :=
  let l := s.link
  if l.txen || l.replyPending || !cutPossible cause l.rx then s
  else
    match cause with
    | .idleGap => { s with link := l.idleGap }
    | .parity | .framing | .length => { s with link := (l.noise (cause != .framing)).cutOff .waitIdle }

/-- FRAME_CUT_OFF (R168). -/
def execFrameCutOff (cause : CutCause) (s : State) : Answer := .next (frameCutOff cause s)

/-- R172: a character is seen during the reply wait. The row gives it no bits, so its stop bit is taken to
be high (log 34). -/
def overlap (s : State) : State :=
  if s.link.replyPending && !s.link.txen then { s with link := (s.link.noise true).seeOverlap } else s

/-- OVERLAP (R172). -/
def execOverlap (s : State) : Answer := .next (overlap s)

/-- REPLY_WAIT_END (R171). -/
def execReplyWaitEnd (s : State) : Answer := .next (beginReply s)

/-- R171, R174: the reply has gone out; a RESTART that waited takes effect. -/
def replyEnd (adr : BitVec 5) (bdr : BitVec 2) (s : State) : State :=
  if s.link.txen then takeRestart adr bdr s.link.restart (endReply s) else s

/-- REPLY_END (R171, R174, R187). -/
def execReplyEnd (adr : BitVec 5) (bdr : BitVec 2) (s : State) : Answer :=
  .next (replyEnd adr bdr s)

end Sys2Proof.Machine
end

