-- ==== Sys2Proof/Machine/MarkEvents.lean ====
section
/-! DEFINITION. The events of the mark sensors: MARK_LEADING_EDGE, MARK_TRAILING_EDGE (chapter 2). -/

namespace Sys2Proof.Machine

/-- The level last seen on a sensor input. -/
def Inputs.level (i : Inputs) : Sensor → Bool
  | .print => i.pmark
  | .foil => i.fmark

/-- The level of a sensor input changes. -/
def setLevel (x : Sensor) (high : Bool) (s : State) : State :=
  match x with
  | .print => { s with inputs := { s.inputs with pmark := high } }
  | .foil => { s with inputs := { s.inputs with fmark := high } }

/-- R19: a rising edge; one that finds the level active already is not taken. -/
def markRise (x : Sensor) (s : State) : State :=
  if s.inputs.level x then s else leadingEdge x (setLevel x true s)

/-- R20: a falling edge; one that finds the level inactive already is no edge. -/
def markFall (x : Sensor) (s : State) : State :=
  if s.inputs.level x then trailingEdge x (setLevel x false s) else s

/-- MARK_LEADING_EDGE (R19). -/
def execMarkLeadingEdge (x : Sensor) (s : State) : Answer := .next (markRise x s)

/-- MARK_TRAILING_EDGE (R20). -/
def execMarkTrailingEdge (x : Sensor) (s : State) : Answer := .next (markFall x s)

end Sys2Proof.Machine
end

