-- ==== Sys2Proof/Machine/ReportRequests.lean ====
section
/-! DEFINITION. STATUS READ and the requests on the track, faults, counters and restart (10.2, 10.7). -/

namespace Sys2Proof.Machine

/-- STATUS_READ (R178). -/
def execStatusRead (s : State) : Answer := .next (hostRequest 0x01 statusReq s)

/-- TRACK_READ (R52, R185). -/
def execTrackRead (selector : Byte) (serial : BitVec 16) (count : Byte) (s : State) : Answer :=
  .next (hostRequest 0x40 (trackReadReq selector serial count) s)

/-- TRACK_FLUSH (R48). -/
def execTrackFlush (s : State) : Answer := .next (hostRequest 0x41 trackFlushReq s)

/-- FAULT_READ (R158). -/
def execFaultRead (s : State) : Answer := .next (hostRequest 0x50 faultReadReq s)

/-- FAULT_CLEAR (R155, R186). -/
def execFaultClear (codes : BitVec 16) (option : Byte) (s : State) : Answer :=
  .next (hostRequest 0x51 (faultClearReq codes option) s)

/-- COUNTERS_READ (R186). -/
def execCountersRead (s : State) : Answer := .next (hostRequest 0x52 countersReadReq s)

/-- COUNTERS_CLEAR (R186). -/
def execCountersClear (s : State) : Answer := .next (hostRequest 0x53 countersClearReq s)

/-- RESTART (R187). -/
def execRestart (level : Byte) (s : State) : Answer := .next (hostRequest 0x60 (restartReq level) s)

end Sys2Proof.Machine
end

