-- ==== Sys2Proof/Machine/ResetEvents.lean ====
section
/-! DEFINITION. The events that cause a FULL reset: RESET_INPUT, POWER_ON (00, "Resets"; R187). -/

namespace Sys2Proof.Machine

/-- RESET_INPUT (R17, R187). -/
def execResetInput (p : PinLevels) (s : State) : Answer := .next (fullReset p s)

/-- POWER_ON (R17, R187). -/
def execPowerOn (p : PinLevels) (s : State) : Answer := .next (fullReset p s)

end Sys2Proof.Machine
end

