-- ==== Sys2Proof/Machine/SheetRequests.lean ====
section
/-! DEFINITION. The requests on the job sheet (chapter 6, coded as R181 and R182). -/

namespace Sys2Proof.Machine

/-- SHEET_PARAM_WRITE (R97). -/
def execSheetParamWrite (lSub tF tE : BitVec 24) (throwF throwE : BitVec 16) (use ref : Byte)
    (s : State) : Answer :=
  .next (hostRequest 0x10 (sheetParamWrite lSub tF tE throwF throwE use ref) s)

/-- WINDOW_WRITE (R100). -/
def execWindowWrite (start : Byte) (entries : List WindowBytes) (s : State) : Answer :=
  .next (hostRequest 0x11 (windowWrite start entries) s)

/-- WINDOW_READ (R101). -/
def execWindowRead (table start count : Byte) (s : State) : Answer :=
  .next (hostRequest 0x12 (windowRead table start count) s)

/-- WINDOW_EDIT (R102, R103). -/
def execWindowEdit (laneC tagC enabledC mask newLane newTag newEnabled : Byte)
    (shift : BitVec 16) (s : State) : Answer :=
  .next (hostRequest 0x13 (windowEdit laneC tagC enabledC mask newLane newTag newEnabled shift) s)

/-- SHEET_COPY_BACK (R104). -/
def execSheetCopyBack (s : State) : Answer := .next (hostRequest 0x14 sheetCopyBack s)

/-- SHEET_CLEAR (R105). -/
def execSheetClear (s : State) : Answer := .next (hostRequest 0x15 sheetClear s)

/-- COMMIT (R106 to R112): addressed, or a broadcast. -/
def execCommit (broadcast : Bool) (s : State) : Answer :=
  .next (if broadcast then hostBroadcast (takeBroadcastFrame 0x16 []) s
         else hostRequest 0x16 commitSheet s)

/-- SHEET_PARAM_READ (R98). -/
def execSheetParamRead (sheet : Byte) (s : State) : Answer :=
  .next (hostRequest 0x17 (sheetParamRead sheet) s)

end Sys2Proof.Machine
end

