-- ==== Sys2Proof/Machine/WebEvents.lean ====
section
/-! DEFINITION. The events of the Web Timing Unit: ENCODER_TRANSITION, SPEED_GATE_END, INDEX_ARRIVAL
(chapter 1). -/

namespace Sys2Proof.Machine

/-! ## The encoder (R1) -/

/-- What a transition of the encoder pair gives. -/
inductive EncoderStep where
  | same | forward | reverse | error
  deriving DecidableEq, Repr

/-- R1: the table for the item at NORMAL, from (a, b) to (a', b'). -/
def encoderStep (a b a' b' : Bool) : EncoderStep :=
  match a, b, a', b' with
  | false, false, false, true => .forward
  | false, true, true, true => .forward
  | true, true, true, false => .forward
  | true, false, false, false => .forward
  | false, false, true, false => .reverse
  | true, false, true, true => .reverse
  | true, true, false, true => .reverse
  | false, true, false, false => .reverse
  | false, false, true, true => .error
  | true, true, false, false => .error
  | false, true, true, false => .error
  | true, false, false, true => .error
  | _, _, _, _ => .same

/-- R1: with the item at INVERTED, forward and reverse counts change places. -/
def EncoderStep.sense (inverted : Bool) : EncoderStep → EncoderStep
  | .forward => if inverted then .reverse else .forward
  | .reverse => if inverted then .forward else .reverse
  | x => x

/-- R1: an encoder error. -/
def countEncError (s : State) : State :=
  { s with web := { s.web with encErrors := satInc s.web.encErrors } }

/-- R1: the levels become the new reference state. -/
def setReference (a b : Bool) (s : State) : State :=
  { s with web := { s.web with encA := a, encB := b } }

/-- R1: the encoder pair changes to the levels `a`, `b`; levels that stand already are no change. -/
def encoderTransition (a b : Bool) (s : State) : State :=
  let s1 := setReference a b s
  match (encoderStep s.web.encA s.web.encB a b).sense s.items.web.inverted with
  | .same => s1
  | .forward => forwardCount s1
  | .reverse => reverseCount s1
  | .error => countEncError s1

/-- ENCODER_TRANSITION (R1, R2). -/
def execEncoderTransition (a b : Bool) (s : State) : Answer := .next (encoderTransition a b s)

/-! ## The speed gate (R3) -/

/-- R3: the speed index of a speed. -/
def speedIndex (scale : Nat) (v : Int) : Nat := min Config.speedMax (v.toNat / 2 ^ scale)

/-- R3: v from the gate tally. -/
def gateSpeed (tally : Int) : Int := clamp (-32768) 32767 tally

/-- R3: the web side at a gate end; the next gate begins at once. -/
def gateWeb (it : WebItems) (x : Web) : Web :=
  let v := gateSpeed x.tally
  { x with v := v, tally := 0, stopped := decide (v ≤ it.threshold),
           speed := speedIndex it.scale v, gateEnd := x.gateEnd + Config.gateTicks }

/-- R113: a gate end that carries "web has stopped" at the Job Sheet Store. -/
def gateEndStore (changed : Bool) (s : State) : State :=
  if changed && s.web.stopped then swapPending s else s

/-- R3: a gate end, handed to the sequencers and to the Job Sheet Store (log 12). -/
def gateEnd (s : State) : State :=
  let s1 := s.reachTime s.web.gateEnd
  let s2 := { s1 with web := gateWeb s1.items.web s1.web }
  let changed := s2.web.stopped != s.web.stopped
  gateEndStore changed (gateEndSeqs changed s2)

/-- SPEED_GATE_END (R3). -/
def execSpeedGateEnd (s : State) : Answer := .next (gateEnd s)

/-! ## The index (R10, R11) -/

/-- R11: an arrival that only counts. -/
def countArrival (c : Cyl) (s : State) : State :=
  let p := s.phase.get c
  s.setPhase c { p with arrivals := satInc p.arrivals }

/-- R10: whether an arrival raises INDEX_DEVIATION. -/
def deviates (tol : Nat) (d : Int) : Bool := tol * 256 < d.natAbs

/-- R10: an arrival taken against the active sheet. -/
def takeIndex (p : SheetParams) (c : Cyl) (s : State) : State :=
  let o := indexStep p.lSub (p.throw c) (s.phase.get c)
  raiseIf (deviates (s.items.index.get c).tol o.phase.lastDev)
    ⟨.indexDeviation, .cyl c, none, o.phase.lastDev⟩ (handStep c o (s.setPhase c o.phase))

/-- R10, R11: an index arrival. -/
def indexArrival (c : Cyl) (s : State) : State :=
  match s.active?, (s.items.index.get c).source, s.web.dir with
  | some p, .index, .forward => takeIndex p c s
  | _, _, _ => countArrival c s

/-- INDEX_ARRIVAL (R10, R11). -/
def execIndexArrival (c : Cyl) (s : State) : Answer := .next (indexArrival c s)

end Sys2Proof.Machine
end

