-- ==== Sys2Proof/Machine/Dispatch.lean ====
section
/-! DEFINITION. The meaning of each command: one arm per constructor of Instr. -/

namespace Sys2Proof.Machine

def exec (i : Instr) (s : State) : Host.Outcome State Fault Refusal :=
  match i with
  | .encoderTransition a b => Sys2Proof.Machine.execEncoderTransition a b s
  | .speedGateEnd => Sys2Proof.Machine.execSpeedGateEnd s
  | .indexArrival c => Sys2Proof.Machine.execIndexArrival c s
  | .markLeadingEdge x => Sys2Proof.Machine.execMarkLeadingEdge x s
  | .markTrailingEdge x => Sys2Proof.Machine.execMarkTrailingEdge x s
  | .spaceEnd c => Sys2Proof.Machine.execSpaceEnd c s
  | .stepTimeEnd c => Sys2Proof.Machine.execStepTimeEnd c s
  | .confirmRise c => Sys2Proof.Machine.execConfirmRise c s
  | .confirmFall c => Sys2Proof.Machine.execConfirmFall c s
  | .engageTimerExpiry c => Sys2Proof.Machine.execEngageTimerExpiry c s
  | .releaseTimerExpiry c => Sys2Proof.Machine.execReleaseTimerExpiry c s
  | .stopDwellExpiry => Sys2Proof.Machine.execStopDwellExpiry s
  | .motionPulse l => Sys2Proof.Machine.execMotionPulse l s
  | .checkTimerExpiry l => Sys2Proof.Machine.execCheckTimerExpiry l s
  | .idleGap => Sys2Proof.Machine.execIdleGap s
  | .frameReceived dest kind body check => Sys2Proof.Machine.execFrameReceived dest kind body check s
  | .frameCutOff cause => Sys2Proof.Machine.execFrameCutOff cause s
  | .overlap => Sys2Proof.Machine.execOverlap s
  | .replyWaitEnd => Sys2Proof.Machine.execReplyWaitEnd s
  | .replyEnd adr bdr => Sys2Proof.Machine.execReplyEnd adr bdr s
  | .resetInput p => Sys2Proof.Machine.execResetInput p s
  | .powerOn p => Sys2Proof.Machine.execPowerOn p s
  | .statusRead => Sys2Proof.Machine.execStatusRead s
  | .configWrite item value => Sys2Proof.Machine.execConfigWrite item value s
  | .webTimingConfigWrite it value => Sys2Proof.Machine.execWebTimingConfigWrite it value s
  | .indexConfigWrite it c value => Sys2Proof.Machine.execIndexConfigWrite it c value s
  | .markConfigWrite it value => Sys2Proof.Machine.execMarkConfigWrite it value s
  | .geometryWrite it value => Sys2Proof.Machine.execGeometryWrite it value s
  | .rejectMaskWrite value => Sys2Proof.Machine.execRejectMaskWrite value s
  | .loopConfigWrite it c value => Sys2Proof.Machine.execLoopConfigWrite it c value s
  | .trimIntervalWrite value => Sys2Proof.Machine.execTrimIntervalWrite value s
  | .actuationConfigWrite it value => Sys2Proof.Machine.execActuationConfigWrite it value s
  | .driveMappingWrite l value => Sys2Proof.Machine.execDriveMappingWrite l value s
  | .laneConfigWrite it l value => Sys2Proof.Machine.execLaneConfigWrite it l value s
  | .freezeOnFirstWrite value => Sys2Proof.Machine.execFreezeOnFirstWrite value s
  | .alarmMaskWrite value => Sys2Proof.Machine.execAlarmMaskWrite value s
  | .configRead item => Sys2Proof.Machine.execConfigRead item s
  | .curveWrite lane anchors => Sys2Proof.Machine.execCurveWrite lane anchors s
  | .curveRead lane => Sys2Proof.Machine.execCurveRead lane s
  | .sheetParamWrite lSub tF tE throwF throwE use ref => Sys2Proof.Machine.execSheetParamWrite lSub tF tE throwF throwE use ref s
  | .windowWrite start entries => Sys2Proof.Machine.execWindowWrite start entries s
  | .windowRead table start count => Sys2Proof.Machine.execWindowRead table start count s
  | .windowEdit laneC tagC enabledC mask newLane newTag newEnabled shift => Sys2Proof.Machine.execWindowEdit laneC tagC enabledC mask newLane newTag newEnabled shift s
  | .sheetCopyBack => Sys2Proof.Machine.execSheetCopyBack s
  | .sheetClear => Sys2Proof.Machine.execSheetClear s
  | .commit broadcast => Sys2Proof.Machine.execCommit broadcast s
  | .sheetParamRead sheet => Sys2Proof.Machine.execSheetParamRead sheet s
  | .engage cyl => Sys2Proof.Machine.execEngage cyl s
  | .disengage set broadcast => Sys2Proof.Machine.execDisengage set broadcast s
  | .loopMode cyl mode => Sys2Proof.Machine.execLoopMode cyl mode s
  | .nudge cyl delta => Sys2Proof.Machine.execNudge cyl delta s
  | .trimMove cyl move => Sys2Proof.Machine.execTrimMove cyl move s
  | .trimZero cyl => Sys2Proof.Machine.execTrimZero cyl s
  | .loopRead cyl => Sys2Proof.Machine.execLoopRead cyl s
  | .lanePark lane => Sys2Proof.Machine.execLanePark lane s
  | .laneRelease lane => Sys2Proof.Machine.execLaneRelease lane s
  | .rollLoad lane steps => Sys2Proof.Machine.execRollLoad lane steps s
  | .laneCheck lane => Sys2Proof.Machine.execLaneCheck lane s
  | .laneRead lane => Sys2Proof.Machine.execLaneRead lane s
  | .trackRead selector serial count => Sys2Proof.Machine.execTrackRead selector serial count s
  | .trackFlush => Sys2Proof.Machine.execTrackFlush s
  | .faultRead => Sys2Proof.Machine.execFaultRead s
  | .faultClear codes option => Sys2Proof.Machine.execFaultClear codes option s
  | .countersRead => Sys2Proof.Machine.execCountersRead s
  | .countersClear => Sys2Proof.Machine.execCountersClear s
  | .restart level => Sys2Proof.Machine.execRestart level s
  | .characterReceived data parity stop => Sys2Proof.Machine.execCharacterReceived data parity stop s

end Sys2Proof.Machine
end

