-- ==== Sys2Proof/Machine/FrameCode.lean ====
section
/-! DEFINITION. The frames that carry the requests: kind and body of each request row, as chapter 10 codes
them (R175 to R187). -/

namespace Sys2Proof.Machine

/-- R175: the byte of a cylinder field. -/
def cylByte (c : Cyl) : Byte := BitVec.ofNat 8 (Cyl.code c)

/-- R175: the byte of a lane field. -/
def laneByte (l : Lane) : Byte := BitVec.ofNat 8 (Lane.code l)

/-- R175: the byte of a loop mode field. -/
def modeByte (m : LoopMode) : Byte := BitVec.ofNat 8 (LoopMode.code m)

/-- R179: the byte of an item number. -/
def itemByte (i : Item) : Byte := BitVec.ofNat 8 (itemNumber i)

/-- R179: the row that writes an item. -/
def writeRow (i : Item) (v : BitVec 32) : Instr :=
  match i with
  | .web i => .webTimingConfigWrite i v
  | .index i c => .indexConfigWrite i c v
  | .mark i => .markConfigWrite i v
  | .geo i => .geometryWrite i v
  | .rejectMask => .rejectMaskWrite v
  | .loop i c => .loopConfigWrite i c v
  | .trimInterval => .trimIntervalWrite v
  | .act i => .actuationConfigWrite i v
  | .mapping l => .driveMappingWrite l v
  | .lane i l => .laneConfigWrite i l v
  | .freezeOnFirst => .freezeOnFirstWrite v
  | .alarmMask => .alarmMaskWrite v

/-- R181: a window entry as seven bytes. -/
def windowBytes (w : WindowBytes) : List Byte :=
  [w.lane] ++ natBytes 2 w.start.toNat ++ natBytes 2 w.length.toNat ++ [w.tag, w.enabled]

/-- R179: the body of a CONFIG WRITE. -/
def writeBody (item : Byte) (v : BitVec 32) : List Byte := [item] ++ natBytes 4 v.toNat

/-- R177: whether a request row is a broadcast, its kind, and its body; none for an event. -/
def requestFrame : Instr → Option (Bool × Byte × List Byte)
  | .statusRead => some (false, 0x01, [])
  | .configWrite item v => some (false, 0x02, writeBody item v)
  | .webTimingConfigWrite i v => some (false, 0x02, writeBody (itemByte (.web i)) v)
  | .indexConfigWrite i c v => some (false, 0x02, writeBody (itemByte (.index i c)) v)
  | .markConfigWrite i v => some (false, 0x02, writeBody (itemByte (.mark i)) v)
  | .geometryWrite i v => some (false, 0x02, writeBody (itemByte (.geo i)) v)
  | .rejectMaskWrite v => some (false, 0x02, writeBody (itemByte .rejectMask) v)
  | .loopConfigWrite i c v => some (false, 0x02, writeBody (itemByte (.loop i c)) v)
  | .trimIntervalWrite v => some (false, 0x02, writeBody (itemByte .trimInterval) v)
  | .actuationConfigWrite i v => some (false, 0x02, writeBody (itemByte (.act i)) v)
  | .driveMappingWrite l v => some (false, 0x02, writeBody (itemByte (.mapping l)) v)
  | .laneConfigWrite i l v => some (false, 0x02, writeBody (itemByte (.lane i l)) v)
  | .freezeOnFirstWrite v => some (false, 0x02, writeBody (itemByte .freezeOnFirst) v)
  | .alarmMaskWrite v => some (false, 0x02, writeBody (itemByte .alarmMask) v)
  | .configRead item => some (false, 0x03, [item])
  | .curveWrite lane as => some (false, 0x04, [lane] ++ as.flatMap (fun a => natBytes 2 a.toNat))
  | .curveRead lane => some (false, 0x05, [lane])
  | .sheetParamWrite l f e tf te use ref =>
    some (false, 0x10, natBytes 3 l.toNat ++ natBytes 3 f.toNat ++ natBytes 3 e.toNat ++
      natBytes 2 tf.toNat ++ natBytes 2 te.toNat ++ [use, ref])
  | .windowWrite start es => some (false, 0x11, [start] ++ es.flatMap windowBytes)
  | .windowRead t i n => some (false, 0x12, [t, i, n])
  | .windowEdit lc tc ec m nl nt ne d =>
    some (false, 0x13, [lc, tc, ec, m, nl, nt, ne] ++ natBytes 2 d.toNat)
  | .sheetCopyBack => some (false, 0x14, [])
  | .sheetClear => some (false, 0x15, [])
  | .commit b => some (b, 0x16, [])
  | .sheetParamRead x => some (false, 0x17, [x])
  | .engage c => some (false, 0x20, [c])
  | .disengage c b => some (b, 0x21, [c])
  | .loopMode c m => some (false, 0x22, [c, m])
  | .nudge c d => some (false, 0x23, [c] ++ natBytes 2 d.toNat)
  | .trimMove c d => some (false, 0x24, [c] ++ natBytes 2 d.toNat)
  | .trimZero c => some (false, 0x25, [c])
  | .loopRead c => some (false, 0x26, [c])
  | .lanePark l => some (false, 0x30, [l])
  | .laneRelease l => some (false, 0x31, [l])
  | .rollLoad l n => some (false, 0x32, [l] ++ natBytes 4 n.toNat)
  | .laneCheck l => some (false, 0x33, [l])
  | .laneRead l => some (false, 0x34, [l])
  | .trackRead x n k => some (false, 0x40, [x] ++ natBytes 2 n.toNat ++ [k])
  | .trackFlush => some (false, 0x41, [])
  | .faultRead => some (false, 0x50, [])
  | .faultClear cs o => some (false, 0x51, natBytes 2 cs.toNat ++ [o])
  | .countersRead => some (false, 0x52, [])
  | .countersClear => some (false, 0x53, [])
  | .restart l => some (false, 0x60, [l])
  | .encoderTransition _ _ | .speedGateEnd | .indexArrival _ | .markLeadingEdge _
  | .markTrailingEdge _ | .spaceEnd _ | .stepTimeEnd _ | .confirmRise _ | .confirmFall _
  | .engageTimerExpiry _ | .releaseTimerExpiry _ | .stopDwellExpiry | .motionPulse _
  | .checkTimerExpiry _ | .idleGap | .frameReceived _ _ _ _ | .frameCutOff _ | .overlap
  | .replyWaitEnd | .replyEnd _ _ | .resetInput _ | .powerOn _ | .characterReceived _ _ _ => none

/-- R165: the destination of a frame to a station or of a broadcast. -/
def destOf (own : BitVec 5) (broadcast : Bool) : Byte :=
  if broadcast then Config.broadcastDest else own.setWidth 8

/-- R167: the CHECK of a frame: the sum of its bytes from DEST to the last body byte. -/
def frameCheck (dest kind : Byte) (body : List Byte) : BitVec 16 :=
  byteSum ([dest, BitVec.ofNat 8 body.length, kind] ++ body)

end Sys2Proof.Machine
end

