-- ==== Sys2Proof/Safety.lean ====
section
/-! DEFINITION. What counts as a sound state of the part: the invariants that the spec states or that
its rules imply, and the terms the statements use for requests and their answers. -/

namespace Sys2Proof.Safety

open Sys2Proof.Machine

/-! ## Requests and their answers -/

/-- A request frame to this station is received and answered: no reply is due and the station has an
address (R162, R172). -/
def Ready (s : State) : Prop :=
  s.link.txen = false ∧ s.link.replyPending = false ∧ s.link.own ≠ 0

/-- A broadcast frame is received (R170, R172). -/
def Listening (s : State) : Prop := s.link.txen = false ∧ s.link.replyPending = false

/-- The Link Port after a whole frame, led by its idle gap: the buffer empty, the receiver in
WAIT_IDLE, the frame counted good, and a frame that the gap found half received counted cut off (R163,
R167, R168). -/
def afterFrame (l : Link) : Link :=
  { l with
    rx := .waitIdle, cls := .addressed, dest := 0, len := 0, kind := 0, body := [], sum := 0,
    checkHi := none, quiet := -500000, rxBusy := false, good := min (l.good + 1) 65535,
    charErrors := if RxState.inFrame l.rx then min (l.charErrors + 1) 65535 else l.charErrors }

/-- The Link Port after a request to this station is answered: reply pending, overlap seen clear, 22 bit
times of reply wait from the end of the frame, and the reply image (R169, R171). -/
def afterRequest (kind : Nat) (r : Reply) (l : Link) : Link :=
  { afterFrame l with
    image := replyImage l.own kind r, replyPending := true, overlapSeen := false,
    waitLeft := 22500000 }

/-- A state with the request of a kind answered, and nothing else changed. -/
def answered (kind : Nat) (r : Reply) (s : State) : State :=
  { s with link := afterRequest kind r s.link }

/-- A state with a broadcast frame taken, and nothing else changed. -/
def heard (s : State) : State := { s with link := afterFrame s.link }

/-- The station hears an idle gap and then the bytes, each as one character of even parity with its stop
bit (R163, R164). -/
def hears (bytes : List Byte) (s : State) : Host.Outcome State Fault Refusal :=
  bytes.foldl (fun o b => match o with
    | .next t => exec (.characterReceived (.byte b) (evenParity b) true) t
    | stop => stop) (exec .idleGap s)

/-! ## Reply bodies -/

/-- R175: the unsigned number in `n` bytes of a body from an offset on, high byte first. -/
def field (body : List Byte) (offset n : Nat) : Nat :=
  ((body.drop offset).take n).foldl (fun v b => 256 * v + b.toNat) 0

/-- R188: a body holds values in fields, each given by its offset, its bytes and its value; a negative value
is held in two's complement (R175). -/
def Holds (body : List Byte) (fields : List (Nat × Nat × Int)) : Prop :=
  ∀ f ∈ fields, (field body f.1 f.2.1 : Int) = f.2.2 % 256 ^ f.2.1

/-- R175: a byte of flags, bit 0 first. -/
def flagByte (bits : List Bool) : Int := bits.foldr (fun b v => 2 * v + b.toNat) 0

/-! ## Web position and phase (chapter 1) -/

/-- R3: v is in its field, the speed index is at most 63, and with v at or below 0 the web is stopped
with speed index 0. -/
def SpeedSound (s : State) : Prop :=
  -32768 ≤ s.web.v ∧ s.web.v ≤ 32767 ∧ s.web.speed ≤ 63 ∧
  (s.web.v ≤ 0 → s.web.stopped = true ∧ s.web.speed = 0)

/-- R106 check 1: the repeat length of a committed sheet. -/
def lengthSound (sh : Sheet) : Prop := 512000 ≤ sh.params.lSub ∧ sh.params.lSub ≤ 16777215

/-- R5, R6: every phase lies in [0, L_sub); with no sheet active φ and H are 0. The sheets held have a
committed repeat length. -/
def PhaseSound (s : State) : Prop :=
  (∀ sh, s.sheets.active = some sh → lengthSound sh ∧
    ∀ c, (s.phase.get c).phi < sh.params.lSub) ∧
  (∀ sh, s.sheets.pending = some sh → lengthSound sh) ∧
  (s.sheets.active = none → ∀ c, (s.phase.get c).phi = 0 ∧ (s.phase.get c).hold = 0)

/-- R8, R12, R13: the miss count is at most the miss limit, H is in its range, and a miss window is open
only in source INDEX while the index is not lost. -/
def MissSound (s : State) : Prop :=
  ∀ c, (s.phase.get c).missCount ≤ (s.items.index.get c).limit ∧
    (s.phase.get c).hold ≤ 33554431 ∧
    ((s.phase.get c).missOpen = true →
      (s.items.index.get c).source = .index ∧ (s.phase.get c).indexLost = false)

/-! ## What a forward step does (R6, R8, R9, R12, R13, R113, R114) -/

/-- R6: φ after a forward step. -/
def phiAfter (sh : Sheet) (p : Phase) : Nat :=
  if p.phi + 256 < sh.params.lSub then p.phi + 256 else p.phi + 256 - sh.params.lSub

/-- R7: φ after a backward step. -/
def phiBefore (sh : Sheet) (p : Phase) : Nat :=
  if p.phi < 256 then p.phi + sh.params.lSub - 256 else p.phi - 256

/-- R6: H after a forward step that fires no boundary. -/
def holdAfter (p : Phase) : Nat := min (p.hold + 256) 33554431

/-- R6, R8: a forward step crosses the revolution with H at half a repeat: a boundary. -/
def crosses (sh : Sheet) (p : Phase) : Bool :=
  decide (sh.params.lSub ≤ p.phi + 256) && decide (sh.params.lSub / 2 ≤ holdAfter p)

/-- R9: a forward step fires the throw-phase event. -/
def fires (sh : Sheet) (c : Cyl) (p : Phase) : Bool :=
  (p.armed || crosses sh p) && decide (phiAfter sh p / 256 = sh.params.throw c)

/-- R8: whether the miss window is open as a forward step tests it. -/
def windowOpen (sh : Sheet) (it : IndexItems) (p : Phase) : Bool :=
  p.missOpen || (crosses sh p && it.source == .index && !p.indexLost)

/-- R12: a forward step brings φ to the miss point in an open window. -/
def misses (sh : Sheet) (it : IndexItems) (p : Phase) : Bool :=
  let point := min (it.gate * 256) (sh.params.lSub / 2)
  windowOpen sh it p && decide (p.phi < point) && decide (point ≤ phiAfter sh p)

/-- R12: the miss is counted. -/
def counts (sh : Sheet) (it : IndexItems) (p : Phase) : Bool :=
  misses sh it p && decide (p.missCount < it.limit)

/-- R13: the counted miss is the last. -/
def loses (sh : Sheet) (it : IndexItems) (p : Phase) : Bool :=
  counts sh it p && decide (p.missCount + 1 = it.limit)

/-- R6, R8, R9, R12, R13: a cylinder's phase generator after a forward step. -/
def phaseAfter (sh : Sheet) (it : IndexItems) (c : Cyl) (p : Phase) : Phase :=
  { p with
    phi := phiAfter sh p, hold := if crosses sh p then 0 else holdAfter p,
    armed := (p.armed || crosses sh p) && !fires sh c p,
    missOpen := windowOpen sh it p && !misses sh it p,
    missCount := p.missCount + (counts sh it p).toNat,
    indexLost := p.indexLost || loses sh it p }

/-- A sequencer is in WAIT_PHASE, ENGAGING or ON: a throw-off acts on it (R88). -/
def thrownOn (s : State) (c : Cyl) : Prop :=
  (s.seq.get c).state = .waitPhase ∨ (s.seq.get c).state = .engaging ∨ (s.seq.get c).state = .on

/-- R84, R85: the sequencer of a cylinder that a throw-phase event finds in WAIT_PHASE. -/
def thrown (s : State) (c : Cyl) : Sequencer :=
  if s.inputs.cnf.get c then
    { s.seq.get c with state := .on, imp := true, engage := none, release := none }
  else
    { s.seq.get c with state := .engaging, imp := true, release := none,
                       engage := some (s.now + 1000 * s.items.act.engage.get c) }

/-- R93: a new sheet lets a cylinder stay thrown on: it uses the cylinder, and for F no lane with a base
span in it is FAULTED. -/
def keepsThrown (sh : Sheet) (s : State) (c : Cyl) : Prop :=
  sh.params.uses c = true ∧ (c = .f → ∀ l, (s.lane.get l).state = .faulted → sh.spans.get l = [])

/-- R82, R88: the sequencer `q` of a cylinder after a throw-off with a cause. -/
def givenUp (cause : ThrowCause) (s : State) (c : Cyl) (q : Sequencer) : Sequencer :=
  let releases := q.state != .waitPhase && s.inputs.cnf.get c
  if q.state = .off ∨ q.state = .releasing then q
  else { q with
    state := if releases then .releasing else .off, imp := false, engage := none, cause := cause,
    release := if releases then some (s.now + 1000 * s.items.act.release.get c) else none }

/-- R82, R88, R92, R93, R121, R123, R124, R136: `u` is `s` after a swap to `new`, as the sequencers and the
lanes take it, where `fired` says whether R15 fires the throw-phase event of a cylinder. The event comes
before the throw-off (log 41). A cylinder that the sheet does not use gives up its throw with cause SHEET; F
gives it up with cause FAULT where it is used and a FAULTED lane has a base span in the sheet; either ends
F's stop dwell and resume-pending, and F leaving ON cuts the runs. Every lane then builds its run list anew
and counts the ends it clamped. -/
def SwapTaken (new : Sheet) (fired : Cyl → Bool) (s u : State) : Prop :=
  let q := fun c => if fired c = true ∧ (s.seq.get c).state = .waitPhase then thrown s c else s.seq.get c
  let relisted := fun l (x : LaneCtl) =>
    let built := buildRuns (new.spans.get l) (x.leads.getD s.web.speed 0) (s.items.lane.get l).runOut
      (s.items.lane.get l).minDwell (new.params.lSub / 256)
    { x with runList := built.1, clipped := min (x.clipped + built.2) 65535 }
  (∀ c, keepsThrown new s c → u.seq.get c = q c) ∧
  (∀ c, ¬ keepsThrown new s c →
    u.seq.get c = givenUp (if new.params.uses c then .fault else .sheet) s c (q c)) ∧
  (keepsThrown new s .f → u.resume = s.resume ∧ u.stopDwell = s.stopDwell) ∧
  (¬ keepsThrown new s .f → u.resume = false ∧ (thrownOn s .f → u.stopDwell = none) ∧
    (¬ thrownOn s .f → u.stopDwell = s.stopDwell)) ∧
  (keepsThrown new s .f ∨ (q .f).state ≠ .on → ∀ l, u.lane.get l = relisted l (s.lane.get l)) ∧
  (¬ keepsThrown new s .f → (q .f).state = .on → ∀ l, u.lane.get l = relisted l
    (if (s.lane.get l).state = .run then endRun (s.lane.get l) else s.lane.get l))

/-- R123, R125, R138: the lanes after a boundary of F, with `sh` the sheet active after it: each has copied
its tally, rebuilt its run list and moved its park timer, raising PARK_EXPIRED at the timeout. -/
def LanesAtBoundary (sh : Sheet) (s t : State) : Prop :=
  ∀ l, (t.lane.get l).lastRev = (s.lane.get l).tally ∧ (t.lane.get l).tally = 0 ∧
    (t.lane.get l).runList = (buildRuns (sh.spans.get l) ((s.lane.get l).leads.getD s.web.speed 0)
      (s.items.lane.get l).runOut (s.items.lane.get l).minDwell (sh.params.lSub / 256)).1 ∧
    ((s.lane.get l).state = .parked ∨ (s.lane.get l).state = .check →
      let n := min ((s.lane.get l).parkTimer + 1) 250
      (t.lane.get l).state = (s.lane.get l).state ∧ (t.lane.get l).parkTimer = n ∧
      ((t.lane.get l).parkExpired = true ↔
        (s.lane.get l).parkExpired = true ∨ (s.items.lane.get l).parkTimeout ≤ n) ∧
      ((s.lane.get l).parkExpired = false → (s.items.lane.get l).parkTimeout ≤ n →
        s.items.freeze = false → t.faults.flags.getLsbD 9 = true))

/-- R8, R73, R93, R113, R114, R123, R125, R138: `t` is `s` after a boundary of F that brings the pending sheet
`p`, of the active sheet's L_sub, into force in place of `a`: the nudge of a loop whose target it changes
goes to 0, a sequencer whose cylinder it does not use throws off with cause SHEET, a FAULTED lane with a base
span in it throws F off, and the lanes take the boundary with it. -/
def Swapped (a p : Sheet) (s t : State) : Prop :=
  t.sheets = { s.sheets with active := some p, pending := none } ∧
  (∀ c, t.loop.get c = { s.loop.get c with
    nudge := if a.params.target c = p.params.target c then (s.loop.get c).nudge else 0 }) ∧
  (∀ c, p.params.uses c = false → thrownOn s c →
    (t.seq.get c).cause = .sheet ∧ (t.seq.get c).imp = false ∧
    (t.seq.get c).state = (if (s.seq.get c).state ≠ .waitPhase ∧ s.inputs.cnf.get c = true
      then .releasing else .off)) ∧
  (∀ c, ¬ thrownOn s c → t.seq.get c = s.seq.get c) ∧
  (p.params.usesF = false → t.resume = false ∧ (thrownOn s .f → t.stopDwell = none)) ∧
  (keepsThrown p s .f → t.resume = s.resume ∧ t.stopDwell = s.stopDwell) ∧
  (p.params.usesF = true → ¬ keepsThrown p s .f → t.resume = false ∧
    (thrownOn s .f → t.seq.f.cause = .fault ∧ t.seq.f.imp = false ∧ t.stopDwell = none)) ∧
  LanesAtBoundary p s t

/-- `t` is `s` after a forward step of the cylinders in `on`, handed on to every block that takes its boundary
and its throw-phase event. With no sheet active nothing moves (R5). With one, and with a pending sheet, if
there is one, of its L_sub (R107), each phase steps; a boundary of F swaps the pending sheet in, or with none
is taken by the lanes; a sequencer in WAIT_PHASE that its throw-phase event finds there goes on; and the last
miss raises INDEX_LOST. -/
def StepsForward (on : Cyl → Bool) (s t : State) : Prop :=
  (s.sheets.active = none → t = s) ∧
  ∀ a, s.sheets.active = some a → (∀ p, s.sheets.pending = some p → p.params.lSub = a.params.lSub) →
    let bound := on .f && crosses a s.phase.f
    (∀ c, t.phase.get c =
      if on c then phaseAfter a (s.items.index.get c) c (s.phase.get c) else s.phase.get c) ∧
    (∀ p, s.sheets.pending = some p → bound = true → Swapped a p s t) ∧
    (s.sheets.pending = none ∨ bound = false → t.sheets = s.sheets ∧ t.loop = s.loop ∧
      t.resume = s.resume ∧ t.stopDwell = s.stopDwell) ∧
    (s.sheets.pending = none → bound = true → LanesAtBoundary a s t) ∧
    (bound = false → t.lane = s.lane) ∧
    (∀ c, (∀ p, s.sheets.pending = some p → bound = true → keepsThrown p s c) →
      t.seq.get c = if (s.seq.get c).state = .waitPhase ∧ on c = true ∧
        fires a c (s.phase.get c) = true then thrown s c else s.seq.get c) ∧
    (∀ c, on c = true → loses a (s.items.index.get c) (s.phase.get c) = true →
      s.items.freeze = false → t.faults.flags.getLsbD 6 = true) ∧
    { t with phase := s.phase, sheets := s.sheets, loop := s.loop, seq := s.seq,
             stopDwell := s.stopDwell, resume := s.resume, lane := s.lane, faults := s.faults } = s

/-- R2: a count is published: both phases as they stand after it. -/
def counted (s : State) : State :=
  { s with phase := ⟨{ s.phase.f with pub := s.phase.f.phi }, { s.phase.e with pub := s.phase.e.phi }⟩ }

/-! ## Marks and track (chapters 2 and 3) -/

/-- R36, R37: a new record placed as the newest, with the next serial; with 64 records in the track the oldest
is dropped first, its cursors moving to the next, and the overflow counter rises. -/
def withRecord (o : Origin) (r : Pos) (width : Option Nat) (t : Track) : Track :=
  let rest := t.records.tail
  let t1 := if t.records.length < 64 then t else
    { t with records := rest, nip := t.nip - 1, gate := t.gate - 1, emboss := t.emboss - 1,
             marker := t.marker - 1, gateHeld := t.gateHeld && t.gate != 0,
             rej := rest.any (·.verdict == .reject), overflow := min (t.overflow + 1) 65535 }
  { t1 with records := t1.records ++ [newRecord t.nextSerial o r width],
            nextSerial := t.nextSerial + 1 }

/-- R25, R26, R27: the tracker coasts: a PREDICTED record at E_sub rounded, E_sub a repeat on, and outside LOST
the coast count one up, at the limit with MARK_LOST into LOST. -/
def coasted (sh : Sheet) (s : State) : State :=
  let e := s.tracker.eSub
  let n := s.tracker.coast + 1
  let next := e + BitVec.ofNat 40 sh.params.lSub
  let made := { s with track := withRecord .predicted (BitVec.ofNat 32 ((e + 128).toNat / 256)) none s.track }
  if s.tracker.state = .lost then { made with tracker := { s.tracker with eSub := next } }
  else if n < s.items.mark.coastLimit then
    { made with tracker := { s.tracker with state := .coast, coast := n, eSub := next } }
  else raise ⟨.markLost, .tracker, some s.track.nextSerial, n⟩
    { made with tracker := { s.tracker with state := .lost, coast := n, k := 0, eSub := next } }

/-- R21: the tracker is IDLE exactly while there is no active sheet or a distance is 0. R28: the track
is empty in IDLE and SEARCH. R25, R27: a coast decision waits only in LOCKED, COAST or LOST. -/
def TrackerSound (s : State) : Prop :=
  (s.tracker.state = .idle ↔
    s.sheets.active = none ∨ s.items.geo.dF = 0 ∨ s.items.geo.dFS = 0 ∨ s.items.geo.dE = 0 ∨
      s.items.geo.dR = 0) ∧
  (s.tracker.state = .idle ∨ s.tracker.state = .search →
    s.track.records = [] ∧ s.tracker.waiting = false)

/-- R25, R31: a waiting coast decision and a held gate-close event each wait for a measurement in
progress. -/
def WaitsSound (s : State) : Prop :=
  (s.tracker.waiting = true → s.qual.print.state = .measuring) ∧
  (s.track.gateHeld = true → s.qual.foil.state = .measuring)

/-- R36: at most 64 records; each cursor stands on a record or on none; a held gate-close event is that
of a record. -/
def TrackSound (s : State) : Prop :=
  s.track.records.length ≤ 64 ∧ s.track.nip ≤ s.track.records.length ∧
  s.track.gate ≤ s.track.records.length ∧ s.track.emboss ≤ s.track.records.length ∧
  s.track.marker ≤ s.track.records.length ∧
  (s.track.gateHeld = true → s.track.gate < s.track.records.length)

/-- R36: records in strictly increasing R, each with R ≤ W and W - R ≤ D_R + marker width. -/
def OrderSound (s : State) : Prop :=
  s.track.records.Pairwise (fun a b => 0 < (b.r - a.r).toInt) ∧
  ∀ r ∈ s.track.records, 0 ≤ (s.web.w - r.r).toInt ∧
    (s.web.w - r.r).toInt ≤ s.items.geo.dR + s.items.geo.markerWidth

/-- R36: what the print tracker owes the Label Track: a step creates no record, or one, placed as the
newest, with R above all those already held, at a W at or past its R and not past its removal point. -/
def CreatesInOrder (s t : State) : Prop :=
  t.track.nextSerial = s.track.nextSerial ∨
  (t.track.nextSerial = s.track.nextSerial + 1 ∧
    ∃ older r, t.track.records = older ++ [r] ∧ (∀ a ∈ older, 0 < (r.r - a.r).toInt) ∧
      0 ≤ (t.web.w - r.r).toInt ∧
      (t.web.w - r.r).toInt ≤ t.items.geo.dR + t.items.geo.markerWidth)

/-- R45: the reject output is on exactly while a record of the track has verdict REJECT. -/
def RejectSound (s : State) : Prop :=
  s.track.rej = true ↔ ∃ r, r ∈ s.track.records ∧ r.verdict = .reject

/-! ## Register control and actuation (chapters 4 and 5) -/

/-- R67: with R66, |A| and |N| are at most Amax. -/
def TrimSound (s : State) : Prop :=
  ∀ c, (s.loop.get c).a = (s.loop.get c).n + (s.loop.get c).p ∧
    (s.loop.get c).a.natAbs ≤ (s.items.loop.get c).amax ∧
    (s.loop.get c).n.natAbs ≤ (s.items.loop.get c).amax

/-- R78, R79: TSTP is high exactly in STEP; P is 0 in IDLE; in SPACE a pending trim has its direction
on TDIR. -/
def EmitterSound (s : State) : Prop :=
  ∀ c, ((s.emit.get c).tstp = true ↔ (s.emit.get c).state = .step) ∧
    ((s.emit.get c).state = .idle → (s.loop.get c).p = 0) ∧
    ((s.emit.get c).state = .space →
      (0 < (s.loop.get c).p → (s.emit.get c).tdir = .advance) ∧
      ((s.loop.get c).p < 0 → (s.emit.get c).tdir = .retard))

/-- R82: the impression output is on exactly in ENGAGING or ON. -/
def ImpressionSound (s : State) : Prop :=
  ∀ c, (s.seq.get c).imp = true ↔ (s.seq.get c).state = .engaging ∨ (s.seq.get c).state = .on

/-- R82 to R87: the engage timer runs exactly in ENGAGING and the release timer exactly in RELEASING;
CNF is inactive in ENGAGING and active in ON and RELEASING, but for an edge that still waits. -/
def SequencerSound (s : State) : Prop :=
  ∀ c, ((s.seq.get c).engage.isSome = true ↔ (s.seq.get c).state = .engaging) ∧
    ((s.seq.get c).release.isSome = true ↔ (s.seq.get c).state = .releasing) ∧
    ((s.seq.get c).state = .engaging →
      s.inputs.cnf.get c = false ∨ s.inputs.edge.get c = true) ∧
    ((s.seq.get c).state = .on ∨ (s.seq.get c).state = .releasing →
      s.inputs.cnf.get c = true ∨ s.inputs.edge.get c = true)

/-- R90, R91: the stop dwell timer runs only with F thrown on or on its way, throw-off on stop set and
the web stopped; resume-pending is set only with auto-resume set and F in OFF or RELEASING. -/
def DwellSound (s : State) : Prop :=
  (s.stopDwell.isSome = true →
    (s.seq.f.state = .waitPhase ∨ s.seq.f.state = .engaging ∨ s.seq.f.state = .on) ∧
      s.items.act.throwOff = true ∧ s.web.stopped = true) ∧
  (s.resume = true →
    (s.seq.f.state = .off ∨ s.seq.f.state = .releasing) ∧ s.items.act.autoResume = true)

/-! ## The job sheet (chapter 6) -/

/-- R108: base spans: at most 12, each within [0, Lc], sorted, and separated by at least one count. -/
def spansSound (lc : Nat) (spans : List Span) : Prop :=
  spans.length ≤ 12 ∧ (∀ b ∈ spans, b.start ≤ b.stop ∧ b.stop ≤ lc) ∧
  spans.Pairwise (fun a b => a.stop < b.start)

/-- R108: every span list of a compiled sheet. -/
def sheetSound (sh : Sheet) : Prop :=
  ∀ l, spansSound (sh.params.lSub / 256) (sh.spans.get l)

/-- R109: a pending sheet's generation is the one most recently assigned and differs from the active
one; no sheet has generation 0. R107, R113: it exists only with a sheet active, of the same L_sub, and
on a moving web. -/
def PendingSound (s : State) : Prop :=
  (∀ p, s.sheets.pending = some p → p.gen = s.sheets.lastGen ∧ s.web.stopped = false ∧
    ∃ a, s.sheets.active = some a ∧ a.gen ≠ p.gen ∧ a.params.lSub = p.params.lSub) ∧
  (∀ sh, s.sheets.active = some sh ∨ s.sheets.pending = some sh → 1 ≤ sh.gen ∧ sh.gen ≤ 65535)

/-- R32, R50: the constraints among the distances, the gates and the mark widths hold of the items in
force, those with Lc for the active sheet; a distance of 0 takes no part. -/
def GeometrySound (s : State) : Prop :=
  let g := s.items.geo
  let m := s.items.mark
  m.pwMin ≤ m.pwMax ∧ m.fwMin ≤ m.fwMax ∧ m.pwMax < m.gP ∧
  (g.dF ≠ 0 → m.gP + m.pwMax < g.dF ∧ (g.dFS ≠ 0 → g.dF < g.dFS) ∧ (g.dE ≠ 0 → g.dF < g.dE) ∧
    (g.dR ≠ 0 → g.dF < g.dR)) ∧
  (g.dFS ≠ 0 → g.dE ≠ 0 → g.dFS + m.gF + m.fwMax < g.dE) ∧
  (g.dFS ≠ 0 → g.dR ≠ 0 → g.dFS < g.dR) ∧ (g.dE ≠ 0 → g.dR ≠ 0 → g.dE < g.dR) ∧
  (∀ sh, s.sheets.active = some sh →
    (g.dR ≠ 0 → g.dR ≤ 31 * (sh.params.lSub / 256)) ∧ 4 * m.gP ≤ sh.params.lSub / 256 ∧
      4 * m.gF ≤ sh.params.lSub / 256)

/-! ## Foil lanes (chapter 7) -/

/-- R119 to R121, R137, R141: a lane is DISABLED exactly without a drive; it has a run in progress
exactly in RUN, a running check timer exactly in CHECK, and park pending only in RUN. -/
def LaneSound (s : State) : Prop :=
  ∀ l, ((s.lane.get l).state = .disabled ↔ (s.items.lane.get l).drive = none) ∧
    ((s.lane.get l).run.isSome = true ↔ (s.lane.get l).state = .run) ∧
    ((s.lane.get l).checkTimer.isSome = true ↔ (s.lane.get l).state = .check) ∧
    ((s.lane.get l).parkPending = true → (s.lane.get l).state = .run)

/-- R119, R120: no drive is mapped to two lanes, and FDIR is high exactly at a mapped drive. -/
def DriveSound (s : State) : Prop :=
  (∀ l m d, (s.items.lane.get l).drive = some d → (s.items.lane.get m).drive = some d → l = m) ∧
  (∀ d, (s.drives.get d).fdir = true ↔ ∃ l, (s.items.lane.get l).drive = some d)

/-- R122: the lead of a speed index, by the formula of the rule. -/
def leadFormula (anchors : List Nat) (i : Nat) : Int :=
  if i = 63 then anchors.getD 7 0
  else
    (anchors.getD (i / 9) 0 : Int) +
      (((anchors.getD (i / 9 + 1) 0 : Int) - anchors.getD (i / 9) 0) * ((i % 9 : Nat) : Int) + 4) / 9

/-- R122: the 64 leads are those of the anchors, each between the two anchors that bound it, and so in
0..4,095. -/
def LeadSound (s : State) : Prop :=
  ∀ l, (s.items.lane.get l).anchors.length = 8 ∧ (s.lane.get l).leads.length = 64 ∧
    (∀ a ∈ (s.items.lane.get l).anchors, a ≤ 4095) ∧
    ∀ i, i < 64 → ((s.lane.get l).leads.getD i 0 : Int) =
      leadFormula (s.items.lane.get l).anchors i ∧ (s.lane.get l).leads.getD i 0 ≤ 4095

/-- R124: a run list: at most 12 runs, each within [0, Lc], sorted by start, consecutive runs separated
by at least the min dwell. -/
def runsSound (lc minDwell : Nat) (runs : List Span) : Prop :=
  runs.length ≤ 12 ∧ (∀ r ∈ runs, r.start ≤ r.stop ∧ r.stop ≤ lc) ∧
  runs.Pairwise (fun a b => a.stop + minDwell ≤ b.start)

/-- R108, R124: the compiled sheets held are sound, and every lane's run list is sound against the
active sheet; with no sheet active it is empty. -/
def RunListSound (s : State) : Prop :=
  (∀ sh, s.sheets.active = some sh → sheetSound sh) ∧
  (∀ sh, s.sheets.pending = some sh → sheetSound sh) ∧
  (∀ sh l, s.sheets.active = some sh →
    runsSound (sh.params.lSub / 256) (s.items.lane.get l).minDwell (s.lane.get l).runList) ∧
  (s.sheets.active = none → ∀ l, (s.lane.get l).runList = [])

/-- R131, R132, R134, R135, R92: what it leaves that lane `l`, whose step has left it as `y`, broke its foil
or took its last step: FAULTED with its run, check and park ended, the flags of FOIL_BREAK, FOIL_LOW and
FOIL_OUT as they are due, and a throw-off order for F if the lane has a base span. -/
def LaneFaults (l : Lane) (broke low out : Bool) (y : LaneCtl) (s t : State) : Prop :=
  t.lane.get l = { y with
    state := .faulted, run := none, acc := 0, parkPending := false, parkTimer := 0,
    parkExpired := false, checkTimer := none,
    check := if y.state = .check then { y.check with done := true, result := .fail } else y.check } ∧
  (s.items.freeze = false → t.faults.flags = s.faults.flags |||
    ((if broke then 0x001#12 else 0) ||| (if low then 0x800#12 else 0) |||
      (if out then 0x002#12 else 0))) ∧
  (s.spans l = [] → t.seq = s.seq ∧ t.resume = s.resume ∧ t.stopDwell = s.stopDwell ∧
    ∀ m, m ≠ l → t.lane.get m = s.lane.get m) ∧
  (s.spans l ≠ [] → t.resume = false ∧ t.seq.e = s.seq.e ∧
    (s.seq.f.state = .off ∨ s.seq.f.state = .releasing → t.seq.f = s.seq.f) ∧
    (s.seq.f.state = .waitPhase ∨ s.seq.f.state = .engaging ∨ s.seq.f.state = .on →
      t.seq.f.cause = .fault ∧ t.seq.f.imp = false ∧ t.stopDwell = none)) ∧
  { t with lane := s.lane, faults := s.faults, seq := s.seq, stopDwell := s.stopDwell,
           resume := s.resume } = s

/-! ## Faults and the link (chapters 8 and 9) -/

/-- R153: ALM is asserted exactly while a set flag names a code of the alarm mask. -/
def AlarmSound (s : State) : Prop :=
  s.faults.alm = true ↔
    ∃ c : FaultCode, s.faults.flags.getLsbD (FaultCode.number c - 1) = true ∧
      s.items.alarmMask.getLsbD (FaultCode.number c - 1) = true

/-- R163, R168, R172, R174: the receiver is in WAIT_IDLE while a reply is pending and never rests in
DISCARD; TXEN is asserted, and a RESTART waits, only while a reply is pending; RXD is not sampled, and
so never marked as fallen, while TXEN is asserted. -/
def LinkSound (s : State) : Prop :=
  (s.link.replyPending = true → s.link.rx = .waitIdle) ∧ s.link.rx ≠ .discard ∧
  (s.link.txen = true → s.link.replyPending = true) ∧
  (s.link.restart.isSome = true → s.link.replyPending = true) ∧
  (s.link.txen = true → s.link.rxBusy = false)

/-- R166: the frame buffer in each receiver state: no body byte before BODY, fewer than LEN in BODY,
LEN of them in CHECK, and LEN at most 250. -/
def BufferSound (s : State) : Prop :=
  s.link.len ≤ 250 ∧
  (s.link.rx = .dest ∨ s.link.rx = .len ∨ s.link.rx = .kind → s.link.body = []) ∧
  (s.link.rx = .body → s.link.body.length < s.link.len) ∧
  (s.link.rx = .check → s.link.body.length = s.link.len)

/-- R1, R11, R20, R24, R30, R37, R44, R143, R174: every counter of COUNTERS READ is at most 65,535. -/
def CounterSound (s : State) : Prop :=
  s.web.encErrors ≤ 65535 ∧ (∀ c, (s.phase.get c).arrivals ≤ 65535) ∧
  (∀ x, (s.qual.get x).rejects ≤ 65535 ∧ (s.qual.get x).strays ≤ 65535) ∧
  s.track.good ≤ 65535 ∧ s.track.bad ≤ 65535 ∧ s.track.overflow ≤ 65535 ∧
  (∀ l, (s.lane.get l).clipped ≤ 65535) ∧
  s.link.good ≤ 65535 ∧ s.link.checkErrors ≤ 65535 ∧ s.link.charErrors ≤ 65535 ∧
  s.link.overlaps ≤ 65535 ∧ s.link.ignored ≤ 65535

/-! ## Configuration items (the item tables of chapters 1 to 8) -/

/-- The range of an item, and for the check steps that they are a multiple of 4 (R144). -/
def itemRange (i : Item) (v : Nat) : Prop :=
  match i with
  | .web .encoderDirection => v ≤ 1
  | .web .stopThreshold => v ≤ 255
  | .web .speedScale => v ≤ 10
  | .index .phaseSource _ => v ≤ 1
  | .index .indexGate _ => 1 ≤ v ∧ v ≤ 32767
  | .index .indexTolerance _ => v ≤ 32767
  | .index .missLimit _ => 1 ≤ v ∧ v ≤ 16
  | .mark .printWidthMin | .mark .printWidthMax => 1 ≤ v ∧ v ≤ 4095
  | .mark .printGate | .mark .foilGate => 1 ≤ v ∧ v ≤ 16383
  | .mark .acquireCount => 2 ≤ v ∧ v ≤ 8
  | .mark .coastLimit => 1 ≤ v ∧ v ≤ 32
  | .mark .foilWidthMin | .mark .foilWidthMax => 1 ≤ v ∧ v ≤ 4095
  | .geo .markerWidth => 1 ≤ v ∧ v ≤ 4095
  | .geo _ => v ≤ 2031585
  | .rejectMask => v ≤ 511
  | .loop .gain _ => 1 ≤ v ∧ v ≤ 16
  | .loop .deadband _ => v ≤ 4095
  | .loop .slewLimit _ => 1 ≤ v ∧ v ≤ 30000
  | .loop .tolerance _ => v ≤ 32767
  | .loop .amax _ => 1 ≤ v ∧ v ≤ 30000
  | .loop .runLength _ => 1 ≤ v ∧ v ≤ 255
  | .trimInterval => 5 ≤ v ∧ v ≤ 1000
  | .act (.engageTimeout _) | .act (.releaseTimeout _) => 1 ≤ v ∧ v ≤ 10000
  | .act .stopDwell => v ≤ 10000
  | .act .throwOffOnStop | .act .autoResume => v ≤ 1
  | .mapping _ => v ≤ 3 ∨ v = 255
  | .lane .ratio _ => 16384 ≤ v ∧ v ≤ 262144
  | .lane .runOut _ => v ≤ 4095
  | .lane .minDwell _ => v ≤ 32767
  | .lane .motionWindow _ => 16 ≤ v ∧ v ≤ 4096
  | .lane .lowThreshold _ => v ≤ 4294967295
  | .lane .parkTimeout _ => 1 ≤ v ∧ v ≤ 250
  | .lane .checkSteps _ => 4 ≤ v ∧ v ≤ 4096 ∧ v % 4 = 0
  | .lane .checkInterval _ => 50 ≤ v ∧ v ≤ 65535
  | .freezeOnFirst => v ≤ 1
  | .alarmMask => v ≤ 4095

/-- R4, R14, R32, R49, R51, R75, R81, R94, R120, R144, R154, R159: every item in force lies in its
range. -/
def ItemSound (s : State) : Prop := ∀ i, itemRange i (itemValue s.items i)

end Sys2Proof.Safety
end

