-- ==== Sys2Proof/WellFormed.lean ====
section
/-! DEFINITION. Which commands are well formed: the operands fit the frame that carries them. Values of
fields are not judged here, since the part itself answers BAD_VALUE for them (R176). -/

namespace Sys2Proof

/-- R177, R179 and 9.2: a frame's body has at most 250 bytes; the row CONFIG WRITE carries an item
number that no other row writes; CURVE WRITE carries eight anchors; WINDOW WRITE carries one to eight
entries. -/
def Instr.wellFormed : Instr → Bool
  | .frameReceived _ _ body _ => body.length ≤ Config.bodyMax
  | .configWrite item _ => (Machine.itemOfNumber item).isNone
  | .curveWrite _ anchors => anchors.length == 8
  | .windowWrite _ entries => 1 ≤ entries.length && entries.length ≤ 8
  | _ => true

end Sys2Proof
end

