-- ==== Sys2Proof/Certificates/Slice0/Obligations.lean ====
section
/-! DEFINITION. The statements about the part. Each docstring names the rules it rests on; a statement
that rests on a choice of the model says so and names the log entry. -/

open Sys2Proof Sys2Proof.Machine Sys2Proof.Safety

/-! ## Queue, frames and answers -/

/-- Host's queue rule: a step takes the command at the front and runs it on the state with the rest. -/
def Obligations.StepTakesFrontCommand : Prop :=
  ∀ (c : Instr) (rest : List Instr) (s : State), s.pending = c :: rest →
    step s = exec c { s with pending := rest }

/-- No rule of the spec stops the part: every command answers a next state, leaves the commands that
wait, and never turns the timebase back (logs 3, 31). -/
def Obligations.EveryCommandAnswersNext : Prop :=
  ∀ (c : Instr) (s : State), ∃ t, exec c s = .next t ∧ t.pending = s.pending ∧ s.now ≤ t.now

/-- The model's choice (log 2): a step on an empty queue is one microsecond. The timebase and the link
times move; every edge of a confirm input that still waits (log 35) and every timer that has reached its
instant puts its command in the queue, in the model's order; nothing else changes. The quiet time runs up
to the end of a character, and from there on rises only while RXD is at rest (R163; log 34). The SPACE of an
emitter ends at the later of its two instants (log 20), and REPLY_END carries the straps as they were read
(log 8). -/
def Obligations.EmptyQueueStepIsOneTick : Prop :=
  ∀ s : State, s.pending = [] → ∃ t, step s = .next t ∧ t.now = s.now + 1 ∧
    t.link = { s.link with
      quiet := if s.link.txen then s.link.quiet
               else if s.link.rxBusy then max s.link.quiet (min (s.link.quiet + s.link.baud) 0)
               else min (s.link.quiet + s.link.baud) 20000000,
      waitLeft := if s.link.replyPending && !s.link.txen then s.link.waitLeft - s.link.baud
                  else s.link.waitLeft,
      txLeft := if s.link.txen then s.link.txLeft - s.link.baud else s.link.txLeft } ∧
    t.pending = dueCommands s.link { s with now := t.now, link := t.link } ∧
    (∀ i : Instr, i ∈ t.pending ↔ match i with
      | .confirmRise x =>
        x.taken = true ∧ s.inputs.edge.get x.cyl = true ∧ s.inputs.cnf.get x.cyl = true
      | .confirmFall x =>
        x.taken = true ∧ s.inputs.edge.get x.cyl = true ∧ s.inputs.cnf.get x.cyl = false
      | .speedGateEnd => s.web.gateEnd ≤ s.now + 1
      | .stepTimeEnd c => (s.emit.get c).state = .step ∧
          (s.emit.get c).lastStep.getD 0 + (s.emit.get c).t / 2 ≤ s.now + 1
      | .spaceEnd c => (s.emit.get c).state = .space ∧
          (∀ k, (s.emit.get c).lastStep = some k → k + (s.emit.get c).t ≤ s.now + 1) ∧
          ∀ k, (s.emit.get c).lastTurn = some k →
            k + ((s.emit.get c).t - (s.emit.get c).t / 2) ≤ s.now + 1
      | .engageTimerExpiry c => ∃ due, (s.seq.get c).engage = some due ∧ due ≤ s.now + 1
      | .releaseTimerExpiry c => ∃ due, (s.seq.get c).release = some due ∧ due ≤ s.now + 1
      | .stopDwellExpiry => ∃ due, s.stopDwell = some due ∧ due ≤ s.now + 1
      | .checkTimerExpiry l => ∃ due, (s.lane.get l).checkTimer = some due ∧ due ≤ s.now + 1
      | .idleGap => s.link.quiet < 20000000 ∧ 20000000 ≤ t.link.quiet
      | .replyWaitEnd =>
        s.link.replyPending = true ∧ s.link.txen = false ∧ s.link.waitLeft ≤ s.link.baud
      | .replyEnd adr bdr => s.link.txen = true ∧ s.link.txLeft ≤ s.link.baud ∧
          adr = s.link.own ∧ bdr = (if s.link.baud = 115200 then 0 else
            if s.link.baud = 230400 then 1 else if s.link.baud = 460800 then 2 else 3)
      | _ => False) ∧
    { t with now := s.now, link := s.link, pending := [] } = s

/-- R164 to R170, R175 to R187: the bytes of a request's frame, heard as characters after an idle gap, do
what the request's row does, in every state of the part, and so does FRAME_RECEIVED with that frame: no
field of any request is dropped or misread between the wire and its owner. That a request row stands for
one such frame is the model's reading (log 5). -/
def Obligations.FrameSpellsItsRow : Prop :=
  ∀ (i : Instr) (b : Bool) (kind : Byte) (body : List Byte) (s : State), i.wellFormed = true →
    requestFrame i = some (b, kind, body) →
    let dest := destOf s.link.own b
    let check := frameCheck dest kind body
    hears ([0xC3, dest, BitVec.ofNat 8 body.length, kind] ++ body ++ natBytes 2 check.toNat) s =
      exec i s ∧
    exec (.frameReceived dest kind body check) s = exec i s

/-- R112, R162, R165, R167, R169, R170, R177: whole frames that reach no block. One to this station or to all
whose CHECK is not the sum of its bytes is counted as a check error and gets no reply; one to another
station, or to address 0, is passed by; one to this station of a kind that the catalogue does not list is
answered UNKNOWN_KIND, and one of a length that it does not list for the kind BAD_LENGTH, each with an empty
body; a broadcast of any kind but COMMIT and DISENGAGE, or of one of these with a body that the catalogue
refuses, is counted as ignored. The Link Port's own state after a frame is the model's reading of one led by
its idle gap (logs 5, 6). -/
def Obligations.FramesThatReachNoBlock : Prop :=
  ∀ (dest kind : Byte) (body : List Byte) (s : State), Listening s → body.length ≤ 250 →
    let good := frameCheck dest kind body
    let entry := fun k : Nat => [8, 15, 22, 29, 36, 43, 50, 57].contains k
    let length : Nat → Nat → Bool := fun k n =>
      if [0x01, 0x14, 0x15, 0x16, 0x41, 0x50, 0x52, 0x53].contains k then n == 0
      else if [0x03, 0x05, 0x17, 0x20, 0x21, 0x25, 0x26, 0x30, 0x31, 0x33, 0x34, 0x60].contains k then
        n == 1
      else if k = 0x22 then n == 2
      else if [0x12, 0x23, 0x24, 0x51].contains k then n == 3
      else if k = 0x40 then n == 4
      else if [0x02, 0x32].contains k then n == 5
      else if k = 0x13 then n == 9
      else if k = 0x10 then n == 15
      else if k = 0x04 then n == 17
      else k == 0x11 && entry n
    let listed := [0x01, 0x02, 0x03, 0x04, 0x05, 0x10, 0x11, 0x12, 0x13, 0x14, 0x15, 0x16, 0x17, 0x20,
      0x21, 0x22, 0x23, 0x24, 0x25, 0x26, 0x30, 0x31, 0x32, 0x33, 0x34, 0x40, 0x41, 0x50, 0x51, 0x52,
      0x53, 0x60].contains kind.toNat
    (∀ check, check ≠ good → (dest = s.link.own.setWidth 8 ∧ s.link.own ≠ 0) ∨ dest = 0x7F →
      exec (.frameReceived dest kind body check) s = .next { s with link := { afterFrame s.link with
        good := s.link.good, checkErrors := min (s.link.checkErrors + 1) 65535 } }) ∧
    (∀ check, dest ≠ s.link.own.setWidth 8 ∨ s.link.own = 0 → dest ≠ 0x7F →
      exec (.frameReceived dest kind body check) s = .next { s with link := { afterFrame s.link with
        good := s.link.good, rx := .skip } }) ∧
    (dest = s.link.own.setWidth 8 → s.link.own ≠ 0 →
      (listed = false → exec (.frameReceived dest kind body good) s =
        .next (answered kind.toNat ⟨.unknownKind, []⟩ s)) ∧
      (listed = true → length kind.toNat body.length = false →
        exec (.frameReceived dest kind body good) s =
          .next (answered kind.toNat ⟨.badLength, []⟩ s))) ∧
    (dest = 0x7F → (kind ≠ 0x16 ∨ body ≠ []) → (kind ≠ 0x21 ∨ ∀ c, body = [c] → 2 < c.toNat) →
      exec (.frameReceived dest kind body good) s = .next { s with link := { afterFrame s.link with
        ignored := min (s.link.ignored + 1) 65535 } })

/-- R172: a request that arrives while a reply is pending is lost: during the reply wait it leaves an
overlap, counted once, and while TXEN is asserted it leaves no trace. That a request row is one whole frame
led by its idle gap, and so leaves RXD at rest, is the model's reading (logs 5, 34). -/
def Obligations.RequestLostWhileReplyPending : Prop :=
  ∀ (i : Instr) (f : Bool × Byte × List Byte) (s : State), requestFrame i = some f →
    (s.link.txen = true → exec i s = .next s) ∧
    (s.link.txen = false → s.link.replyPending = true → exec i s =
      .next { s with link := { s.link with
        quiet := -500000, rxBusy := false, overlapSeen := true,
        overlaps := if s.link.overlapSeen then s.link.overlaps
                    else min (s.link.overlaps + 1) 65535 } })

/-- R169, R173, R176: every request to a ready station is answered with one reply image and the reply
wait begun; a result of 0x10 or above leaves the whole part as it was, but for the two exceptions that
R173 names. The Link Port's own state round the request is the model's reading (logs 5, 6). -/
def Obligations.RefusedRequestChangesNothing : Prop :=
  ∀ (i : Instr) (kind : Byte) (body : List Byte) (s : State),
    requestFrame i = some (false, kind, body) → Ready s →
    ∃ r t, exec i s = .next t ∧ t.link.image = replyImage s.link.own kind.toNat r ∧
      t.link.replyPending = true ∧ t.link.txen = false ∧ t.link.waitLeft = 22500000 ∧
      (16 ≤ Result.code r.result → (∀ start es, i ≠ .windowWrite start es) → i ≠ .commit false →
        t = answered kind.toNat r s)

/-- R163, R171, R172, R174: the reply image is LEAD, 0x80 plus the own address, LEN, KIND with bit 7 set,
RESULT, the body, and the sum of the bytes from the address to the last body byte. The first character of
a reply wait is an overlap, counted once; the wait's end asserts TXEN with the image as characters of even
parity, and RXD is sampled no more; the reply's end releases it and begins a new quiet stretch. That the
wait's end and the reply's end leave the timebase where it stands, TXD as a list of characters, that the
image keeps its bytes after the reply, and the mark of an RXD that is not at rest, which each of the three
clears, are the model's (logs 3, 25, 32, 34). -/
def Obligations.ReplyIsSentOnce : Prop :=
  (∀ (own : BitVec 5) (kind : Nat) (r : Reply), kind < 128 → r.body.length ≤ 249 →
     ∃ hi lo : Byte, replyImage own kind r =
       [0xC3#8, BitVec.ofNat 8 (128 + own.toNat), BitVec.ofNat 8 (r.body.length + 1),
         BitVec.ofNat 8 (128 + kind), BitVec.ofNat 8 (Result.code r.result)] ++ r.body ++ [hi, lo] ∧
       256 * hi.toNat + lo.toNat =
         (128 + own.toNat + (r.body.length + 1) + (128 + kind) + Result.code r.result +
           (r.body.map (·.toNat)).sum) % 65536) ∧
  ∀ (adr : BitVec 5) (bdr : BitVec 2) (s : State),
    let l := s.link
    (l.replyPending = true → l.txen = false → l.overlapSeen = false → exec .overlap s =
      .next { s with link := { l with quiet := -500000, rxBusy := false, overlapSeen := true,
                                      overlaps := min (l.overlaps + 1) 65535 } }) ∧
    (l.replyPending = true → l.txen = false → l.overlapSeen = true → exec .overlap s =
      .next { s with link := { l with quiet := -500000, rxBusy := false } }) ∧
    (l.replyPending = true → l.txen = false → exec .replyWaitEnd s =
      .next { s with link := { l with txen := true, rxBusy := false, txd := l.image.map charBits,
                                      waitLeft := 0, txLeft := 11000000 * l.image.length } }) ∧
    (l.txen = true → l.restart = none → exec (.replyEnd adr bdr) s =
      .next { s with link := { l with txen := false, txd := [], txLeft := 0, replyPending := false,
                                      quiet := 0, rxBusy := false } }) ∧
    (∀ b : Byte, ∃ parity : Bool,
      charBits b = 1#1 ++ (BitVec.ofBool parity ++ (b ++ 0#1)) ∧
      parity = ((((((((b[0] ^^ b[1]) ^^ b[2]) ^^ b[3]) ^^ b[4]) ^^ b[5]) ^^ b[6]) ^^ b[7])))

/-! ## What every step keeps -/

/-- R5, R6: while a sheet is active each phase lies in [0, L_sub), and φ and H are 0 with none; the
sheets held keep a committed repeat length (R106 check 1). -/
def Obligations.StepKeepsPhaseInRepeat : Prop :=
  ∀ s t, PhaseSound s → step s = .next t → PhaseSound t

/-- R12, R13: the miss count never passes the miss limit, and a miss window is open only in source INDEX
with the index not lost. -/
def Obligations.StepKeepsMissWindow : Prop :=
  ∀ s t, MissSound s → step s = .next t → MissSound t

/-- R21, R25, R28, R31: the tracker is IDLE exactly without an active sheet or with the geometry unset, and
the track is empty in IDLE and SEARCH; a waiting coast decision and a held gate-close event always have a
measurement in progress to wait for. -/
def Obligations.StepKeepsTracker : Prop :=
  ∀ s t, TrackerSound s ∧ WaitsSound s → step s = .next t → TrackerSound t ∧ WaitsSound t

/-- R36, R37, R45, R46, R47: the track never holds more than 64 records, every cursor stands on a record or on
none, and the reject output is on exactly while a record of the track has verdict REJECT. The records stay
in strictly increasing R, each with R ≤ W and W - R at most D_R plus the marker width, at every step at which
the print tracker creates its record above those held, as chapter 2 has it do. -/
def Obligations.StepKeepsTrack : Prop :=
  (∀ s t, TrackSound s ∧ RejectSound s → step s = .next t → TrackSound t ∧ RejectSound t) ∧
  ∀ s t, OrderSound s → ItemSound s → step s = .next t → CreatesInOrder s t → OrderSound t

/-- R66, R67: for each cylinder A equals N + P, and the accumulated and the emitted trim stay within
Amax. -/
def Obligations.StepKeepsTrimAccount : Prop :=
  ∀ s t, TrimSound s → step s = .next t → TrimSound t

/-- R78, R79: TSTP is high exactly in STEP, an IDLE emitter has nothing to emit, and in SPACE the
direction output stands at the sign of P. -/
def Obligations.StepKeepsEmitter : Prop :=
  ∀ s t, EmitterSound s → step s = .next t → EmitterSound t

/-- R82 to R91: the impression output is on exactly in ENGAGING or ON; the timers of the sequencers run
exactly in their states, CNF agrees with the state but for an edge that waits (log 35), and the stop dwell
timer and resume-pending hold only where their rules let them. -/
def Obligations.StepKeepsSequencers : Prop :=
  ∀ s t, ImpressionSound s ∧ SequencerSound s ∧ DwellSound s → step s = .next t →
    ImpressionSound t ∧ SequencerSound t ∧ DwellSound t

/-- R107, R109, R113: a pending sheet has the generation last assigned, another than the active sheet's,
and exists only on a moving web with an active sheet of its L_sub. -/
def Obligations.StepKeepsPendingSheet : Prop :=
  ∀ s t, PendingSound s → step s = .next t → PendingSound t

/-- R32, R49, R50, R107: the geometry constraints hold of the items and the active sheet. -/
def Obligations.StepKeepsGeometry : Prop :=
  ∀ s t, PendingSound s ∧ GeometrySound s → step s = .next t → GeometrySound t

/-- R119 to R121, R137, R141: each lane's state agrees with its drive, its run, its park and its check
timer; no drive serves two lanes, and FDIR is high exactly at the mapped drives. -/
def Obligations.StepKeepsLanes : Prop :=
  ∀ s t, LaneSound s ∧ DriveSound s → step s = .next t → LaneSound t ∧ DriveSound t

/-- R122: the 64 leads of a lane are those of its anchors by the formula, each in 0..4,095. -/
def Obligations.StepKeepsLeads : Prop :=
  ∀ s t, LeadSound s → step s = .next t → LeadSound t

/-- R108, R123, R124: base spans stay sorted, separated and within [0, Lc]; each lane's run list stays
sorted, of at most 12 runs within [0, Lc], separated by at least the min dwell. -/
def Obligations.StepKeepsRunLists : Prop :=
  ∀ s t, RunListSound s → step s = .next t → RunListSound t

/-- R153: the alarm line is asserted exactly while a set flag names a code of the alarm mask: every step keeps
this, and so holds the level while flags and mask stand; a raise, FAULT CLEAR, a write of the alarm mask and
a reset each bring it about whatever the line was before, and a raise that is frozen out changes nothing. -/
def Obligations.StepKeepsAlarm : Prop :=
  (∀ s t, AlarmSound s → step s = .next t → AlarmSound t ∧
    (t.faults.flags = s.faults.flags → t.items.alarmMask = s.items.alarmMask →
      t.faults.alm = s.faults.alm)) ∧
  (∀ (r : Raise) (s : State),
    (s.items.freeze = false ∨ s.faults.flags = 0 → AlarmSound (raise r s)) ∧
    (s.items.freeze = true → s.faults.flags ≠ 0 → raise r s = s)) ∧
  (∀ (codes : FaultSet) (clear : Bool) (s : State), AlarmSound (clearFaults codes clear s)) ∧
  (∀ (v : Nat) (s : State), v < 4096 → AlarmSound (writeAlarmMask v s).1) ∧
  ∀ (p : PinLevels) (s t : State), exec (.resetInput p) s = .next t → AlarmSound t

/-- R166, R168, R172, R174: the receiver is held in WAIT_IDLE while a reply is pending and never rests in
DISCARD, the frame buffer agrees with the receiver's state, and RXD is not marked as fallen while TXEN is
asserted (the model's field, log 34). -/
def Obligations.StepKeepsLink : Prop :=
  ∀ s t, LinkSound s ∧ BufferSound s → step s = .next t → LinkSound t ∧ BufferSound t

/-- R1, R3, R11, R20, R24, R30, R37, R44, R143, R174, R186: no counter of COUNTERS READ passes 65,535, and v, stopped and the
speed index keep their ranges and their relation. -/
def Obligations.StepKeepsCounters : Prop :=
  ∀ s t, CounterSound s ∧ SpeedSound s → step s = .next t → CounterSound t ∧ SpeedSound t

/-- R4, R14, R32, R49, R51, R75, R81, R94, R144, R154, R159: no command leaves a configuration item
outside its range. -/
def Obligations.StepKeepsItems : Prop :=
  ∀ s t, ItemSound s → step s = .next t → ItemSound t

/-- The state after reset meets every invariant above. -/
def Obligations.ResetMeetsInvariants : Prop :=
  let s := State.reset
  SpeedSound s ∧ PhaseSound s ∧ MissSound s ∧ TrackerSound s ∧ WaitsSound s ∧ TrackSound s ∧
  OrderSound s ∧ RejectSound s ∧ TrimSound s ∧ EmitterSound s ∧ ImpressionSound s ∧
  SequencerSound s ∧ DwellSound s ∧ PendingSound s ∧ GeometrySound s ∧ LaneSound s ∧ DriveSound s ∧
  LeadSound s ∧ RunListSound s ∧ AlarmSound s ∧ LinkSound s ∧ BufferSound s ∧ CounterSound s ∧
  ItemSound s

/-! ## Web position, phase and marks -/

/-- R1, R2, R5, R6, R8, R9, R12, R13, R84, R93, R113, R114, R123, R125, R138: a transition that decodes to a forward
count completes. It moves W, the direction, the tally and the reference levels; both phases take a forward
step, handed on with its boundary and its throw-phase event, and the count is published with them. The
stations of the label track, the two qualifiers, the coast test and the lanes then take the count, in this
order (log 10). The forward step of each cylinder: H rises with φ; a crossing with H at half a repeat is a
boundary, which sets H to 0, arms the throw and opens the miss window; φ's count on the throw phase fires the
throw-phase event, at which a waiting sequencer enters ENGAGING (F is ON at once with CNF_F active, and a
lane that then starts its run may fault on the same count and throw F off, so the clause on the sequencers
after the whole count leaves that case to the first conjunct); φ reaching the miss point in an open window
counts a miss, the last of which raises INDEX_LOST. A boundary of F swaps a pending sheet in, copies each
lane's tally, rebuilds its run list and moves its park timer. A transition in which both levels change gives
no count: it adds 1 to the encoder error counter, and its levels become the reference. The published phase
beside φ, the swap taken before the lanes take the boundary, and that a command with the levels that stand
already changes nothing are the model's (logs 9, 11, 4). -/
def Obligations.EncoderForwardCountOrError : Prop :=
  (∀ (a b : Bool) (s : State),
     (a, b) = (if s.items.web.inverted then (!s.web.encB, s.web.encA)
               else (s.web.encB, !s.web.encA)) →
     ∃ v, StepsForward (fun _ => true)
         { s with web := { s.web with w := s.web.w + 1, dir := .forward, tally := s.web.tally + 1,
                                      encA := a, encB := b } } v ∧
       exec (.encoderTransition a b) s = .next (lanesCount (coastTest (qualForward .foil
         (qualForward .print (serveStations (counted v))))))) ∧
  (∀ (a b : Bool) (s : State), s.sheets.pending = none →
     (a, b) = (if s.items.web.inverted then (!s.web.encB, s.web.encA)
               else (s.web.encB, !s.web.encA)) →
     ∃ t, exec (.encoderTransition a b) s = .next t ∧
       t.web = { s.web with w := s.web.w + 1, dir := .forward, tally := s.web.tally + 1,
                            encA := a, encB := b } ∧
       (s.sheets.active = none → ∀ c, (t.phase.get c).pub = (s.phase.get c).phi) ∧
       (∀ sh c, s.sheets.active = some sh → (t.phase.get c).pub = phiAfter sh (s.phase.get c)) ∧
       t.sheets = s.sheets ∧ t.items = s.items ∧ t.inputs = s.inputs ∧ t.now = s.now ∧
       t.link = s.link ∧ t.configDefault = s.configDefault ∧
       (∀ sh, s.sheets.active = some sh → s.track.records = [] → s.track.gateHeld = false →
         let bound := crosses sh s.phase.f
         (∀ c, t.phase.get c = { phaseAfter sh (s.items.index.get c) c (s.phase.get c) with
           pub := phiAfter sh (s.phase.get c) }) ∧
         (∀ c, loses sh (s.items.index.get c) (s.phase.get c) = true → s.items.freeze = false →
           t.faults.flags.getLsbD 6 = true) ∧
         (∀ c, (s.seq.get c).state = .waitPhase →
           (c = .f → (∀ l, (s.lane.get l).state ≠ .run) ∧
             (s.inputs.cnf.f = true → fires sh .f s.phase.f = true → ∀ l, (s.lane.get l).state ≠ .dwell)) →
           t.seq.get c = if fires sh c (s.phase.get c) then thrown s c else s.seq.get c) ∧
         (bound = true → ∀ l, (t.lane.get l).lastRev = (s.lane.get l).tally ∧
           ((s.lane.get l).state = .parked ∨ (s.lane.get l).state = .check →
             let n := min ((s.lane.get l).parkTimer + 1) 250
             (t.lane.get l).parkTimer = n ∧
             ((t.lane.get l).parkExpired = true ↔
               (s.lane.get l).parkExpired = true ∨ (s.items.lane.get l).parkTimeout ≤ n) ∧
             ((s.lane.get l).parkExpired = false → (s.items.lane.get l).parkTimeout ≤ n →
               s.items.freeze = false → t.faults.flags.getLsbD 9 = true))) ∧
         (bound = false → ∀ l, (t.lane.get l).lastRev = (s.lane.get l).lastRev ∧
           (t.lane.get l).runList = (s.lane.get l).runList ∧
           ((s.lane.get l).state = .parked ∨ (s.lane.get l).state = .check →
             t.lane.get l = s.lane.get l)))) ∧
  ∀ s : State,
    exec (.encoderTransition (!s.web.encA) (!s.web.encB)) s =
      .next { s with web := { s.web with encA := !s.web.encA, encB := !s.web.encB,
                                         encErrors := min (s.web.encErrors + 1) 65535 } } ∧
    exec (.encoderTransition s.web.encA s.web.encB) s = .next s

/-- R1, R2, R7, R20, R28, R47, R127: a transition that decodes to a reverse count completes, and moves W back; the
phase published with it is one backward step back; the print and the foil qualifier then take the count, and
the label track takes back the records ahead of W (log 10). With no gate-close event held it leaves H, the
throw arm, the misses and the sequencers as they were; no lane steps or changes state, and no drive is
pulsed. A
newest record that comes to lie ahead of W leaves the track, and with no mark being measured the tracker's
expectation moves back a repeat, and its coast count by 1 for a PREDICTED record in COAST. What E_sub is past
a removed MARKED record, or after a swap that changed L_sub, is the model's choice (log 36), and the published phase its reading (log 9). -/
def Obligations.EncoderReverseCount : Prop :=
  ∀ (a b : Bool) (s : State),
    (a, b) = (if s.items.web.inverted then (s.web.encB, !s.web.encA)
              else (!s.web.encB, s.web.encA)) →
    ∃ t, exec (.encoderTransition a b) s = .next t ∧
      t.web = { s.web with w := s.web.w - 1, dir := .reverse, tally := s.web.tally - 1,
                           encA := a, encB := b } ∧
      (let back := fun c => match s.sheets.active with
         | some sh => { s.phase.get c with phi := phiBefore sh (s.phase.get c) }
         | none => s.phase.get c
       let u := qualReverse .foil (qualReverse .print (counted { s with
         web := { s.web with w := s.web.w - 1, dir := .reverse, tally := s.web.tally - 1,
                             encA := a, encB := b },
         phase := ⟨back .f, back .e⟩ }))
       t = reverseRemoval u.track.records.length u) ∧
      (s.sheets.active = none → ∀ c, (t.phase.get c).pub = (s.phase.get c).phi) ∧
      (∀ sh c, s.sheets.active = some sh → (t.phase.get c).pub =
        if (s.phase.get c).phi < 256 then (s.phase.get c).phi + sh.params.lSub - 256
        else (s.phase.get c).phi - 256) ∧
      (s.track.gateHeld = false → s.tracker.waiting = false → t.seq = s.seq ∧ t.loop = s.loop ∧
        t.emit = s.emit ∧ t.faults = s.faults ∧ ∀ c, t.phase.get c =
          { s.phase.get c with phi := (t.phase.get c).pub, pub := (t.phase.get c).pub }) ∧
      t.lane = s.lane ∧ t.drives = s.drives ∧ t.sheets = s.sheets ∧ t.items = s.items ∧
      t.inputs = s.inputs ∧ t.now = s.now ∧ t.link = s.link ∧ t.configDefault = s.configDefault ∧
      (s.qual.print.state ≠ .measuring → s.qual.foil.state ≠ .measuring →
        (∀ r, s.track.records.getLast? = some r → (r.r - (s.web.w - 1)).toInt ≤ 0) →
        t.track = s.track ∧ t.tracker = s.tracker) ∧
      (∀ older r sh, s.qual.print.state ≠ .measuring → s.qual.foil.state ≠ .measuring →
        s.sheets.active = some sh → s.track.records = older ++ [r] →
        0 < (r.r - (s.web.w - 1)).toInt →
        (∀ q, older.getLast? = some q → (q.r - (s.web.w - 1)).toInt ≤ 0) →
        s.tracker.state = .locked ∨ s.tracker.state = .coast ∨ s.tracker.state = .lost →
        t.track = { s.track with
          records := older, nip := min s.track.nip older.length,
          gate := min s.track.gate older.length, emboss := min s.track.emboss older.length,
          marker := min s.track.marker older.length,
          gateHeld := s.track.gateHeld && s.track.gate != older.length,
          rej := older.any (·.verdict == .reject) } ∧
        t.tracker = { s.tracker with
          eSub := s.tracker.eSub - BitVec.ofNat 40 sh.params.lSub,
          coast := if s.tracker.state = .coast ∧ r.origin = .predicted then s.tracker.coast - 1
                   else s.tracker.coast })

/-- R3, R84, R90, R91, R113: a speed gate end sets v, stopped and s from the tally and the items, and starts
the next gate; one that reports the web stopped swaps a pending sheet, and moves a waiting F on to ENGAGING,
with the engage timer and, with throw-off on stop set, the stop dwell timer started at that instant. One at
which the web moves stops the stop dwell timer when the web has just begun to, and performs the ENGAGE that
resume-pending owes F in OFF, taken or refused; while F is RELEASING resume-pending waits. That the event
brings the timebase to the gate's end is the model's choice (log 3). -/
def Obligations.SpeedGateEndPublishes : Prop :=
  (∀ s : State, ∃ t, exec .speedGateEnd s = .next t ∧
     t.web = { s.web with
       v := max (-32768) (min 32767 s.web.tally), tally := 0,
       stopped := decide (max (-32768) (min 32767 s.web.tally) ≤ s.items.web.threshold),
       speed := if s.web.tally ≤ 0 then 0
                else min 63 ((min 32767 s.web.tally).toNat / 2 ^ s.items.web.scale),
       gateEnd := s.web.gateEnd + 4096 } ∧
     t.now = max s.now s.web.gateEnd ∧
     (s.web.stopped = false → t.web.stopped = true → ∀ sh, s.sheets.pending = some sh →
       t.sheets.active = some sh ∧ t.sheets.pending = none) ∧
     (s.web.stopped = true ∨ t.web.stopped = false ∨ s.sheets.pending = none →
       t.sheets = s.sheets) ∧
     t.qual = s.qual ∧ t.track = s.track ∧ t.emit = s.emit ∧ t.faults = s.faults ∧
     t.drives = s.drives ∧ t.items = s.items ∧ t.inputs = s.inputs ∧ t.link = s.link ∧
     t.configDefault = s.configDefault) ∧
  (∀ s : State, s.web.stopped = false →
    max (-32768) (min 32767 s.web.tally) ≤ (s.items.web.threshold : Int) →
    s.sheets.pending = none → s.seq.f.state = .waitPhase → s.inputs.cnf.f = false →
    s.seq.e.state ≠ .waitPhase → s.items.act.throwOff = true → s.items.act.stopDwell ≠ 0 →
    ∃ t, exec .speedGateEnd s = .next t ∧
      t.seq = { s.seq with f := { s.seq.f with
        state := .engaging, imp := true, release := none,
        engage := some (max s.now s.web.gateEnd + 1000 * s.items.act.engage.f) } } ∧
      t.stopDwell = some (max s.now s.web.gateEnd + 1000 * s.items.act.stopDwell) ∧
      t.resume = s.resume ∧ t.lane = s.lane) ∧
  ∀ s : State, (s.items.web.threshold : Int) < max (-32768) (min 32767 s.web.tally) →
    ∃ t, exec .speedGateEnd s = .next t ∧
      t.stopDwell = (if s.web.stopped then none else s.stopDwell) ∧
      t.resume = (s.resume && decide (s.seq.f.state ≠ .off)) ∧
      (s.resume = false ∨ s.seq.f.state ≠ .off → t.seq = s.seq) ∧
      (s.resume = true → s.seq.f.state = .off →
        let g := s.items.geo
        let taken := (s.sheets.active.any (·.params.usesF) && g.dF != 0 && g.dFS != 0 && g.dE != 0 &&
          g.dR != 0) = true ∧ ∀ l, (s.lane.get l).state = .faulted → s.spans l = []
        (taken → t.seq = { s.seq with f := { s.seq.f with
          state := .waitPhase, imp := false, engage := none, release := none } }) ∧
        (¬ taken → t.seq = s.seq)) ∧
      { t with now := s.now, web := s.web, seq := s.seq, stopDwell := s.stopDwell,
               resume := s.resume } = s

/-- R11: an arrival in source RECKON, or in reverse, or with no sheet active, adds 1 to the arrival
counter, which saturates at 65,535, and changes nothing else. -/
def Obligations.IndexArrivalOnlyCounted : Prop :=
  ∀ (c : Cyl) (s : State),
    (s.items.index.get c).source = .reckon ∨ s.web.dir = .reverse ∨ s.sheets.active = none →
    exec (.indexArrival c) s = .next (s.setPhase c { s.phase.get c with
      arrivals := min ((s.phase.get c).arrivals + 1) 65535 })

/-- R8, R10, R113, R114, R73, R93, R123, R125, R138: an arrival in source INDEX, forward, with a sheet active,
sets φ to 0, records the deviation, ends the miss, and with H at half a revolution fires the boundary; a
deviation past the tolerance raises INDEX_DEVIATION. At a boundary of F a pending sheet of the same L_sub
comes into force: the nudge of a loop whose target it changes goes to 0, a sequencer that it does not use
throws off with cause SHEET, and the lanes, which take the boundary after the swap (log 11), copy their
tallies, rebuild their run lists from it and move their park timers. -/
def Obligations.IndexArrivalResynchronises : Prop :=
  (∀ (c : Cyl) (sh : Sheet) (s : State), s.sheets.active = some sh → s.sheets.pending = none →
    (s.items.index.get c).source = .index → s.web.dir = .forward →
    let p := s.phase.get c
    let fires := decide (sh.params.lSub / 2 ≤ p.hold)
    let d : Int := if 2 * p.phi ≤ sh.params.lSub then p.phi else (p.phi : Int) - sh.params.lSub
    ∃ t, exec (.indexArrival c) s = .next t ∧
      t.phase = s.phase.set c { p with
        phi := 0, hold := if fires then 0 else p.hold,
        armed := (p.armed || fires) && sh.params.throw c != 0,
        missOpen := false, missCount := 0, indexLost := false, lastDev := d,
        arrivals := min (p.arrivals + 1) 65535 } ∧
      (s.items.freeze = false → 256 * (s.items.index.get c).tol < d.natAbs →
        t.faults.flags.getLsbD 7 = true) ∧
      (c = .e → t.faults = (raiseIf (decide (256 * (s.items.index.get c).tol < d.natAbs))
        ⟨.indexDeviation, .cyl c, none, d⟩ s).faults) ∧
      { t with phase := s.phase, faults := s.faults, seq := s.seq, lane := s.lane } = s) ∧
  ∀ (a p : Sheet) (s : State), s.sheets.active = some a → s.sheets.pending = some p →
    p.params.lSub = a.params.lSub → s.items.index.f.source = .index → s.web.dir = .forward →
    a.params.lSub / 2 ≤ s.phase.f.hold →
    ∃ t, exec (.indexArrival .f) s = .next t ∧ Swapped a p s t ∧
      t.phase.e = s.phase.e ∧ t.phase.f.phi = 0 ∧ t.phase.f.hold = 0 ∧
      t.phase.f.armed = (a.params.throwF != 0) ∧
      (keepsThrown p s .f → t.seq.f = if s.seq.f.state = .waitPhase ∧ a.params.throwF = 0
        then thrown s .f else s.seq.f) ∧
      (p.params.usesE = true → t.seq.e = s.seq.e) ∧
      { t with sheets := s.sheets, loop := s.loop, phase := s.phase, faults := s.faults,
               seq := s.seq, stopDwell := s.stopDwell, resume := s.resume, lane := s.lane } = s

/-- R19, R20, R25, R31: a rising edge at a waiting qualifier latches W and the width limits in forward running,
and is given up as a reject in reverse running; one that finds the level active is no edge. A falling edge
ends DISCARDING, and ends as a reject a measurement whose width lies outside the latched limits. A forward
count that finds the mark one count past its greatest width ends the measurement as a reject in DISCARDING,
and so does every reverse count. At the end of a measurement a waiting coast decision is taken, with the wait
cleared, and a held gate-close event is released. -/
def Obligations.MarkEdgesMeasureOrReject : Prop :=
  (∀ (x : Sensor) (s : State),
     (s.inputs.level x = true → exec (.markLeadingEdge x) s = .next s) ∧
     (s.inputs.level x = false → (s.qual.get x).state = .waiting → s.web.dir = .forward →
       exec (.markLeadingEdge x) s = .next ((setLevel x true s).setQual x { s.qual.get x with
         state := .measuring, lead := s.web.w,
         min := match x with | .print => s.items.mark.pwMin | .foil => s.items.mark.fwMin,
         max := match x with | .print => s.items.mark.pwMax | .foil => s.items.mark.fwMax })) ∧
     (s.inputs.level x = false → (s.qual.get x).state = .waiting → s.web.dir = .reverse →
       exec (.markLeadingEdge x) s = .next ((setLevel x true s).setQual x { s.qual.get x with
         state := .discarding, rejects := min ((s.qual.get x).rejects + 1) 65535 }))) ∧
  (∀ (x : Sensor) (s : State), s.inputs.level x = true →
    ((s.qual.get x).state = .discarding → exec (.markTrailingEdge x) s =
      .next ((setLevel x false s).setQual x { s.qual.get x with state := .waiting })) ∧
    ((s.qual.get x).state = .measuring →
      (s.web.w - (s.qual.get x).lead).toInt < (s.qual.get x).min ∨
        ((s.qual.get x).max : Int) < (s.web.w - (s.qual.get x).lead).toInt →
      exec (.markTrailingEdge x) s = .next (measurementEnded x ((setLevel x false s).setQual x
        { s.qual.get x with
          state := .waiting, rejects := min ((s.qual.get x).rejects + 1) 65535 })))) ∧
  (∀ (x : Sensor) (s : State),
    let q := s.qual.get x
    let given := measurementEnded x (s.setQual x
      { q with state := .discarding, rejects := min (q.rejects + 1) 65535 })
    let tooWide := s.web.w = q.lead + BitVec.ofNat 32 (q.max + 1)
    (q.state = .measuring → tooWide → qualForward x s = given) ∧
    (q.state ≠ .measuring ∨ ¬ tooWide → qualForward x s = s) ∧
    (q.state = .measuring → qualReverse x s = given) ∧
    (q.state ≠ .measuring → qualReverse x s = s)) ∧
  ∀ s : State,
    (s.tracker.waiting = false → measurementEnded .print s = s) ∧
    (s.tracker.waiting = true → measurementEnded .print s =
      coast { s with tracker := { s.tracker with waiting := false } }) ∧
    (s.track.gateHeld = false → measurementEnded .foil s = s) ∧
    (s.track.gateHeld = true → measurementEnded .foil s = releaseGate s)

/-- R20 to R27, R36, R37: what a print mark of good width does by the tracker's state, and what the coast point
does. In the gate in LOCKED or COAST it becomes the newest record, MARKED at its leading edge with the next
serial, and moves E_sub a repeat past itself; outside the gate it is a stray; in SEARCH and LOST it is an
acquisition step, the last of which locks on it; in IDLE it is passed over. At the coast point a PREDICTED
record is made at E_sub rounded, E_sub moves a repeat on and the coast count rises; the coast that reaches
the limit raises MARK_LOST and goes to LOST, where the count stands still; a measurement that could bring
the mark holds the decision back. A decision held back is taken when its mark turns out a reject, a stray or
an acquisition step that does not lock, and dropped by an accepted mark and a lock. A record that finds 64 in
the track drops the oldest, counted as an overflow. -/
def Obligations.PrintMarkAcceptedInGate : Prop :=
  (∀ (n : BitVec 16) (o : Origin) (r : Pos) (w : Option Nat), newRecord n o r w =
    { serial := n, origin := o, r := r, width := w, gen := none, fOn := none,
      parked := ⟨false, false, false, false⟩, eF := none, cF := none, foil := none, refUsed := none,
      eE := none, cE := none, reasons := if o = .predicted then 0x001 else 0, verdict := .pending }) ∧
  (∀ (sh : Sheet) (s : State), s.sheets.active = some sh → s.inputs.pmark = true →
    s.qual.print.state = .measuring →
    let x := s.qual.print.lead
    let width := (s.web.w - x).toInt
    let good := s.qual.print.min ≤ width ∧ width ≤ s.qual.print.max
    let k := s.tracker.k
    let off := (BitVec.ofNat 40 (x.toNat * 256) - s.tracker.eSub).toInt
    let spacing := (BitVec.ofNat 40 (x.toNat * 256) -
      (BitVec.ofNat 40 (s.tracker.q.toNat * 256) + BitVec.ofNat 40 sh.params.lSub)).toInt
    let ended := setLevel .print false
      { s with qual := { s.qual with print := { s.qual.print with state := .waiting } } }
    let marked := withRecord .marked x (some width.toNat) s.track
    let next := BitVec.ofNat 40 (x.toNat * 256) + BitVec.ofNat 40 sh.params.lSub
    let decided := fun u : State => if s.tracker.waiting then
      coasted sh { u with tracker := { u.tracker with waiting := false } } else u
    let locked := s.tracker.state = .locked ∨ s.tracker.state = .coast
    let seeks := s.tracker.state = .search ∨ s.tracker.state = .lost
    (locked → good → off.natAbs ≤ 256 * s.items.mark.gP →
      exec (.markTrailingEdge .print) s = .next { ended with
        track := marked,
        tracker := { s.tracker with state := .locked, coast := 0, waiting := false, eSub := next } }) ∧
    (locked → good → 256 * s.items.mark.gP < off.natAbs →
      exec (.markTrailingEdge .print) s = .next (decided { ended with
        qual := { ended.qual with print := { ended.qual.print with
          strays := min (s.qual.print.strays + 1) 65535 } } })) ∧
    (seeks → good → s.tracker.waiting = false ∨ s.tracker.state = .lost →
      k = 0 ∨ 256 * s.items.mark.gP < spacing.natAbs →
      exec (.markTrailingEdge .print) s = .next (decided { ended with
        tracker := { s.tracker with q := x, k := 1 } })) ∧
    (seeks → good → s.tracker.waiting = false ∨ s.tracker.state = .lost →
      k ≠ 0 → spacing.natAbs ≤ 256 * s.items.mark.gP → k + 1 < s.items.mark.acquire →
      exec (.markTrailingEdge .print) s = .next (decided { ended with
        tracker := { s.tracker with q := x, k := k + 1 } })) ∧
    (seeks → good → k ≠ 0 → spacing.natAbs ≤ 256 * s.items.mark.gP → s.items.mark.acquire ≤ k + 1 →
      exec (.markTrailingEdge .print) s = .next { ended with
        track := marked,
        tracker := { s.tracker with
          state := .locked, q := x, k := 0, coast := 0, waiting := false, eSub := next } }) ∧
    (s.tracker.state = .idle → good → s.tracker.waiting = false →
      exec (.markTrailingEdge .print) s = .next ended) ∧
    (locked ∨ s.tracker.state = .lost → ¬ good →
      exec (.markTrailingEdge .print) s = .next (decided { ended with
        qual := { ended.qual with print := { ended.qual.print with
          rejects := min (s.qual.print.rejects + 1) 65535 } } }))) ∧
  ∀ (sh : Sheet) (s : State), s.sheets.active = some sh →
    let past := (BitVec.ofNat 40 (s.web.w.toNat * 256) -
      (s.tracker.eSub + BitVec.ofNat 40 (256 * s.items.mark.gP))).toInt
    let held := s.qual.print.state = .measuring ∧ (s.tracker.state = .lost ∨
      (BitVec.ofNat 40 (s.qual.print.lead.toNat * 256) - s.tracker.eSub).toInt.natAbs ≤
        256 * s.items.mark.gP)
    (past < 0 ∨ s.tracker.waiting = true ∨ s.tracker.state = .idle ∨ s.tracker.state = .search →
      coastTest s = s) ∧
    (s.tracker.state = .locked ∨ s.tracker.state = .coast ∨ s.tracker.state = .lost →
      coast s = coasted sh s ∧
      (s.tracker.waiting = false → 0 ≤ past → held → coastTest s =
        { s with tracker := { s.tracker with waiting := true } }) ∧
      (s.tracker.waiting = false → 0 ≤ past → ¬ held → coastTest s = coasted sh s))

/-- R30, R31: a foil mark of good width is given to the oldest record that has no foil mark, whose gate is not
closed, and whose foil gate holds its leading edge; with no such record it is a stray. The mark is assigned
first, also to a record whose gate-close event is held, and a held event is then released. -/
def Obligations.FoilMarkGoesToOldestOpenGate : Prop :=
  ∀ s : State, s.inputs.fmark = true → s.qual.foil.state = .measuring →
    (s.qual.foil.min : Int) ≤ (s.web.w - s.qual.foil.lead).toInt →
    (s.web.w - s.qual.foil.lead).toInt ≤ s.qual.foil.max →
    let mf := s.qual.foil.lead
    let offset := fun r : LabelRecord => (mf - (r.r + BitVec.ofNat 32 s.items.geo.dFS)).toInt
    let takes := fun k => ∃ r, s.track.records[k]? = some r ∧ s.track.gate ≤ k ∧ r.foil = none ∧
      (offset r).natAbs ≤ s.items.mark.gF
    let ended := setLevel .foil false
      { s with qual := { s.qual with foil := { s.qual.foil with state := .waiting } } }
    let released := fun u : State => if s.track.gateHeld then releaseGate u else u
    (∀ k, takes k → (∀ j, j < k → ¬ takes j) →
      exec (.markTrailingEdge .foil) s = .next (released { ended with
        track := { s.track with
          records := s.track.records.modify k fun r => { r with foil := some (mf, offset r) } } })) ∧
    ((∀ k, ¬ takes k) → exec (.markTrailingEdge .foil) s = .next (released { ended with
      qual := { ended.qual with foil := { ended.qual.foil with
        strays := min (s.qual.foil.strays + 1) 65535 } } }))

/-- R31, R38 to R46, R58: a forward count serves the five stations, each from its cursor on: a record whose due
point W has reached has its event, the record after it is tested on the same count, and one whose due point
lies ahead ends the service; the stations come in the order of their table (log 10). The due points are R + D_F, R + D_FS + g_f, R + D_E or MF + (D_E - D_FS), R + D_R
and R + D_R + marker width. A gate-close event that comes while a foil measurement is in progress whose leading
edge lies in the record's gate is held; at its release the cursor moves on, the gate-close station is served
from the next record on, and the emboss station is tested (log 38). A record with reference FOIL and no foil
mark waits at the emboss nip for its gate-close event. The foil nip writes generation, F's state and the parked lanes with F_OFF and
LANE_PARKED, the emboss nip the reference used with E_FALLBACK and E_OFF, and each then hands the record to
its loop with its due point. The marker event of a record past its emboss nip: REJECT and the reject counter
when its reasons share one with the mask, else GOOD and the good counter; the reject output is on while a
record has verdict REJECT, and the cursor moves on. A record whose emboss nip has not been taken takes it
first, with E_NO_MEASURE and no measurement. A removal takes the oldest record out. -/
def Obligations.MarkerDecidesVerdict : Prop :=
  (∀ s : State,
    let n := s.track.records.length
    serveStations s = serveRemoval n (serveMarker n (serveEmboss n (serveGate n (serveNip n s)))) ∧
    (s.track.gateHeld = true → releaseGate s = serveEmboss n (serveGate n
      { s with track := { s.track with gate := s.track.gate + 1, gateHeld := false } }))) ∧
  (∀ (n : Nat) (s : State),
    let g := s.items.geo
    let past := fun (u : State) (x : Pos) => (u.web.w - x).toInt
    let off := fun (r : LabelRecord) (d : Nat) => r.r + BitVec.ofNat 32 d
    let emboss := fun (sh : Sheet) (r : LabelRecord) => match sh.params.ref, r.foil with
      | .foil, some (mf, _) => mf + BitVec.ofNat 32 (g.dE - g.dFS)
      | _, _ => off r g.dE
    let gone := { s with track := { s.track with
      records := s.track.records.tail, nip := s.track.nip - 1, gate := s.track.gate - 1,
      emboss := s.track.emboss - 1, marker := s.track.marker - 1,
      gateHeld := s.track.gateHeld && s.track.gate != 0,
      rej := s.track.records.tail.any (·.verdict == .reject) } }
    (∀ r, s.track.records[s.track.nip]? = some r →
      (past s (off r g.dF) < 0 → serveNip (n + 1) s = s) ∧
      (0 ≤ past s (off r g.dF) → serveNip (n + 1) s = serveNip n (nipEvent r s))) ∧
    (∀ r, s.track.records[s.track.gate]? = some r →
      let due := 0 ≤ past s (off r (g.dFS + s.items.mark.gF))
      let busy := s.qual.foil.state = .measuring ∧
        (s.qual.foil.lead - off r g.dFS).toInt.natAbs ≤ s.items.mark.gF
      (s.track.gateHeld = true ∨ ¬ due → serveGate (n + 1) s = s) ∧
      (s.track.gateHeld = false → due → busy → serveGate (n + 1) s =
        { s with track := { s.track with gateHeld := true } }) ∧
      (s.track.gateHeld = false → due → ¬ busy → serveGate (n + 1) s = serveGate n
        { s with track := { s.track with gate := s.track.gate + 1, gateHeld := false } })) ∧
    (∀ r sh, s.track.records[s.track.emboss]? = some r → s.sheets.active = some sh →
      let waits := sh.params.ref = .foil ∧ r.foil = none ∧ s.track.gate ≤ s.track.emboss
      (waits ∨ past s (emboss sh r) < 0 → serveEmboss (n + 1) s = s) ∧
      (¬ waits → 0 ≤ past s (emboss sh r) →
        serveEmboss (n + 1) s = serveEmboss n (embossEvent r s))) ∧
    (∀ r, s.track.records[s.track.marker]? = some r →
      (past s (off r g.dR) < 0 → serveMarker (n + 1) s = s) ∧
      (0 ≤ past s (off r g.dR) → serveMarker (n + 1) s = serveMarker n (markerEvent r s))) ∧
    (∀ r, s.track.records[0]? = some r →
      (past s (off r (g.dR + g.markerWidth)) < 0 → serveRemoval (n + 1) s = s) ∧
      (0 ≤ past s (off r (g.dR + g.markerWidth)) → serveRemoval (n + 1) s = serveRemoval n gone)) ∧
    (s.track.records.length ≤ n →
      (∀ t r, serveNip n s = t → t.track.records[t.track.nip]? = some r → past t (off r g.dF) < 0) ∧
      (∀ t r, serveGate n s = t → t.track.records[t.track.gate]? = some r →
        t.track.gateHeld = true ∨ past t (off r (g.dFS + s.items.mark.gF)) < 0) ∧
      (∀ t r, serveEmboss n s = t → t.track.records[t.track.emboss]? = some r →
        ∀ sh, t.sheets.active = some sh → past t (emboss sh r) < 0 ∨
          sh.params.ref = .foil ∧ r.foil = none ∧ t.track.gate ≤ t.track.emboss) ∧
      (∀ t r, serveMarker n s = t → t.track.records[t.track.marker]? = some r →
        past t (off r g.dR) < 0) ∧
      ∀ t r, serveRemoval n s = t → t.track.records[0]? = some r →
        past t (off r (g.dR + g.markerWidth)) < 0)) ∧
  (∀ (rec : LabelRecord) (s : State), s.track.records[s.track.marker]? = some rec →
    s.track.marker < s.track.emboss →
    let k := s.track.marker
    let judged := fun v : Verdict => s.track.records.modify k fun r => { r with verdict := v }
    (rec.reasons &&& s.items.rejectMask ≠ 0 → markerEvent rec s = { s with track := { s.track with
      records := judged .reject, bad := min (s.track.bad + 1) 65535, marker := k + 1, rej := true } }) ∧
    (rec.reasons &&& s.items.rejectMask = 0 → markerEvent rec s = { s with track := { s.track with
      records := judged .good, good := min (s.track.good + 1) 65535, marker := k + 1,
      rej := (judged .good).any (·.verdict == .reject) } })) ∧
  (∀ (rec : LabelRecord) (sh : Sheet) (s : State), s.track.records[s.track.marker]? = some rec →
    s.sheets.active = some sh → sh.params.ref = .foil → s.track.emboss ≤ s.track.marker →
    (∀ r, s.track.records[s.track.marker + 1]? = some r →
      embossDue s (s.track.marker + 1) r = false) →
    let k := s.track.marker
    let reasons := rec.reasons ||| (if rec.foil.isSome then 0 else 0x100#9) |||
      (if sh.params.usesE && s.seq.e.state != .on then 0x080#9 else 0) ||| 0x020#9
    let used := if rec.foil.isSome then RefUsed.foil else RefUsed.fallback
    let judged := fun v : Verdict => s.track.records.modify k fun r =>
      { r with refUsed := some used, reasons := reasons, verdict := v }
    (reasons &&& s.items.rejectMask ≠ 0 → markerEvent rec s = { s with track := { s.track with
      records := judged .reject, bad := min (s.track.bad + 1) 65535, emboss := k + 1,
      marker := k + 1, rej := true } }) ∧
    (reasons &&& s.items.rejectMask = 0 → markerEvent rec s = { s with track := { s.track with
      records := judged .good, good := min (s.track.good + 1) 65535, emboss := k + 1,
      marker := k + 1, rej := (judged .good).any (·.verdict == .reject) } })) ∧
  (∀ (rec : LabelRecord) (sh : Sheet) (s : State), s.track.records[s.track.nip]? = some rec →
    s.sheets.active = some sh →
    let k := s.track.nip
    let parked := fun l => ((s.lane.get l).state == .parked || (s.lane.get l).state == .check) &&
      !(s.spans l).isEmpty
    let off := sh.params.usesF && s.seq.f.state != .on
    nipEvent rec s = measure .f k rec (rec.origin == .marked)
      (rec.r + BitVec.ofNat 32 s.items.geo.dF) { s with track := { s.track with
        nip := k + 1,
        records := s.track.records.modify k fun r => { r with
          gen := some sh.gen, fOn := some (s.seq.f.state == .on),
          parked := ⟨parked .l0, parked .l1, parked .l2, parked .l3⟩,
          reasons := r.reasons ||| (if off then 0x008#9 else 0) |||
            (if parked .l0 || parked .l1 || parked .l2 || parked .l3 then 0x010#9 else 0) } } }) ∧
  ∀ (rec : LabelRecord) (sh : Sheet) (s : State), s.track.records[s.track.emboss]? = some rec →
    s.sheets.active = some sh →
    let k := s.track.emboss
    let used := if sh.params.ref = .print then RefUsed.print
      else if rec.foil.isSome then RefUsed.foil else RefUsed.fallback
    let off := sh.params.usesE && s.seq.e.state != .on
    let known := match used with
      | .foil => true
      | .print | .fallback => rec.origin == .marked
    let due := match used, rec.foil with
      | .foil, some (mf, _) => mf + BitVec.ofNat 32 (s.items.geo.dE - s.items.geo.dFS)
      | _, _ => rec.r + BitVec.ofNat 32 s.items.geo.dE
    embossEvent rec s = measure .e k rec known due { s with track := { s.track with
      emboss := k + 1,
      records := s.track.records.modify k fun r => { r with
        refUsed := some used,
        reasons := r.reasons ||| (if used = .fallback then 0x100#9 else 0) |||
          (if off then 0x080#9 else 0) } } }

/-! ## Register control and cylinder actuation -/

/-- R57 to R65: the error in sub-counts is the distance from the live target to the measured phase,
reduced into [h - L_sub, h - 1] with h = (L_sub + 1) div 2; counts are its nearest whole number with a tie
away from zero; a correction is 0 within the deadband, and otherwise the nearest whole number to e × G / 16,
a tie away from zero, negated and cut to the slew limit. A record whose loop takes no measurement gets the
no-measure reason alone; a sheet that does not use the cylinder changes nothing. A valid measurement writes
the error and judges it by the tolerance, with REGISTER_RUN at the run length; in AUTO it commits the
correction held to Amax, with TRIM_LIMIT where it was cut, writes it into the record, and tells the
emitter. That the measured phase is the one published with the last count, also for a measurement taken
after a trim pulse that followed that count, is the model's reading (log 9). -/
def Obligations.ErrorWrapsAndCorrectionOpposes : Prop :=
  (∀ (lSub : Nat) (measured live : Int), 0 < lSub →
     let h : Int := ((lSub + 1) / 2 : Nat)
     h - lSub ≤ errorSub lSub measured live ∧ errorSub lSub measured live ≤ h - 1 ∧
       (lSub : Int) ∣ measured - live - errorSub lSub measured live) ∧
  (∀ e : Int, (256 * errorCounts e - e).natAbs ≤ 128 ∧ e.natAbs ≤ 256 * (errorCounts e).natAbs + 127) ∧
  (∀ (it : LoopItems) (e : Int),
    (e.natAbs ≤ it.deadband → correction it e = 0) ∧
    (correction it e).natAbs ≤ it.slew ∧ (0 ≤ e → correction it e ≤ 0) ∧
    (e ≤ 0 → 0 ≤ correction it e) ∧
    (it.deadband < e.natAbs → (correction it e).natAbs < it.slew →
      (16 * correction it e + e * it.gain).natAbs ≤ 8 ∧
      e.natAbs * it.gain ≤ 16 * (correction it e).natAbs + 7) ∧
    (it.deadband < e.natAbs → 16 * it.slew ≤ e.natAbs * it.gain + 8 →
      (correction it e).natAbs = it.slew) ∧
    (it.gain = 16 → it.deadband < e.natAbs → e.natAbs ≤ it.slew → correction it e = -e)) ∧
  ∀ (c : Cyl) (k : Nat) (rec : LabelRecord) (known : Bool) (due : Pos) (sh : Sheet) (s : State),
    s.sheets.active = some sh →
    let x := s.loop.get c
    let it := s.items.loop.get c
    let write := fun g : LabelRecord → LabelRecord =>
      { s with track := { s.track with records := s.track.records.modify k g } }
    let none_ := match c with | .f => 0x002#9 | .e => 0x020#9
    let oor := match c with | .f => 0x004#9 | .e => 0x040#9
    let valid := x.mode ≠ .off ∧ (s.phase.get c).indexLost = false ∧ known = true
    let phase := (((s.phase.get c).pub : Int) - 256 * (s.web.w - due).toInt) % sh.params.lSub
    let live := ((sh.params.target c : Int) + x.nudge * 256) % sh.params.lSub
    let e := errorCounts (errorSub sh.params.lSub phase live)
    let out := decide (it.tol < e.natAbs)
    let run := out && decide (it.runLength ≤ x.run + 1)
    let judged : Loop := { x with
      lastSerial := some rec.serial, lastErr := some e, run := if out && !run then x.run + 1 else 0 }
    let put := fun (cor : Option Int) (r : LabelRecord) =>
      let r1 := { r with reasons := if out then r.reasons ||| oor else r.reasons }
      match c with
      | .f => { r1 with eF := some e, cF := cor.or r1.cF }
      | .e => { r1 with eE := some e, cE := cor.or r1.cE }
    let s1 := raiseIf run ⟨.registerRun, .cyl c, some rec.serial, e⟩ s
    let wanted := correction it (e + x.p)
    let top : Int := it.amax
    let cut := if top < x.a + wanted then top - x.a
               else if x.a + wanted < -top then -top - x.a else wanted
    let s2 := raiseIf (decide (it.amax < (x.a + wanted).natAbs))
      ⟨.trimLimit, .cyl c, some rec.serial, wanted⟩ s1
    (sh.params.uses c = false → measure c k rec known due s = s) ∧
    (sh.params.uses c = true → ¬ valid →
      measure c k rec known due s = write fun r => { r with reasons := r.reasons ||| none_ }) ∧
    (sh.params.uses c = true → valid → x.mode = .measure → measure c k rec known due s =
      { write (put none) with faults := s1.faults }.setLoop c { judged with lastCorr := none }) ∧
    (sh.params.uses c = true → valid → x.mode = .auto → measure c k rec known due s =
      trimChanged c ({ write (put (some cut)) with faults := s2.faults }.setLoop c { judged with
        lastCorr := some cut, a := x.a + cut, p := x.p + cut })) ∧
    ((s.emit.get c).state = .step → trimChanged c s = s)

/-- R68, R69, R70, R72, R183: LOOP MODE to another mode clears the run count, and OFF discards the pending
trim; NUDGE adds its delta and holds the nudge to 1,000 either way; TRIM ZERO makes the pending trim the
whole account, refused when it lies past Amax. The Link Port's own state round a request is the model's
reading (logs 5, 6). -/
def Obligations.LoopRequestsTakeEffect : Prop :=
  ∀ (c : Cyl) (s : State), Ready s →
    let x := s.loop.get c
    (∀ m, m ≠ x.mode →
      let y : Loop := if m = .off then { x with mode := .off, run := 0, a := x.a - x.p, p := 0 }
                      else { x with mode := m, run := 0 }
      exec (.loopMode (cylByte c) (modeByte m)) s =
        .next (answered 0x22 ⟨.ok, modeBody y⟩ (s.setLoop c y))) ∧
    exec (.loopMode (cylByte c) (modeByte x.mode)) s =
      .next (answered 0x22 ⟨.already, modeBody x⟩ s) ∧
    (∀ d : BitVec 16, x.nudge + d.toInt ≤ 1000 → -1000 ≤ x.nudge + d.toInt →
      exec (.nudge (cylByte c) d) s = .next (answered 0x23
        ⟨.ok, intBytes 2 (x.nudge + d.toInt)⟩ (s.setLoop c { x with nudge := x.nudge + d.toInt }))) ∧
    (∀ d : BitVec 16, 1000 < x.nudge + d.toInt → exec (.nudge (cylByte c) d) s =
      .next (answered 0x23 ⟨.clamped, intBytes 2 1000⟩ (s.setLoop c { x with nudge := 1000 }))) ∧
    (∀ d : BitVec 16, x.nudge + d.toInt < -1000 → exec (.nudge (cylByte c) d) s =
      .next (answered 0x23 ⟨.clamped, intBytes 2 (-1000)⟩ (s.setLoop c { x with nudge := -1000 }))) ∧
    (x.p.natAbs ≤ (s.items.loop.get c).amax → exec (.trimZero (cylByte c)) s =
      .next (answered 0x25 ⟨.ok, zeroBody { x with a := x.p, n := 0 }⟩
        (s.setLoop c { x with a := x.p, n := 0 }))) ∧
    ((s.items.loop.get c).amax < x.p.natAbs → exec (.trimZero (cylByte c)) s =
      .next (answered 0x25 ⟨.badState, zeroBody x⟩ s))

/-- R8, R71, R78, R79, R80, R113, R114: TRIM MOVE adds to A and P the move held to Amax, and answers OK only for the whole move.
An emitter in STEP is left alone; one in SPACE turns TDIR where P has taken the other sign; one in IDLE
begins: with a pulse at once where TDIR stands at P's sign, else with a turn and a SPACE. The pulse is a step
of the cylinder's phase, an ADVANCE pulse with the boundary, the swap and the throw-phase event that a forward
step may bring. The Link Port's own state round a request is the model's reading (logs 5, 6), and so is the swap taken before the lanes take the
boundary (log 11). -/
def Obligations.TrimMoveHeldToAmax : Prop :=
  ∀ (c : Cyl) (m : BitVec 16) (s : State), Ready s →
    let x := s.loop.get c
    let top : Int := (s.items.loop.get c).amax
    let applied := if top < x.a + m.toInt then top - x.a
                   else if x.a + m.toInt < -top then -top - x.a else m.toInt
    let p := x.p + applied
    let sign := if 0 < p then TrimDir.advance else TrimDir.retard
    let em := s.emit.get c
    let moved := s.setLoop c { x with a := x.a + applied, p := p }
    let body := fun p : Int => intBytes 2 applied ++ intBytes 2 (x.a + applied) ++ intBytes 4 p
    ∃ t r, exec (.trimMove (cylByte c) m) s = .next t ∧
      (t.loop.get c).a = x.a + applied ∧
      (t.loop.get c).n + (t.loop.get c).p = x.n + x.p + applied ∧
      (r = .ok ↔ applied = m.toInt) ∧ (r = .clamped ↔ applied ≠ m.toInt) ∧
      t.link = afterRequest 0x24 ⟨r, body (t.loop.get c).p⟩ s.link ∧
      t.items = s.items ∧ t.track = s.track ∧ t.now = s.now ∧ t.web = s.web ∧
      (em.state = .step ∨ p = 0 ∨ em.state = .space ∧ em.tdir = sign →
        t = answered 0x24 ⟨r, body p⟩ moved) ∧
      (em.state = .space ∨ em.state = .idle → p ≠ 0 → em.tdir ≠ sign →
        t = answered 0x24 ⟨r, body p⟩ (moved.setEmit c { em with
          state := .space, tdir := sign, t := s.items.act.trimInterval, lastTurn := some s.now })) ∧
      (em.state = .idle → p ≠ 0 → em.tdir = sign →
        let pulsed := { s with
          emit := s.emit.set c { em with
            state := .step, tstp := true, t := s.items.act.trimInterval, lastStep := some s.now },
          loop := s.loop.set c { x with
            a := x.a + applied, p := if 0 < p then p - 1 else p + 1,
            n := if 0 < p then x.n + 1 else x.n - 1 } }
        ∃ v, t = answered 0x24 ⟨r, body (v.loop.get c).p⟩ v ∧
          (0 < p → StepsForward (fun d => decide (d = c)) pulsed v) ∧
          (p < 0 → s.sheets.active = none → v = pulsed) ∧
          (p < 0 → ∀ sh, s.sheets.active = some sh →
            v = pulsed.setPhase c { s.phase.get c with phi := phiBefore sh (s.phase.get c) }))

/-- R78, R79: the step time's end drops TSTP and turns TDIR if P has taken the other sign; the end of a
SPACE with P at 0 is IDLE. Either brings the timebase to its instant (log 3), that of a SPACE being the later
of the last step time plus t and the last turn time plus the setup time (log 20), and finds nothing to do in
another state (log 4). -/
def Obligations.EmitterTimesEnd : Prop :=
  ∀ (c : Cyl) (s : State),
    let x := s.emit.get c
    let p := (s.loop.get c).p
    let down := max s.now (x.lastStep.getD 0 + x.t / 2)
    let due := max ((x.lastStep.map (· + x.t)).getD 0)
      ((x.lastTurn.map (· + (x.t - x.t / 2))).getD 0)
    (x.state = .step → (0 < p → x.tdir = .advance) → (p < 0 → x.tdir = .retard) →
      exec (.stepTimeEnd c) s = .next ({ s with now := down }.setEmit c
        { x with state := .space, tstp := false })) ∧
    (x.state = .step → 0 < p → x.tdir = .retard → exec (.stepTimeEnd c) s =
      .next ({ s with now := down }.setEmit c { x with
        state := .space, tstp := false, tdir := .advance, t := s.items.act.trimInterval,
        lastTurn := some down })) ∧
    (x.state = .step → p < 0 → x.tdir = .advance → exec (.stepTimeEnd c) s =
      .next ({ s with now := down }.setEmit c { x with
        state := .space, tstp := false, tdir := .retard, t := s.items.act.trimInterval,
        lastTurn := some down })) ∧
    (x.state ≠ .step → exec (.stepTimeEnd c) s = .next s) ∧
    (x.state = .space → p = 0 → exec (.spaceEnd c) s =
      .next ({ s with now := max s.now due }.setEmit c { x with state := .idle })) ∧
    (x.state ≠ .space → exec (.spaceEnd c) s = .next s)

/-- R8, R66, R78, R79, R80, R113, R114: the end of a SPACE with P not 0 is a pulse: TSTP rises, the interval is
latched, P moves 1 toward 0 and N with it, A stays, and the cylinder's phase takes a forward step for ADVANCE
and a backward step for RETARD. The forward step may bring a boundary, at which for F a pending sheet comes
into force, and the throw-phase event; the backward step brings neither. That the event brings the timebase
to its instant, the later of the two of R78, and the swap taken before the lanes take the boundary are the
model's (logs 3, 20, 11). -/
def Obligations.SpaceEndEmitsPulse : Prop :=
  ∀ (c : Cyl) (s : State), (s.emit.get c).state = .space → (s.loop.get c).p ≠ 0 →
    let x := s.loop.get c
    let em := s.emit.get c
    let up : Int := if 0 < x.p then 1 else -1
    let now := max s.now (max ((em.lastStep.map (· + em.t)).getD 0)
      ((em.lastTurn.map (· + (em.t - em.t / 2))).getD 0))
    let pulsed := { s with
      now := now,
      emit := s.emit.set c { em with
        state := .step, tstp := true, t := s.items.act.trimInterval, lastStep := some now },
      loop := s.loop.set c { x with p := x.p - up, n := x.n + up } }
    ∃ t, exec (.spaceEnd c) s = .next t ∧
      (0 < x.p → StepsForward (fun d => decide (d = c)) pulsed t) ∧
      (x.p < 0 → s.sheets.active = none → t = pulsed) ∧
      (x.p < 0 → ∀ sh, s.sheets.active = some sh →
        t = pulsed.setPhase c { s.phase.get c with phi := phiBefore sh (s.phase.get c) })

/-- R85, R86, R87, R92, R121: a rising CNF takes ENGAGING to ON; a falling CNF takes RELEASING to OFF, and ON
to OFF with CONFIRM_LOST; in the other states an edge changes only the level. F leaving ON cuts the runs of
its lanes. An edge given without being taken changes the level alone and waits for the event that came with
it; it is taken by the same edge given again, and before an edge the other way (log 35): so an engage timer
that expires first leaves the sequencer RELEASING under its release timer, where the edge does nothing. -/
def Obligations.ConfirmEdgesMoveSequencer : Prop :=
  ∀ (c : Cyl) (s : State),
    let q := s.seq.get c
    let waits := s.inputs.edge.get c
    let cnf := s.inputs.cnf.get c
    let level := fun high wait : Bool => { s with inputs := { s.inputs with
      cnf := s.inputs.cnf.set c high, edge := s.inputs.edge.set c wait } }
    let up := level true false
    let down := level false false
    (waits = false ∨ cnf = true →
      exec (.confirmRise ⟨c, false⟩) s = .next (level true true) ∧
      (q.state = .engaging → exec (.confirmRise ⟨c, true⟩) s = .next (up.setSeq c { q with
        state := .on, imp := true, engage := none, release := none })) ∧
      (q.state ≠ .engaging → exec (.confirmRise ⟨c, true⟩) s = .next up)) ∧
    (waits = false ∨ cnf = false →
      exec (.confirmFall ⟨c, false⟩) s = .next (level false true) ∧
      (q.state = .releasing → exec (.confirmFall ⟨c, true⟩) s = .next (down.setSeq c { q with
        state := .off, imp := false, engage := none, release := none })) ∧
      (q.state ≠ .on → q.state ≠ .releasing → exec (.confirmFall ⟨c, true⟩) s = .next down) ∧
      (q.state = .on → ∃ t, exec (.confirmFall ⟨c, true⟩) s = .next t ∧
        t.seq = s.seq.set c { q with state := .off, imp := false, engage := none, release := none,
                                     cause := .confirmLost } ∧
        t.inputs = down.inputs ∧
        t.faults = (raise ⟨.confirmLost, .cyl c, none, ((s.phase.get c).phi / 256 : Nat)⟩ s).faults ∧
        (c = .f → t.stopDwell = none ∧ t.resume = false ∧
          ∀ l, (s.lane.get l).state = .run → (t.lane.get l).run = none ∧ (t.lane.get l).acc = 0 ∧
            (t.lane.get l).state = (if (s.lane.get l).parkPending then .parked else .dwell)) ∧
        (c = .e → t.stopDwell = s.stopDwell ∧ t.resume = s.resume ∧ t.lane = s.lane) ∧
        { t with inputs := s.inputs, seq := s.seq, faults := s.faults, stopDwell := s.stopDwell,
                 resume := s.resume, lane := s.lane } = s)) ∧
    (waits = true → cnf = false → ∀ taken u, exec (.confirmFall ⟨c, true⟩) s = .next u →
      exec (.confirmRise ⟨c, taken⟩) s = exec (.confirmRise ⟨c, taken⟩) u) ∧
    (waits = true → cnf = true → ∀ taken u, exec (.confirmRise ⟨c, true⟩) s = .next u →
      exec (.confirmFall ⟨c, taken⟩) s = exec (.confirmFall ⟨c, taken⟩) u) ∧
    (∀ due, waits = false → cnf = false → q.state = .engaging → q.engage = some due →
      ∃ t1 t2 t3, exec (.confirmRise ⟨c, false⟩) s = .next t1 ∧
        exec (.engageTimerExpiry c) t1 = .next t2 ∧ exec (.confirmRise ⟨c, true⟩) t2 = .next t3 ∧
        t3.inputs = up.inputs ∧ t3.seq.get c = { q with
          state := .releasing, imp := false, engage := none, cause := .engageTimeout,
          release := some (max s.now due + 1000 * s.items.act.release.get c) })

/-- R82, R85, R87, R88, R90: an engage timer's expiry throws off with ENGAGE_TIMEOUT: to OFF with CNF
inactive, else to RELEASING under the release timer; a release timer's ends at OFF with RELEASE_TIMEOUT; and
the stop dwell timer's throws F off with cause STOP and sets resume-pending with auto-resume. That an expiry
brings the timebase to its instant, that a timer that does not run gives none, and that the value of
ENGAGE_TIMEOUT and RELEASE_TIMEOUT is the item as it stands at the expiry, are the model's choices
(logs 3, 4, 18). -/
def Obligations.SequencerTimersExpire : Prop :=
  ∀ (c : Cyl) (s : State),
    let q := s.seq.get c
    (∀ due, q.engage = some due → q.state = .engaging →
      ∃ t, exec (.engageTimerExpiry c) s = .next t ∧
        t.seq = s.seq.set c (if s.inputs.cnf.get c then { q with
            state := .releasing, imp := false, engage := none, cause := .engageTimeout,
            release := some (max s.now due + 1000 * s.items.act.release.get c) }
          else { q with state := .off, imp := false, engage := none, release := none,
                        cause := .engageTimeout }) ∧
        t.faults = (raise ⟨.engageTimeout, .cyl c, none, s.items.act.engage.get c⟩ s).faults ∧
        t.stopDwell = (if c = Cyl.f then none else s.stopDwell) ∧ t.now = max s.now due ∧
        { t with now := s.now, seq := s.seq, faults := s.faults, stopDwell := s.stopDwell } = s) ∧
    (q.engage = none → exec (.engageTimerExpiry c) s = .next s) ∧
    (∀ due, q.release = some due → q.state = .releasing →
      ∃ t, exec (.releaseTimerExpiry c) s = .next t ∧
        t.seq = s.seq.set c { q with state := .off, imp := false, engage := none, release := none } ∧
        t.faults = (raise ⟨.releaseTimeout, .cyl c, none, s.items.act.release.get c⟩ s).faults ∧
        t.resume = (s.resume && decide (c ≠ Cyl.f)) ∧ t.now = max s.now due ∧
        { t with now := s.now, seq := s.seq, faults := s.faults, resume := s.resume } = s) ∧
    (q.release = none → exec (.releaseTimerExpiry c) s = .next s) ∧
    (∀ due, s.stopDwell = some due → s.seq.f.state = .waitPhase ∨ s.seq.f.state = .engaging ∨
        s.seq.f.state = .on →
      ∃ t, exec .stopDwellExpiry s = .next t ∧
        t.seq = { s.seq with f :=
          if s.seq.f.state ≠ .waitPhase ∧ s.inputs.cnf.f = true then { s.seq.f with
            state := .releasing, imp := false, engage := none, cause := .stop,
            release := some (max s.now due + 1000 * s.items.act.release.f) }
          else { s.seq.f with
            state := .off, imp := false, engage := none, release := none, cause := .stop } } ∧
        t.stopDwell = none ∧ t.resume = s.items.act.autoResume ∧ t.now = max s.now due ∧
        { t with now := s.now, seq := s.seq, stopDwell := s.stopDwell, resume := s.resume,
                 lane := s.lane } = s) ∧
    (s.stopDwell = none → exec .stopDwellExpiry s = .next s)

/-- R83, R84, R88, R89, R121, R183: ENGAGE is refused with NOT_CONFIGURED without a sheet that uses the
cylinder or with the geometry unset, then for F with LANE_FAULT while a lane with a base span is FAULTED;
from OFF it waits for the throw phase on a moving web and throws on at once on a stopped one; thrown on or on
its way it is ALREADY, and releasing it is BUSY. DISENGAGE of F, E or both, addressed or broadcast, throws
off with cause HOST and clears resume-pending of F in every state, and F leaving ON cuts the runs of the
lanes. That ENGAGE and DISENGAGE of E leave resume-pending and the stop dwell timer is the model's choice
(log 19), and the Link Port's own state round a request its reading (logs 5, 6). -/
def Obligations.EngageAndDisengage : Prop :=
  ∀ (c : Cyl) (s : State), Ready s →
    let q := s.seq.get c
    let g := s.items.geo
    let cleared := { s with resume := s.resume && decide (c ≠ Cyl.f) }
    let configured := ∃ sh, s.sheets.active = some sh ∧ sh.params.uses c = true ∧
      g.dF ≠ 0 ∧ g.dFS ≠ 0 ∧ g.dE ≠ 0 ∧ g.dR ≠ 0
    let faulted := c = .f ∧ ∃ l, (s.lane.get l).state = .faulted ∧ s.spans l ≠ []
    let engaged := fun (r : Result) (code : Byte) (t : State) =>
      exec (.engage (cylByte c)) s = .next (answered 0x20 ⟨r, [code]⟩ t)
    let code := BitVec.ofNat 8 (SeqState.code q.state)
    let thrown := fun c => (s.seq.get c).state = .waitPhase ∨ (s.seq.get c).state = .engaging ∨
      (s.seq.get c).state = .on
    let off : Cyl → State → State := fun c s =>
      let q := s.seq.get c
      let s1 : State := { s with resume := s.resume && decide (c ≠ Cyl.f) }
      let releases := q.state != .waitPhase && s.inputs.cnf.get c
      let lanes : PerLane LaneCtl := if c = Cyl.f ∧ q.state = .on then
          s.lane.map (fun _ x => if x.state = .run then endRun x else x)
        else s.lane
      let s2 : State :=
        { s1 with lane := lanes, stopDwell := if c = Cyl.f then none else s.stopDwell }
      if q.state = .off ∨ q.state = .releasing then s1
      else s2.setSeq c { q with
          state := if releases then .releasing else .off, imp := false, engage := none,
          release := if releases then some (s.now + 1000 * s.items.act.release.get c) else none,
          cause := .host }
    (¬ configured → engaged .notConfigured code s) ∧
    (configured → faulted → engaged .laneFault code s) ∧
    (configured → ¬ faulted →
      (q.state = .off → s.web.stopped = false → engaged .pending 1 (cleared.setSeq c { q with
        state := .waitPhase, imp := false, engage := none, release := none })) ∧
      (q.state = .off → s.web.stopped = true → s.inputs.cnf.get c = false → engaged .pending 2
        (cleared.setSeq c { q with state := .engaging, imp := true, release := none,
                                   engage := some (s.now + 1000 * s.items.act.engage.get c) })) ∧
      (q.state = .off → s.web.stopped = true → s.inputs.cnf.get c = true → engaged .pending 3
        (cleared.setSeq c { q with state := .on, imp := true, engage := none, release := none })) ∧
      (thrown c → engaged .already code cleared) ∧
      (q.state = .releasing → engaged .busy 4 s)) ∧
    ∀ (b : Byte) (cs : List Cyl), b = 0 ∧ cs = [.f] ∨ b = 1 ∧ cs = [.e] ∨ b = 2 ∧ cs = [.f, .e] →
      let u := cs.foldl (fun s c => off c s) s
      let codes := [BitVec.ofNat 8 (SeqState.code u.seq.f.state),
        BitVec.ofNat 8 (SeqState.code u.seq.e.state)]
      ((∃ c ∈ cs, thrown c) →
        exec (.disengage b false) s = .next (answered 0x21 ⟨.ok, codes⟩ u)) ∧
      ((∀ c ∈ cs, ¬ thrown c) →
        exec (.disengage b false) s = .next (answered 0x21 ⟨.already, codes⟩ u)) ∧
      exec (.disengage b true) s = .next (heard u)

/-! ## The job sheet and the lanes -/

/-- R97, R104, R105: SHEET PARAM WRITE replaces the staged parameters, each tested against its field
alone; SHEET CLEAR empties the staged sheet, which then fails COMMIT at its first check; SHEET COPY BACK
copies the active sheet, or is refused with NO_SHEET. None touches the pending or the active sheet. The
Link Port's own state round a request is the model's reading (logs 5, 6). -/
def Obligations.StagedSheetRequests : Prop :=
  ∀ s : State, Ready s →
    (∀ (lSub tF tE : BitVec 24) (throwF throwE : BitVec 16) (usesF usesE foil : Bool),
      exec (.sheetParamWrite lSub tF tE throwF throwE
        (BitVec.ofNat 8 (usesF.toNat + 2 * usesE.toNat)) (BitVec.ofNat 8 foil.toNat)) s =
      .next (answered 0x10 ⟨.ok, []⟩ { s with sheets := { s.sheets with staged :=
        { s.sheets.staged with params :=
          { lSub := lSub.toNat, tF := tF.toNat, tE := tE.toNat, throwF := throwF.toNat,
            throwE := throwE.toNat, usesF := usesF, usesE := usesE,
            ref := if foil then .foil else .print } } } })) ∧
    (∀ (lSub tF tE : BitVec 24) (throwF throwE : BitVec 16) (use ref : Byte),
      4 ≤ use.toNat ∨ 2 ≤ ref.toNat →
      exec (.sheetParamWrite lSub tF tE throwF throwE use ref) s =
        .next (answered 0x10 ⟨.badValue, []⟩ s)) ∧
    exec .sheetClear s = .next (answered 0x15 ⟨.ok, []⟩ { s with sheets := { s.sheets with staged :=
      { params := { lSub := 0, tF := 0, tE := 0, throwF := 0, throwE := 0, usesF := false,
                    usesE := false, ref := .print },
        windows := List.replicate 48 none } } }) ∧
    (∀ t, exec .sheetClear s = .next t → commitCheck t.sheets.staged t.items = some (1, 255)) ∧
    (∀ sh, s.sheets.active = some sh → exec .sheetCopyBack s = .next (answered 0x14 ⟨.ok, []⟩
      { s with sheets := { s.sheets with staged :=
        { params := sh.params, windows := sh.windows } } })) ∧
    (s.sheets.active = none → exec .sheetCopyBack s = .next (answered 0x14 ⟨.noSheet, []⟩ s))

/-- R99, R100: WINDOW WRITE stores its good entries in order from the start index and stops at the first
bad entry with BAD_VALUE, or past index 47 with PART; the reply gives the number stored; a start index above
47 is refused, with none stored. An entry is VACANT by its lane byte alone; another is good with a lane 0 to
3, a length above 0, a tag 0 to 15 and an enabled state 0 or 1. The Link Port's own state round a request is
the model's reading (logs 5, 6). -/
def Obligations.WindowWriteStoresPrefix : Prop :=
  (∀ (b : WindowBytes), (b.lane = 255 → entryOf b = some none) ∧
    (∀ l, b.lane = laneByte l → b.length ≠ 0 → b.tag.toNat ≤ 15 → b.enabled.toNat ≤ 1 →
      entryOf b = some (some { lane := l, start := b.start.toNat, length := b.length.toNat,
                               tag := b.tag.toNat, enabled := b.enabled == 1 })) ∧
    (b.lane ≠ 255 → 4 ≤ b.lane.toNat ∨ b.length = 0 ∨ 16 ≤ b.tag.toNat ∨ 2 ≤ b.enabled.toNat →
      entryOf b = none)) ∧
  (∀ (start : Byte) (es : List WindowBytes) (s : State), Ready s → 48 ≤ start.toNat →
    1 ≤ es.length → es.length ≤ 8 →
    exec (.windowWrite start es) s = .next (answered 0x11 ⟨.badValue, [0]⟩ s)) ∧
  ∀ (start : Byte) (good : List (WindowBytes × Option Window)) (rest : List WindowBytes) (s : State),
    Ready s → s.sheets.staged.windows.length = 48 → start.toNat < 48 →
    1 ≤ good.length + rest.length → good.length + rest.length ≤ 8 →
    start.toNat + good.length ≤ 48 → (∀ e ∈ good, entryOf e.1 = some e.2) →
    let t := s.setWindows ((s.sheets.staged.windows.take start.toNat) ++ good.map (·.2) ++
      s.sheets.staged.windows.drop (start.toNat + good.length))
    let cmd := Instr.windowWrite start (good.map (·.1) ++ rest)
    (rest = [] → exec cmd s = .next (answered 0x11 ⟨.ok, natBytes 1 good.length⟩ t)) ∧
    (rest ≠ [] → start.toNat + good.length = 48 →
      exec cmd s = .next (answered 0x11 ⟨.part, natBytes 1 good.length⟩ t)) ∧
    (∀ b more, rest = b :: more → start.toNat + good.length < 48 → entryOf b = none →
      exec cmd s = .next (answered 0x11 ⟨.badValue, natBytes 1 good.length⟩ t))

/-- R102, R103, R182: WINDOW EDIT, with any mask and any conditions, takes every staged window that meets its
three conditions and no other entry. A lane change to VACANT empties it; else the fields that the mask
selects take their new values, but a window that a shift would take out of [0, staged Lc] is left as it was
and counted as skipped; the reply counts the matched, the changed and the skipped. The Link Port's own state
round a request is the model's reading (logs 5, 6). -/
def Obligations.WindowEditChangesMatched : Prop :=
  ∀ (laneC : Option Lane) (tagC : Option Nat) (enabledC : Option Bool) (lane : Option (Option Lane))
    (tag : Option Nat) (enabled : Option Bool) (shift : Option (BitVec 16))
    (newLane newTag newEnabled : Byte) (delta : BitVec 16) (s : State), Ready s →
    (∀ n, tagC = some n → n ≤ 15) → (∀ n, tag = some n → n ≤ 15 ∧ newTag = BitVec.ofNat 8 n) →
    (∀ x, lane = some x → newLane = match x with | some l => laneByte l | none => 255) →
    (∀ b, enabled = some b → newEnabled = BitVec.ofNat 8 b.toNat) →
    (∀ d, shift = some d → delta = d) →
    let mask := BitVec.ofNat 8 (lane.isSome.toNat + 2 * tag.isSome.toNat + 4 * enabled.isSome.toNat +
      8 * shift.isSome.toNat)
    let lc : Int := (s.sheets.staged.params.lSub / 256 : Nat)
    let hit := fun w : Window => laneC.all (w.lane == ·) && tagC.all (w.tag == ·) &&
      enabledC.all (w.enabled == ·)
    let moved := fun w : Window => (w.start : Int) + (shift.map (·.toInt)).getD 0
    let skipped := fun w : Window => lane != some none && shift.isSome &&
      (decide (moved w < 0) || decide (lc < moved w + w.length))
    let edited : Window → Option Window := fun w =>
      if lane = some none then none
      else if skipped w then some w
      else some { w with lane := (lane.join).getD w.lane, tag := tag.getD w.tag,
                         enabled := enabled.getD w.enabled, start := (moved w).toNat }
    let after : Option Window → Option Window := fun e => match e with
      | some w => if hit w then edited w else some w
      | none => none
    let ws := s.sheets.staged.windows
    let count := fun p : Window → Bool => BitVec.ofNat 8 (ws.countP fun e => e.any fun w => hit w && p w)
    exec (.windowEdit ((laneC.map laneByte).getD 254) ((tagC.map (BitVec.ofNat 8 ·)).getD 254)
        ((enabledC.map fun b => BitVec.ofNat 8 b.toNat).getD 254) mask newLane newTag newEnabled delta) s =
      .next (answered 0x13 ⟨.ok, [count fun _ => true, count fun w => edited w != some w,
        count skipped]⟩ (s.setWindows (ws.map after)))

/-- R15, R21, R29, R73, R84, R93, R106, R107, R109, R110, R111, R112, R114, R124, R136: the staged sheet meets the ten checks in their
order, and the first that fails gives its reason code and window index; only a sheet whose parameters and
enabled windows lie within it and its lanes passes; a COMMIT that fails a check is answered SHEET_INVALID; one
of another L_sub on a moving web is refused with RUNNING; a passing one on a moving web with a sheet active
waits as the pending sheet, or supersedes one that waits; one with no sheet active or on a stopped web is in
force at once, and acts on phases, tracker, nudges, sequencers and lanes: the throw-phase event that a new
L_sub or a first sheet fires throws a waiting cylinder on, a cylinder that the sheet does not use throws off
with cause SHEET, a FAULTED lane with a base span in it throws F off, and every lane rebuilds its run list.
Each writes the last commit record, and a broadcast does the same without a reply. The Link Port's own state
round a request is the model's reading (logs 5, 6), and so is that the throw-phase event of such a COMMIT
comes before its throw-off (log 41). -/
def Obligations.CommitOutcomes : Prop :=
  ∀ s : State, Ready s →
    let st := s.sheets.staged
    let g := nextGen s.sheets.lastGen s.sheets.active
    let new : Sheet := ⟨st.params, st.windows, g, compileSpans st.windows⟩
    let both := fun (r : Reply) (u : State) => exec (.commit false) s = .next (answered 0x16 r u) ∧
      exec (.commit true) s = .next (heard u)
    (let p := st.params
      let lc := p.lSub / 256
      let lowest := fun (bad : Window → Prop) (i : Nat) =>
        (∃ w, st.windows[i]? = some (some w) ∧ w.enabled = true ∧ bad w) ∧
        ∀ j, j < i → ∀ w, st.windows[j]? = some (some w) → w.enabled = true → ¬ bad w
      let some_ := fun bad : Window → Prop => ∃ w, some w ∈ st.windows ∧ w.enabled = true ∧ bad w
      let beyond := fun w : Window => lc < w.start + w.length
      let unmapped := fun w : Window => (s.items.lane.get w.lane).drive = none
      let crowded := fun l => 12 < ((compileSpans st.windows).get l).length
      let g := s.items.geo
      let m := s.items.mark
      let fits := m.pwMax < m.gP ∧ (g.dF ≠ 0 → m.gP + m.pwMax < g.dF) ∧
        (g.dF ≠ 0 → (g.dFS ≠ 0 → g.dF < g.dFS) ∧ (g.dE ≠ 0 → g.dF < g.dE) ∧
          (g.dR ≠ 0 → g.dF < g.dR)) ∧
        (g.dFS ≠ 0 → (g.dE ≠ 0 → g.dFS < g.dE ∧ m.gF + m.fwMax + g.dFS < g.dE) ∧
          (g.dR ≠ 0 → g.dFS < g.dR)) ∧
        (g.dE ≠ 0 → g.dR ≠ 0 → g.dE < g.dR) ∧ (g.dR ≠ 0 → g.dR ≤ 31 * lc) ∧
        4 * m.gP ≤ lc ∧ 4 * m.gF ≤ lc
      let fails := fun (reason window : Nat) => commitCheck st s.items = some (reason, window)
      let c1 := p.lSub < 512000 ∨ 16777215 < p.lSub
      let c2 := ¬ c1 ∧ p.tF < p.lSub
      let c3 := c2 ∧ p.tE < p.lSub
      let c4 := c3 ∧ p.throwF < lc
      let c5 := c4 ∧ p.throwE < lc
      let c6 := c5 ∧ ¬ some_ beyond
      let c7 := c6 ∧ ¬ some_ unmapped
      let c8 := c7 ∧ ∀ l, ¬ crowded l
      let c9 := c8 ∧ (p.usesF = true ∨ p.usesE = true)
      (c1 → fails 1 255) ∧ (¬ c1 → p.lSub ≤ p.tF → fails 2 255) ∧
      (c2 → p.lSub ≤ p.tE → fails 3 255) ∧ (c3 → lc ≤ p.throwF → fails 4 255) ∧
      (c4 → lc ≤ p.throwE → fails 5 255) ∧ (c5 → ∀ i, lowest beyond i → fails 6 i) ∧
      (c6 → ∀ i, lowest unmapped i → fails 7 i) ∧
      (c7 → ∀ l, crowded l → (∀ k, Lane.code k < Lane.code l → ¬ crowded k) →
        ∀ i, lowest (fun w => w.lane = l) i → fails 8 i) ∧
      (c8 → p.usesF = false → p.usesE = false → fails 9 255) ∧ (c9 → ¬ fits → fails 10 255) ∧
      (c9 → fits → commitCheck st s.items = none)) ∧
    (commitCheck st s.items = none →
      512000 ≤ st.params.lSub ∧ st.params.lSub ≤ 16777215 ∧ st.params.tF < st.params.lSub ∧
      st.params.tE < st.params.lSub ∧ st.params.throwF < st.params.lSub / 256 ∧
      st.params.throwE < st.params.lSub / 256 ∧ (st.params.usesF = true ∨ st.params.usesE = true) ∧
      ∀ w, some w ∈ st.windows → w.enabled = true →
        w.start + w.length ≤ st.params.lSub / 256 ∧ (s.items.lane.get w.lane).drive ≠ none) ∧
    (g = (if s.sheets.lastGen < 65535 then s.sheets.lastGen + 1 else 1) ∨
      s.sheets.active.map (·.gen) =
        some (if s.sheets.lastGen < 65535 then s.sheets.lastGen + 1 else 1)) ∧
    s.sheets.active.map (·.gen) ≠ some g ∧
    (∀ reason window, commitCheck st s.items = some (reason, window) →
      both ⟨.sheetInvalid, [0, 0] ++ natBytes 1 reason ++ natBytes 1 window⟩
        { s with sheets := { s.sheets with
          lastCommit := some ⟨.sheetInvalid, reason, window, none⟩ } }) ∧
    (∀ a, commitCheck st s.items = none → s.sheets.active = some a →
      a.params.lSub ≠ st.params.lSub → s.web.stopped = false →
      both ⟨.running, [0, 0, 0, 255]⟩
        { s with sheets := { s.sheets with lastCommit := some ⟨.running, 0, 255, none⟩ } }) ∧
    (∀ a, commitCheck st s.items = none → s.sheets.active = some a →
      a.params.lSub = st.params.lSub → s.web.stopped = false →
      let r := if s.sheets.pending.isSome then Result.superseded else .pending
      both ⟨r, natBytes 2 g ++ [0, 255]⟩ { s with sheets := { s.sheets with
        pending := some new, lastGen := g, lastCommit := some ⟨r, 0, 255, some g⟩ } }) ∧
    (commitCheck st s.items = none → s.sheets.active = none ∨ s.web.stopped = true →
      ∃ u, both ⟨.ok, natBytes 2 g ++ [0, 255]⟩ u ∧
        u.sheets = { s.sheets with
          active := some new, pending := none, lastGen := g,
          lastCommit := some ⟨.ok, 0, 255, some g⟩ } ∧
        (∀ c, u.loop.get c = { s.loop.get c with
          nudge := if s.sheets.active.any (fun a => a.params.target c == st.params.target c)
            then (s.loop.get c).nudge else 0 }) ∧
        SwapTaken new (fun c => s.sheets.active.all (fun a => a.params.lSub != st.params.lSub) &&
          (s.phase.get c).phi % st.params.lSub / 256 == st.params.throw c) s u ∧
        (s.sheets.active.any (fun a => a.params.lSub == st.params.lSub) = true →
          u.phase = s.phase ∧ u.tracker = s.tracker) ∧
        (s.sheets.active.any (fun a => a.params.lSub == st.params.lSub) = false →
          ∀ c, u.phase.get c = { s.phase.get c with
            phi := (s.phase.get c).phi % st.params.lSub, hold := 0, missOpen := false,
            armed := (s.phase.get c).phi % st.params.lSub / 256 != st.params.throw c }) ∧
        (s.sheets.active = none → s.tracker.state = .idle → u.tracker =
          if s.items.geo.dF = 0 ∨ s.items.geo.dFS = 0 ∨ s.items.geo.dE = 0 ∨ s.items.geo.dR = 0
          then s.tracker
          else { s.tracker with state := .search, k := 0, coast := 0, waiting := false }) ∧
        (∀ a, s.sheets.active = some a → a.params.lSub ≠ st.params.lSub → u.tracker =
          if s.tracker.state = .idle then s.tracker
          else { s.tracker with
            state := if s.tracker.state = .search then .search else .lost, k := 0 }) ∧
        { u with sheets := s.sheets, loop := s.loop, lane := s.lane, phase := s.phase,
                 tracker := s.tracker, seq := s.seq, stopDwell := s.stopDwell,
                 resume := s.resume } = s)

/-- R130, R137, R139, R140, R156, R184: PARK, RELEASE, ROLL LOAD and LANE CHECK, each in every state of the
lane. That a RELEASE ends park expired with its park is the model's reading (log 26), and so is the Link
Port's own state round a request (logs 5, 6). -/
def Obligations.LaneRequestsByState : Prop :=
  ∀ (l : Lane) (n : BitVec 32) (s : State), Ready s →
    let x := s.lane.get l
    let it := s.items.lane.get l
    let code := BitVec.ofNat 8 (LaneState.code x.state)
    let park := fun (r : Result) (code : Byte) (y : LaneCtl) =>
      exec (.lanePark (laneByte l)) s = .next (answered 0x30 ⟨r, [code]⟩ (s.setLane l y))
    let release := fun (r : Result) (code : Byte) (y : LaneCtl) =>
      exec (.laneRelease (laneByte l)) s = .next (answered 0x31 ⟨r, [code]⟩ (s.setLane l y))
    (x.state = .dwell → park .ok 3 { x with
      state := .parked, parkTimer := 0, parkExpired := false, parkPending := false }) ∧
    (x.state = .run → park .pending 2 { x with parkPending := true }) ∧
    (x.state = .parked ∨ x.state = .check → park .already code x) ∧
    (x.state = .faulted ∨ x.state = .disabled → park .badState code x) ∧
    (x.state = .parked → release (if x.parkExpired then .late else .ok) 1
      { x with state := .dwell, hold := true, parkExpired := false }) ∧
    (x.state = .run → x.parkPending = true → release .ok 2 { x with parkPending := false }) ∧
    (x.state = .run → x.parkPending = false → release .already 2 x) ∧
    (x.state = .dwell → release .already 1 x) ∧
    (x.state = .check → release .busy 4 x) ∧
    (x.state = .faulted → x.foil ≠ 0 → release .ok 1 { x with state := .dwell, hold := true }) ∧
    (x.state = .faulted → x.foil = 0 → release .foilOut 5 x) ∧
    (x.state = .disabled → release .badState 0 x) ∧
    (x.state = .disabled ∨ x.state = .parked ∨ x.state = .faulted →
      exec (.rollLoad (laneByte l) n) s = .next (answered 0x32 ⟨.ok, natBytes 4 n.toNat⟩
        (s.setLane l { x with foil := n.toNat }))) ∧
    (x.state = .dwell ∨ x.state = .run ∨ x.state = .check →
      exec (.rollLoad (laneByte l) n) s = .next (answered 0x32 ⟨.badState, natBytes 4 x.foil⟩ s)) ∧
    (x.state = .parked → s.seq.f.state = .off → exec (.laneCheck (laneByte l)) s =
      .next (answered 0x33 ⟨.pending, [4]⟩ (s.setLane l { x with
        state := .check, check := { done := false, result := .none, steps := 0, pulses := 0 },
        motion := 0, runSteps := 0, checkSteps := it.checkSteps, checkEvery := it.checkInterval,
        checkTimer := some (s.now + it.checkInterval) }))) ∧
    (x.state ≠ .parked ∨ s.seq.f.state ≠ .off → exec (.laneCheck (laneByte l)) s =
      .next (answered 0x33 ⟨.badState, [code]⟩ s))

/-- R128, R131, R132, R133, R134, R135, R141: a motion pulse clears the motion counter and counts in CHECK; an
expiry of the check timer with steps left emits one step on the lane's drive and restarts the timer, and the
one after the last step ends the check in PARKED, PASS if a motion pulse was counted. A step that brings the
foil to the low threshold raises FOIL_LOW; one past the motion window, one that empties the roll, and one due
with no foil left end the check FAIL in FAULTED. The timebase, an expiry of a check timer that does not run,
the tally of pulses on FSTP, the counter of free values, and a park timer at 0 with park expired clear in
FAULTED are the model's (logs 3, 4, 15, 25, 26). -/
def Obligations.MotionAndCheckTimer : Prop :=
  ∀ (l : Lane) (s : State),
    let x := s.lane.get l
    let it := s.items.lane.get l
    (x.state ≠ .check → exec (.motionPulse l) s = .next (s.setLane l { x with motion := 0 })) ∧
    (x.state = .check → exec (.motionPulse l) s = .next (s.setLane l { x with
      motion := 0, check := { x.check with pulses := x.check.pulses + 1 } })) ∧
    (x.checkTimer = none → exec (.checkTimerExpiry l) s = .next s) ∧
    (∀ due, x.state = .check → x.checkTimer = some due → x.checkSteps ≤ x.check.steps →
      exec (.checkTimerExpiry l) s = .next ({ s with now := max s.now due }.setLane l { x with
        state := .parked, checkTimer := none, check := { x.check with
          done := true, result := if x.check.pulses = 0 then .fail else .pass } })) ∧
    (∀ due d, x.state = .check → x.checkTimer = some due → x.check.steps < x.checkSteps →
      it.drive = some d → x.foil ≠ 0 → x.runSteps < 65535 →
      let y := { x with
        checkTimer := some (due + x.checkEvery), foil := x.foil - 1, motion := x.motion + 1,
        runSteps := x.runSteps + 1, check := { x.check with steps := x.check.steps + 1 } }
      let u := { s with
        now := max s.now due, free := s.free + 1,
        drives := s.drives.set d { s.drives.get d with pulses := (s.drives.get d).pulses + 1 }
        }.setLane l y
      let broke := decide (it.window < x.motion + 1)
      let low := it.low != 0 && x.foil == it.low + 1
      (broke = false → x.foil ≠ 1 → exec (.checkTimerExpiry l) s =
        .next (raiseIf low ⟨.foilLow, .lane l, none, it.low⟩ u)) ∧
      (broke = true ∨ x.foil = 1 → ∃ t, exec (.checkTimerExpiry l) s = .next t ∧
        LaneFaults l broke low (x.foil == 1) y u t)) ∧
    (∀ due, x.state = .check → x.checkTimer = some due → x.check.steps < x.checkSteps → x.foil = 0 →
      ∃ t, exec (.checkTimerExpiry l) s = .next t ∧
        LaneFaults l false false true { x with checkTimer := some (due + x.checkEvery) }
          { s with now := max s.now due } t)

/-- R126, R127, R128, R129, R131, R132, R134, R135: a lane in DWELL with its entry hold clear and F ON starts a
run at a count inside a run of its list, with the ratio latched and the counters at 0, and does nothing
elsewhere; the entry hold is cleared only by a count outside every run. A forward count in RUN emits as many
steps as whole units of 65,536 the accumulator and the ratio give, one pulse of the drive and one step of
foil each, and keeps the fraction, so long as no step raises a fault; a step that brings the foil to the low
threshold raises FOIL_LOW and is the count's last; one past the motion window or one that empties the roll
cuts the run in FAULTED, and one due with no foil is not emitted. The run ends only outside its span and
every run of the list with a multiple of 4 steps emitted. The four lanes take a forward count one after the
other (log 10), at the phase count of F that it published (log 9), and one that is neither in DWELL nor in RUN does
nothing at it. Which steps a fault drops, the tally of pulses on FSTP, the counter of free values, and a park
timer at 0 with park expired clear in FAULTED are the model's (logs 14, 15, 16, 25, 26). -/
def Obligations.RunStartsAndStepsByRatio : Prop :=
  (∀ s : State,
     let p := s.phase.f.pub / 256
     lanesCount s = laneCount .l3 p (laneCount .l2 p (laneCount .l1 p (laneCount .l0 p s))) ∧
     ∀ l q, (s.lane.get l).state ≠ .dwell → (s.lane.get l).state ≠ .run → laneCount l q s = s) ∧
  (∀ (l : Lane) (p : Nat) (s : State),
     let x := s.lane.get l
     let inside := fun r : Span => r.start ≤ p ∧ p < r.stop
     x.state = .dwell →
     (∀ r before after, x.runList = before ++ r :: after → inside r → (∀ b ∈ before, ¬ inside b) →
       x.hold = false → s.seq.f.state = .on → laneCount l p s =
         laneRun l p (s.setLane l { x with
           state := .run, run := some r, ratioNow := (s.items.lane.get l).ratio, acc := 0,
           runSteps := 0, motion := 0 })) ∧
     ((∀ r ∈ x.runList, ¬ inside r) → x.hold = false → laneCount l p s = s) ∧
     ((∀ r ∈ x.runList, ¬ inside r) → x.hold = true →
       laneCount l p s = s.setLane l { x with hold := false }) ∧
     ((∃ r ∈ x.runList, inside r) → x.hold = true → laneCount l p s = s) ∧
     (s.seq.f.state ≠ .on → x.hold = false → laneCount l p s = s)) ∧
  (∀ (l : Lane) (d : Drive) (s : State),
    let x := s.lane.get l
    let it := s.items.lane.get l
    let due := (x.acc + x.ratioNow) / 65536
    let stepped := fun n : Nat => { s with
      free := s.free + n,
      drives := s.drives.set d { s.drives.get d with pulses := (s.drives.get d).pulses + n }
      }.setLane l { x with
        acc := (x.acc + x.ratioNow) % 65536, foil := x.foil - n, motion := x.motion + n,
        runSteps := x.runSteps + n, tally := x.tally + n }
    x.state = .run → it.drive = some d → x.runSteps + due ≤ 65535 → x.tally + due ≤ 16777215 →
    (due < x.foil → x.motion + due ≤ it.window →
      it.low = 0 ∨ x.foil ≤ it.low ∨ it.low < x.foil - due → runCount l s = stepped due) ∧
    (∀ n, 1 ≤ n → n ≤ due → it.low ≠ 0 → x.foil = it.low + n → x.motion + n ≤ it.window →
      runCount l s = raise ⟨.foilLow, .lane l, none, it.low⟩ (stepped n)) ∧
    (∀ n, 1 ≤ n → n ≤ due → n ≤ x.foil → it.low = 0 ∨ x.foil ≤ it.low ∨ it.low < x.foil - (n - 1) →
      n = x.foil ∧ x.motion + (n - 1) ≤ it.window ∨ x.motion + n = it.window + 1 ∨
        n = 1 ∧ it.window < x.motion + 1 →
      ∃ t, runCount l s = t ∧ LaneFaults l (decide (it.window < x.motion + n))
        (it.low != 0 && x.foil == it.low + n) (x.foil == n) ((stepped n).lane.get l) (stepped n) t) ∧
    (x.foil = 0 → 1 ≤ due → ∃ t, runCount l s = t ∧
      LaneFaults l false false true ((stepped 0).lane.get l) (stepped 0) t)) ∧
  ∀ (l : Lane) (p : Nat) (s : State),
    let u := runCount l s
    let x := u.lane.get l
    let ends := x.state = .run ∧ (∀ r, x.run = some r → ¬ (r.start ≤ p ∧ p < r.stop)) ∧
      (∀ r ∈ x.runList, ¬ (r.start ≤ p ∧ p < r.stop)) ∧ x.runSteps % 4 = 0
    ((s.lane.get l).state = .run → laneCount l p s = laneRun l p s) ∧
    (ends → laneRun l p s = u.setLane l (if x.parkPending then { x with
        state := .parked, run := none, acc := 0, parkTimer := 0, parkExpired := false,
        parkPending := false }
      else { x with state := .dwell, run := none, acc := 0 })) ∧
    (¬ ends → laneRun l p s = u) ∧
    ((s.lane.get l).state = .run → ((laneRun l p s).lane.get l).state = .run ∨
      ((laneRun l p s).lane.get l).state = .faulted ∨ x.runSteps % 4 = 0)

/-! ## Faults, the link, resets and reports -/

/-- R147, R148, R149, R153: a raise that is not frozen out sets its flag; a record that is invalid or of
lower priority is written anew with the repeat flag clear, one of equal priority only sets its repeat
flag, one of higher priority stands. A raise that is frozen out changes nothing. -/
def Obligations.RaiseLatchesByPriority : Prop :=
  ∀ (r : Raise) (s : State),
    let u := s.faults
    let value := if r.code = .foilLow ∧ 2147483647 < r.value then 2147483647 else r.value
    let fresh : FaultRecord := ⟨r.code, r.source, r.serial, value, s.web.w, false⟩
    let bit := FaultCode.number r.code - 1
    (s.items.freeze = true → u.flags ≠ 0 → raise r s = s) ∧
    (s.items.freeze = false ∨ u.flags = 0 →
      ∃ rec alm, raise r s = { s with faults := { flags := u.flags ||| BitVec.twoPow 12 bit,
                                                  record := some rec, alm := alm } } ∧
        (alm = true ↔ (u.flags ||| BitVec.twoPow 12 bit) &&& s.items.alarmMask ≠ 0) ∧
        (u.record = none → rec = fresh) ∧
        (∀ old, u.record = some old →
          (FaultCode.priority r.code < FaultCode.priority old.code → rec = fresh) ∧
          (FaultCode.priority r.code = FaultCode.priority old.code →
            rec = { old with again := true }) ∧
          (FaultCode.priority old.code < FaultCode.priority r.code → rec = old)))

/-- R155, with R186: FAULT CLEAR clears the flags it names, invalidates the record with option clear, and
re-evaluates the alarm line; a set or an option that does not exist is refused with BAD_VALUE. The Link
Port's own state round the request is the model's reading (logs 5, 6). -/
def Obligations.FaultClearByOption : Prop :=
  ∀ (codes : BitVec 16) (option : Byte) (s : State), Ready s →
    let flags := s.faults.flags &&& ~~~ codes.setWidth 12
    let record := if option = 1 then none else s.faults.record
    (codes.toNat < 4096 → option.toNat ≤ 1 → exec (.faultClear codes option) s =
      .next (answered 0x51 ⟨.ok, natBytes 2 flags.toNat ++ [BitVec.ofNat 8 record.isSome.toNat]⟩
        { s with faults := { flags := flags, record := record,
                             alm := flags &&& s.items.alarmMask != 0 } })) ∧
    (4096 ≤ codes.toNat ∨ 2 ≤ option.toNat → exec (.faultClear codes option) s =
      .next (answered 0x51 ⟨.badValue, natBytes 2 s.faults.flags.toNat ++
        [BitVec.ofNat 8 s.faults.record.isSome.toNat]⟩ s))

/-- R163 to R168: what one good character does to a receiver that is free to receive: LEAD out of HUNT,
the own address or the broadcast address or SKIP out of DEST, LEN, KIND, the body, and the second CHECK
byte of a frame that fails its check. The quiet time starts again with a character and rises only while RXD is
high: it stands from a start bit to its character's end, after a low stop bit until RXD rises, and through a
falling edge that was no start bit, which does not restart it. RXD is not sampled while TXEN is asserted. A
fall and a rise of RXD as operands, the buffer as it is left by WAIT_IDLE, HUNT and SKIP, the half bit time
by which a quiet stretch begins after the command, and the tick are the model's (logs 34, 6, 5, 2). -/
def Obligations.CharacterMovesReceiver : Prop :=
  (∀ (s : State) (parity stop : Bool),
    (s.link.txen = false → exec (.characterReceived .startBit parity stop) s =
      .next { s with link := { s.link with rxBusy := true } }) ∧
    (s.link.txen = false → exec (.characterReceived .lineHigh parity stop) s =
      .next { s with link := { s.link with rxBusy := false } }) ∧
    (s.link.txen = true → exec (.characterReceived .startBit parity stop) s = .next s ∧
      exec (.characterReceived .lineHigh parity stop) s = .next s ∧
      ∀ b, exec (.characterReceived (.byte b) parity stop) s = .next s) ∧
    (s.link.txen = false → ∀ b t, exec (.characterReceived (.byte b) parity stop) s = .next t →
      t.link.quiet = -500000 ∧ t.link.rxBusy = !stop) ∧
    (s.link.rxBusy = true → 0 ≤ s.link.quiet → s.link.tick.quiet = s.link.quiet) ∧
    (s.link.rxBusy = true → s.link.txen = false → s.link.quiet < 0 →
      s.link.tick.quiet = min (s.link.quiet + s.link.baud) 0) ∧
    (s.link.rxBusy = false → s.link.txen = false →
      s.link.tick.quiet = min (s.link.quiet + s.link.baud) 20000000) ∧
    (s.link.rxBusy = true → s.pending = [] → ∀ t, step s = .next t → Instr.idleGap ∉ t.pending)) ∧
  ∀ (b : Byte) (s : State), Ready s →
    let l := { s.link with quiet := -500000, rxBusy := false }
    let sum := l.sum + b.setWidth 16
    let got := exec (.characterReceived (.byte b) (evenParity b) true) s
    (l.rx = .waitIdle ∨ l.rx = .skip → got = .next { s with link := l }) ∧
    (l.rx = .hunt → b = 0xC3 → got = .next { s with link := l.clearBuffer .dest }) ∧
    (l.rx = .hunt → b ≠ 0xC3 → got = .next { s with link := l.clearBuffer .waitIdle }) ∧
    (l.rx = .dest → b = l.own.setWidth 8 → got =
      .next { s with link := { l with dest := b, sum := sum, cls := .addressed, rx := .len } }) ∧
    (l.rx = .dest → b = 0x7F → got =
      .next { s with link := { l with dest := b, sum := sum, cls := .broadcast, rx := .len } }) ∧
    (l.rx = .dest → b ≠ l.own.setWidth 8 → b ≠ 0x7F →
      got = .next { s with link := l.clearBuffer .skip }) ∧
    (l.rx = .len → b.toNat ≤ 250 →
      got = .next { s with link := { l with len := b.toNat, sum := sum, rx := .kind } }) ∧
    (l.rx = .kind → got = .next { s with link := { l with
      kind := b, sum := sum, rx := if l.len = 0 then .check else .body } }) ∧
    (l.rx = .body → got = .next { s with link := { l with
      body := l.body ++ [b], sum := sum,
      rx := if l.body.length + 1 = l.len then .check else .body } }) ∧
    (l.rx = .check → l.checkHi = none → got = .next { s with link := { l with checkHi := some b } }) ∧
    (∀ hi, l.rx = .check → l.checkHi = some hi → hi ++ b ≠ l.sum →
      got = .next { s with link := { l.clearBuffer .waitIdle with
        checkErrors := min (l.checkErrors + 1) 65535 } })

/-- R163, R164, R168: an idle gap takes a waiting receiver to HUNT and cuts off a frame half received;
a bad character or a refused length cuts a frame off into WAIT_IDLE, counted once, where the rest of the
frame passes uncounted. No reply is due and no block changes. A low stop bit leaves RXD low, so the quiet time
waits for it to rise. The Link Port's times after the command, a cut-off outside a frame, the buffer as a
cut-off leaves it, that an idle gap leaves the timebase where it stands, and the mark of an RXD that is not
at rest, which a framing cut-off sets and an idle gap or another cut-off clears, are the model's readings
(logs 5, 4, 6, 3, 34). -/
def Obligations.IdleGapAndCutOff : Prop :=
  ∀ s : State, Listening s →
    let l := { s.link with rxBusy := false }
    let counted := min (l.charErrors + 1) 65535
    (l.rx = .waitIdle ∨ l.rx = .skip → exec .idleGap s =
      .next { s with link := { l.clearBuffer .hunt with quiet := 20000000 } }) ∧
    (l.rx = .waitIdle ∨ l.rx = .skip → ∀ (b : Byte) (parity stop : Bool),
      exec (.characterReceived (.byte b) parity stop) s =
        .next { s with link := { l with quiet := -500000, rxBusy := !stop } }) ∧
    (l.rx = .hunt → exec .idleGap s = .next { s with link := { l with quiet := 20000000 } }) ∧
    (RxState.inFrame l.rx = true →
      exec .idleGap s = .next { s with link :=
        { l.clearBuffer .hunt with quiet := 20000000, charErrors := counted } } ∧
      exec (.frameCutOff .idleGap) s = exec .idleGap s ∧
      exec (.frameCutOff .parity) s = .next { s with link :=
        { l.clearBuffer .waitIdle with quiet := -500000, charErrors := counted } } ∧
      exec (.frameCutOff .framing) s = .next { s with link :=
        { l.clearBuffer .waitIdle with quiet := -500000, charErrors := counted, rxBusy := true } } ∧
      (∀ (b : Byte) (parity : Bool), parity ≠ evenParity b →
        exec (.characterReceived (.byte b) parity true) s = exec (.frameCutOff .parity) s) ∧
      (∀ (b : Byte) (parity : Bool),
        exec (.characterReceived (.byte b) parity false) s = exec (.frameCutOff .framing) s)) ∧
    (l.rx = .hunt → ∀ (b : Byte) (parity stop : Bool), parity ≠ evenParity b ∨ stop = false →
      exec (.characterReceived (.byte b) parity stop) s =
        .next { s with link := { l.clearBuffer .waitIdle with quiet := -500000, rxBusy := !stop } }) ∧
    (l.rx = .len → exec (.frameCutOff .length) s = exec (.frameCutOff .parity) s ∧
      ∀ b : Byte, 250 < b.toNat →
        exec (.characterReceived (.byte b) (evenParity b) true) s = exec (.frameCutOff .parity) s) ∧
    (RxState.inFrame l.rx = false → ∀ cause, exec (.frameCutOff cause) s = .next s)

/-- R17, R34, R55, R76, R81, R96, R117, R145, R160, R162, R174, R187: the RESET input and power-on give the
part right after reset, with the inputs and straps as they stand; only the timebase, the waiting
commands and the model's own free-value counter go on. The pins as an operand, and the values that
`State.reset` gives where the spec has none, are the model's choices (logs 7, 8, 21, 32, 34, 35). -/
def Obligations.FullResetFromPins : Prop :=
  ∀ (p : PinLevels) (s : State),
    exec (.powerOn p) s = exec (.resetInput p) s ∧
    ∃ t, exec (.resetInput p) s = .next t ∧
      t.web = { State.reset.web with encA := p.encA, encB := p.encB, gateEnd := s.now + 4096 } ∧
      t.inputs = { pmark := p.pmark, fmark := p.fmark, cnf := ⟨p.cnfF, p.cnfE⟩,
                   edge := ⟨false, false⟩ } ∧
      t.qual.print = { State.reset.qual.print with
        state := if p.pmark then .discarding else .waiting } ∧
      t.qual.foil = { State.reset.qual.foil with
        state := if p.fmark then .discarding else .waiting } ∧
      t.link.own = p.adr ∧
      t.link.baud = [115200, 230400, 460800, 921600].getD p.bdr.toNat 0 ∧
      { t.link with own := State.reset.link.own, baud := State.reset.link.baud } =
        State.reset.link ∧
      { t with now := 0, web := State.reset.web, inputs := State.reset.inputs,
               qual := State.reset.qual, link := State.reset.link, free := 0, pending := [] } =
        State.reset ∧
      t.now = s.now ∧ t.free = s.free ∧ t.pending = s.pending

/-- R174, R178, R187, with R18, R35, R56, R77, R81, R96, R118, R146, R161: RESTART is answered OK and only
noted; when its reply ends a FULL one resets the part as the RESET input does, with the pins as last seen,
and a RUNTIME one keeps the items, the faults, the staged and the active sheet, the emitted trim and
CONFIG_DEFAULT, and drops the rest of the work. The Link Port's own state round the request, the straps as
operands of REPLY_END and the pins as last seen, the published phase of 0, Q, the qualifiers' latched values,
what a lane keeps of its park, the latched interval of an emitter, the latched ratio, check steps and check
interval of a lane, the timebase as the reply's end leaves it and the speed gate counts from it, the image
after the reply, and RXD at rest at its end are the model's readings (logs 5, 6, 8, 9, 37, 39, 40, 3, 32,
34). -/
def Obligations.RestartTakesEffectAfterReply : Prop :=
  (∀ (level : Byte) (s : State), Ready s →
    (level = 0 → exec (.restart level) s = .next (answered 0x60 ⟨.ok, []⟩
      { s with link := { s.link with restart := some .runtime } })) ∧
    (level = 1 → exec (.restart level) s = .next (answered 0x60 ⟨.ok, []⟩
      { s with link := { s.link with restart := some .full } })) ∧
    (2 ≤ level.toNat → exec (.restart level) s = .next (answered 0x60 ⟨.badValue, []⟩ s))) ∧
  ∀ (adr : BitVec 5) (bdr : BitVec 2) (s : State), s.link.txen = true →
    (s.link.restart = some .full → exec (.replyEnd adr bdr) s = exec (.resetInput
      { encA := s.web.encA, encB := s.web.encB, pmark := s.inputs.pmark, fmark := s.inputs.fmark,
        cnfF := s.inputs.cnf.f, cnfE := s.inputs.cnf.e, adr := adr, bdr := bdr }) s) ∧
    (s.link.restart = some .runtime → ∃ t, exec (.replyEnd adr bdr) s = .next t ∧
      t.web = { s.web with w := 0, dir := .forward, tally := 0, v := 0, stopped := true, speed := 0,
                           gateEnd := s.now + 4096 } ∧
      (∀ c, t.phase.get c = { s.phase.get c with
          phi := 0, pub := 0, hold := 0, armed := true, missOpen := false, missCount := 0,
          indexLost := false } ∧
        t.loop.get c = { s.loop.get c with
          mode := .off, a := (s.loop.get c).a - (s.loop.get c).p, p := 0, run := 0 } ∧
        t.seq.get c = ⟨.off, false, none, none, .none⟩ ∧
        t.emit.get c = { s.emit.get c with
          state := .idle, tstp := false, tdir := .advance, lastStep := none, lastTurn := none }) ∧
      t.qual = ⟨{ s.qual.print with state := if s.inputs.pmark then .discarding else .waiting },
        { s.qual.foil with state := if s.inputs.fmark then .discarding else .waiting }⟩ ∧
      t.track = { s.track with records := [], nip := 0, gate := 0, emboss := 0, marker := 0,
                               gateHeld := false, rej := false } ∧
      t.tracker = { s.tracker with
        state := if s.sheets.active = none ∨ s.items.geo.dF = 0 ∨ s.items.geo.dFS = 0 ∨
            s.items.geo.dE = 0 ∨ s.items.geo.dR = 0 then .idle else .search,
        eSub := 0, k := 0, coast := 0, waiting := false } ∧
      t.sheets = { s.sheets with pending := none } ∧ t.stopDwell = none ∧ t.resume = false ∧
      (∀ l, (t.lane.get l).foil = (s.lane.get l).foil ∧ (t.lane.get l).leads = (s.lane.get l).leads ∧
        (t.lane.get l).run = none ∧ (t.lane.get l).acc = 0 ∧ (t.lane.get l).runSteps = 0 ∧
        (t.lane.get l).motion = 0 ∧ (t.lane.get l).tally = 0 ∧
        (t.lane.get l).lastRev = (s.lane.get l).lastRev ∧
        (t.lane.get l).parkPending = false ∧ (t.lane.get l).checkTimer = none ∧
        (t.lane.get l).runList = (buildRuns (s.spans l) ((s.lane.get l).leads.getD 0 0)
          (s.items.lane.get l).runOut (s.items.lane.get l).minDwell
          ((s.sheets.active.map (·.params.lSub / 256)).getD 0)).1 ∧
        ((s.lane.get l).state = .run ∨ (s.lane.get l).state = .dwell →
          (t.lane.get l).state = .dwell ∧ (t.lane.get l).hold = true) ∧
        ((s.lane.get l).state = .parked ∨ (s.lane.get l).state = .check →
          (t.lane.get l).state = .parked ∧ (t.lane.get l).parkTimer = 0 ∧
            (t.lane.get l).parkExpired = false) ∧
        (t.lane.get l).check = (if (s.lane.get l).state = .check then
          { (s.lane.get l).check with done := true, result := .aborted } else (s.lane.get l).check) ∧
        (t.lane.get l).ratioNow = (s.lane.get l).ratioNow ∧
        (t.lane.get l).checkSteps = (s.lane.get l).checkSteps ∧
        (t.lane.get l).checkEvery = (s.lane.get l).checkEvery ∧
        ((s.lane.get l).state = .faulted → (t.lane.get l).state = .faulted) ∧
        ((s.lane.get l).state = .disabled → (t.lane.get l).state = .disabled)) ∧
      t.link = { s.link with txen := false, txd := [], txLeft := 0, replyPending := false, quiet := 0,
                             rxBusy := false, restart := none } ∧
      t.items = s.items ∧ t.faults = s.faults ∧ t.configDefault = s.configDefault ∧
      t.drives = s.drives ∧ t.inputs = s.inputs ∧ t.now = s.now)

/-- R98, R101, R116, R143, R158, R175, R178, R179, R180, R181, R185, R188 and R52, R74: every read request that
is taken is answered OK from the state as it stands, with each field of its layout at its offset, and changes
nothing but the Link Port; a read of the active sheet or its windows with no sheet active is NO_SHEET. The
Link Port's own state round a request is the model's reading (logs 5, 6); a count of check pulses past its
field is a free value (log 17). -/
def Obligations.ReadsAnswerFromState : Prop :=
  (([.off, .waitPhase, .engaging, .on, .releasing] : List SeqState).map SeqState.code = [0, 1, 2, 3, 4] ∧
    ([.none, .host, .stop, .fault, .sheet, .engageTimeout, .confirmLost] : List ThrowCause).map
      ThrowCause.code = [0, 1, 2, 3, 4, 5, 6] ∧
    ([.idle, .search, .locked, .coast, .lost] : List TrackerState).map TrackerState.code =
      [0, 1, 2, 3, 4] ∧
    ([.disabled, .dwell, .run, .parked, .check, .faulted] : List LaneState).map LaneState.code =
      [0, 1, 2, 3, 4, 5] ∧
    ([.none, .pass, .fail, .aborted] : List CheckResult).map CheckResult.code = [0, 1, 2, 3] ∧
    ([.off, .measure, .auto] : List LoopMode).map LoopMode.code = [0, 1, 2] ∧
    ([.pending, .good, .reject] : List Verdict).map Verdict.code = [0, 1, 2] ∧
    ([none, some .print, some .foil, some .fallback] : List (Option RefUsed)).map refUsedCode =
      [0, 1, 2, 3] ∧
    ([.cyl .f, .cyl .e, .lane .l0, .lane .l1, .lane .l2, .lane .l3, .tracker] :
      List FaultSource).map FaultSource.code = [0, 1, 2, 3, 4, 5, 6] ∧
    ([.foilBreak, .foilOut, .engageTimeout, .releaseTimeout, .confirmLost, .markLost, .indexLost,
      .indexDeviation, .trimLimit, .parkExpired, .registerRun, .foilLow] : List FaultCode).map
      FaultCode.number = [1, 2, 3, 4, 5, 6, 7, 8, 9, 10, 11, 12] ∧
    ([.foilBreak, .foilOut, .engageTimeout, .releaseTimeout, .confirmLost, .markLost, .indexLost,
      .indexDeviation, .trimLimit, .parkExpired, .registerRun, .foilLow] : List FaultCode).map
      FaultCode.priority = [1, 1, 1, 1, 1, 2, 2, 2, 2, 2, 3, 3] ∧
    ([.ok, .pending, .late, .part, .clamped, .already, .superseded, .unknownKind, .badLength, .badValue,
      .badState, .busy, .sheetInvalid, .laneFault, .notConfigured, .running, .duplicate, .noSheet,
      .foilOut] : List Result).map Result.code = [0x00, 0x01, 0x02, 0x03, 0x04, 0x05, 0x06, 0x10, 0x11,
      0x12, 0x13, 0x14, 0x15, 0x16, 0x17, 0x18, 0x19, 0x1A, 0x1B] ∧
    ([none, some .d0, some .d1, some .d2, some .d3] : List (Option Drive)).map mappingCode =
      [255, 0, 1, 2, 3]) ∧
  ∀ (c : Cyl) (l : Lane) (s : State), Ready s →
    let answers := fun (i : Instr) (kind : Nat) (body : List Byte) =>
      exec i s = .next (answered kind ⟨.ok, body⟩ s)
    let num := fun o : Option Nat => ((o.getD 0 : Nat) : Int)
    let params := fun (off : Nat) (p : SheetParams) => [(off, 3, (p.lSub : Int)), (off + 3, 3, (p.tF : Int)),
      (off + 6, 3, (p.tE : Int)), (off + 9, 2, (p.throwF : Int)), (off + 11, 2, (p.throwE : Int)),
      (off + 13, 1, flagByte [p.usesF, p.usesE]), (off + 14, 1, if p.ref = .foil then 1 else 0)]
    let spans := fun (off : Nat) (rs : List Span) => (List.range 12).flatMap fun i =>
      [(off + 4 * i, 2, ((rs.getD i ⟨0, 0⟩).start : Int)),
       (off + 4 * i + 2, 2, ((rs.getD i ⟨0, 0⟩).stop : Int))]
    let entries := fun (off : Nat) (es : List (Option Window)) => (es.zipIdx).flatMap fun (e, i) =>
      [(off + 7 * i, 1, match e with | some w => (Lane.code w.lane : Int) | none => 255),
       (off + 7 * i + 1, 2, num (e.map (·.start))), (off + 7 * i + 3, 2, num (e.map (·.length))),
       (off + 7 * i + 5, 1, num (e.map (·.tag))), (off + 7 * i + 6, 1, num (e.map (·.enabled.toNat)))]
    let record := fun (off : Nat) (r : LabelRecord) => [(off, 2, (r.serial.toNat : Int)),
      (off + 2, 1, flagByte [r.origin == .predicted, r.gen.isSome, r.fOn == some true, r.eF.isSome,
        r.cF.isSome, r.foil.isSome, r.eE.isSome, r.cE.isSome]),
      (off + 3, 4, (r.r.toNat : Int)), (off + 7, 2, num r.width), (off + 9, 2, num r.gen),
      (off + 11, 1, flagByte [r.parked.l0, r.parked.l1, r.parked.l2, r.parked.l3]),
      (off + 12, 4, r.eF.getD 0), (off + 16, 2, r.cF.getD 0),
      (off + 18, 4, num (r.foil.map (·.1.toNat))), (off + 22, 2, (r.foil.map (·.2)).getD 0),
      (off + 24, 4, r.eE.getD 0), (off + 28, 2, r.cE.getD 0),
      (off + 30, 1, (refUsedCode r.refUsed : Int)), (off + 31, 2, (r.reasons.toNat : Int)),
      (off + 33, 1, (Verdict.code r.verdict : Int))]
    let x := s.lane.get l
    let it := s.items.lane.get l
    let lp := s.loop.get c
    let ph := s.phase.get c
    let em := s.emit.get c
    let li := s.items.loop.get c
    let target := s.sheets.active.map fun a => (a.params.target c : Int)
    let live := s.sheets.active.map fun a =>
      ((a.params.target c : Int) + lp.nudge * 256) % a.params.lSub
    (∃ b, answers .statusRead 0x01 b ∧ b.length = 23 ∧ Holds b [
      (0, 1, SeqState.code s.seq.f.state), (1, 1, SeqState.code s.seq.e.state),
      (2, 1, ThrowCause.code s.seq.f.cause), (3, 1, ThrowCause.code s.seq.e.cause),
      (4, 1, TrackerState.code s.tracker.state), (5, 1, s.tracker.coast),
      (6, 1, LaneState.code s.lane.l0.state), (7, 1, LaneState.code s.lane.l1.state),
      (8, 1, LaneState.code s.lane.l2.state), (9, 1, LaneState.code s.lane.l3.state),
      (10, 2, num (s.sheets.active.map (·.gen))), (12, 2, num (s.sheets.pending.map (·.gen))),
      (14, 1, (s.sheets.lastCommit.map (fun r => (Result.code r.result : Int))).getD 255),
      (15, 1, num (s.sheets.lastCommit.map (·.reason))),
      (16, 1, num (s.sheets.lastCommit.map (·.window))),
      (17, 2, num (s.sheets.lastCommit.bind (·.gen))), (19, 1, s.web.speed),
      (20, 1, flagByte [s.web.stopped, s.faults.alm, s.track.rej, s.resume, s.configDefault]),
      (21, 2, s.faults.flags.toNat)]) ∧
    (∀ i, answers (.configRead (itemByte i)) 0x03 (itemByte i :: natBytes 4 (itemValue s.items i))) ∧
    (it.anchors.length = 8 → x.leads.length = 64 → ∃ b, answers (.curveRead (laneByte l)) 0x05 b ∧
      b.length = 145 ∧ Holds b ([(0, 1, (Lane.code l : Int))] ++
        (List.range 8).map (fun i => (1 + 2 * i, 2, (it.anchors.getD i 0 : Int))) ++
        (List.range 64).map (fun i => (17 + 2 * i, 2, (x.leads.getD i 0 : Int))))) ∧
    (∀ start count : Byte, start.toNat < 48 → 1 ≤ count.toNat → count.toNat ≤ 8 →
      let es := (s.sheets.staged.windows.drop start.toNat).take count.toNat
      (∃ b, answers (.windowRead 0 start count) 0x12 b ∧ b.length = 3 + 7 * es.length ∧
        Holds b ([(0, 1, 0), (1, 1, (start.toNat : Int)), (2, 1, (es.length : Int))] ++ entries 3 es)) ∧
      (s.sheets.active = none → exec (.windowRead 1 start count) s =
        .next (answered 0x12 ⟨.noSheet, []⟩ s)) ∧
      ∀ sh, s.sheets.active = some sh →
        let es := (sh.windows.drop start.toNat).take count.toNat
        ∃ b, answers (.windowRead 1 start count) 0x12 b ∧ b.length = 3 + 7 * es.length ∧
          Holds b ([(0, 1, 1), (1, 1, (start.toNat : Int)), (2, 1, (es.length : Int))] ++
            entries 3 es)) ∧
    (∃ b, answers (.sheetParamRead 0) 0x17 b ∧ b.length = 18 ∧
      Holds b ([(0, 1, 0), (1, 2, (0 : Int))] ++ params 3 s.sheets.staged.params)) ∧
    (∀ sh, s.sheets.active = some sh → ∃ b, answers (.sheetParamRead 1) 0x17 b ∧ b.length = 18 ∧
      Holds b ([(0, 1, 1), (1, 2, (sh.gen : Int))] ++ params 3 sh.params)) ∧
    (s.sheets.active = none → exec (.sheetParamRead 1) s =
      .next (answered 0x17 ⟨.noSheet, []⟩ s)) ∧
    (∃ b, answers (.loopRead (cylByte c)) 0x26 b ∧ b.length = 54 ∧ Holds b [
      (0, 1, Cyl.code c), (1, 1, LoopMode.code lp.mode),
      (2, 1, flagByte [s.sheets.active.isSome, lp.lastSerial.isSome, lp.lastErr.isSome,
        lp.lastCorr.isSome]),
      (3, 3, target.getD 0), (6, 2, lp.nudge), (8, 3, live.getD 0), (11, 2, lp.a), (13, 4, lp.p),
      (17, 2, lp.n), (19, 1, lp.run), (20, 2, num (lp.lastSerial.map (·.toNat))),
      (22, 4, lp.lastErr.getD 0), (26, 2, lp.lastCorr.getD 0),
      (28, 1, flagByte [ph.indexLost, s.web.dir == .reverse, em.state != .idle,
        em.tdir == .advance]),
      (29, 4, s.web.w.toNat), (33, 2, s.web.v), (35, 3, ph.phi),
      (38, 1, if (s.items.index.get c).source = .reckon then 1 else 0), (39, 1, ph.missCount),
      (40, 4, ph.lastDev), (44, 1, li.gain), (45, 2, li.deadband), (47, 2, li.slew),
      (49, 2, li.tol), (51, 2, li.amax), (53, 1, li.runLength)]) ∧
    ((s.spans l).length ≤ 12 → x.runList.length ≤ 12 →
      ∃ b, answers (.laneRead (laneByte l)) 0x34 b ∧ b.length = 144 ∧ Holds b ([
        (0, 1, (Lane.code l : Int)), (1, 1, (LaneState.code x.state : Int)),
        (2, 1, (mappingCode it.drive : Int)),
        (3, 1, flagByte [x.hold, x.parkPending, x.parkExpired, x.run.isSome, x.check.done]),
        (4, 1, (x.parkTimer : Int)), (5, 1, (CheckResult.code x.check.result : Int)),
        (6, 2, (x.runSteps : Int)), (8, 2, (x.leads.getD s.web.speed 0 : Int)),
        (10, 4, (x.foil : Int)), (14, 2, (x.motion : Int)), (16, 3, (x.lastRev : Int)),
        (19, 2, (x.check.steps : Int)), (23, 2, num (x.run.map (·.start))),
        (25, 2, num (x.run.map (·.stop))), (27, 1, ((s.spans l).length : Int)),
        (76, 1, (x.runList.length : Int)), (125, 4, (it.ratio : Int)), (129, 2, (it.runOut : Int)),
        (131, 2, (it.minDwell : Int)), (133, 2, (it.window : Int)), (135, 4, (it.low : Int)),
        (139, 1, (it.parkTimeout : Int)), (140, 2, (it.checkSteps : Int)),
        (142, 2, (it.checkInterval : Int))] ++ spans 28 (s.spans l) ++ spans 77 x.runList) ∧
        (x.check.pulses < 65536 → field b 21 2 = x.check.pulses)) ∧
    (∀ (sel : Byte) (serial : BitVec 16) (count : Byte) (from_ : List LabelRecord),
      1 ≤ count.toNat → count.toNat ≤ 6 →
      (sel = 0 ∧ from_ = s.track.records ∨ sel = 1 ∧
        (∃ before, s.track.records = before ++ from_ ∧ (∀ r ∈ before, r.serial ≠ serial) ∧
          ∀ r, from_.head? = some r → r.serial = serial)) →
      let out := from_.take count.toNat
      ∃ b, answers (.trackRead sel serial count) 0x40 b ∧ b.length = 4 + 34 * out.length ∧
        Holds b ([(0, 1, (s.track.records.length : Int)), (1, 2, (s.track.nextSerial.toNat : Int)),
          (3, 1, (out.length : Int))] ++
          (out.zipIdx).flatMap fun (r, i) => record (4 + 34 * i) r)) ∧
    (∃ b, answers .faultRead 0x50 b ∧ b.length = 17 ∧
      Holds b [(0, 2, s.faults.flags.toNat),
        (16, 1, flagByte [s.items.freeze, s.items.freeze && s.faults.flags != 0])] ∧
      (s.faults.record = none → ∀ o, 2 ≤ o → o ≤ 15 → field b o 1 = 0) ∧
      ∀ r, s.faults.record = some r → Holds b [
        (2, 1, flagByte [true, r.again, r.serial.isSome]), (3, 1, FaultCode.priority r.code),
        (4, 1, FaultCode.number r.code), (5, 1, FaultSource.code r.source),
        (6, 2, num (r.serial.map (·.toNat))), (8, 4, r.value), (12, 4, r.w.toNat)]) ∧
    ∃ b, answers .countersRead 0x52 b ∧ b.length = 38 ∧ Holds b [
      (0, 2, s.web.encErrors), (2, 2, s.phase.f.arrivals), (4, 2, s.phase.e.arrivals),
      (6, 2, s.qual.print.rejects), (8, 2, s.qual.print.strays), (10, 2, s.qual.foil.rejects),
      (12, 2, s.qual.foil.strays), (14, 2, s.track.good), (16, 2, s.track.bad),
      (18, 2, s.track.overflow), (20, 2, s.lane.l0.clipped), (22, 2, s.lane.l1.clipped),
      (24, 2, s.lane.l2.clipped), (26, 2, s.lane.l3.clipped), (28, 2, (min (s.link.good + 1) 65535 : Nat)),
      (30, 2, s.link.checkErrors), (32, 2, (afterFrame s.link).charErrors),
      (34, 2, s.link.overlaps), (36, 2, s.link.ignored)]

/-- R48, R186: TRACK FLUSH empties the track and sends the tracker to SEARCH or leaves it IDLE; COUNTERS
CLEAR sets every counter to 0, its own frame's count included. The Link Port's own state round a request is
the model's reading (logs 5, 6). -/
def Obligations.FlushAndCountersClear : Prop :=
  ∀ s : State, Ready s →
    exec .trackFlush s = .next (answered 0x41 ⟨.ok, []⟩ { s with
      track := { s.track with records := [], nip := 0, gate := 0, emboss := 0, marker := 0,
                              gateHeld := false, rej := false },
      tracker := if s.tracker.state = .idle then s.tracker
        else { s.tracker with state := .search, k := 0, coast := 0, waiting := false } }) ∧
    ∃ t, exec .countersClear s = .next t ∧
      t.web = { s.web with encErrors := 0 } ∧
      (∀ c, t.phase.get c = { s.phase.get c with arrivals := 0 }) ∧
      (∀ x, t.qual.get x = { s.qual.get x with rejects := 0, strays := 0 }) ∧
      t.track = { s.track with good := 0, bad := 0, overflow := 0 } ∧
      (∀ l, t.lane.get l = { s.lane.get l with clipped := 0 }) ∧
      t.link = { afterRequest 0x53 ⟨.ok, []⟩ s.link with
        good := 0, checkErrors := 0, charErrors := 0, overlaps := 0, ignored := 0 } ∧
      { t with web := s.web, phase := s.phase, qual := s.qual, track := s.track, lane := s.lane,
               link := s.link } = s

/-- R4, R14, R32, R49, R50, R51, R75, R81, R94, R120, R144, R154, R159, R176, R179: a CONFIG WRITE of a value
outside its item's range is refused with BAD_VALUE, returns the value in force, and changes nothing; so
is one of an unknown item number, with the value 0, and one of a mark or geometry item that would break a
constraint. By the state of the block, an encoder direction on a moving web and a geometry item over records
are BUSY, an Amax below |A| or |N| is BAD_STATE, a mapping with F thrown on is BUSY, one to none with a base
span BAD_STATE, and a drive that serves another lane is DUPLICATE. That a direction out of its range is
BAD_VALUE on a moving web too is the model's reading (log 22), and so are that a mark or geometry item is held
against every constraint with the new value in place, also one that it does not enter (log 28), and the Link
Port's own state round a request (logs 5, 6). -/
def Obligations.ConfigWriteRefused : Prop :=
  ((∀ (i : Item) (v : BitVec 32) (s : State), Ready s → ¬ itemRange i v.toNat →
     exec (writeRow i v) s = .next (answered 0x02
       ⟨.badValue, itemByte i :: natBytes 4 (itemValue s.items i)⟩ s)) ∧
   ∀ (n : Byte) (v : BitVec 32) (s : State), Ready s → itemOfNat n.toNat = none →
     exec (.configWrite n v) s = .next (answered 0x02 ⟨.badValue, [n, 0, 0, 0, 0]⟩ s)) ∧
  ∀ (v : BitVec 32) (s : State), Ready s →
    let refused := fun (i : Item) (r : Result) => exec (writeRow i v) s =
      .next (answered 0x02 ⟨r, itemByte i :: natBytes 4 (itemValue s.items i)⟩ s)
    let active := s.sheets.active.map (·.params)
    (v.toNat ≤ 1 → s.web.stopped = false → refused (.web .encoderDirection) .busy) ∧
    (∀ m, m ≠ .acquireCount → m ≠ .coastLimit →
      let it := (putMark s.items.mark v.toNat m).2
      it.pwMax < it.pwMin ∨ it.fwMax < it.fwMin ∨ constraintsOk s.items.geo it active = false →
      refused (.mark m) .badValue) ∧
    (∀ g, itemRange (.geo g) v.toNat → s.track.records ≠ [] → refused (.geo g) .busy) ∧
    (∀ g, g ≠ .markerWidth → s.track.records = [] →
      constraintsOk (putGeo s.items.geo v.toNat g).2 s.items.mark active = false →
      refused (.geo g) .badValue) ∧
    (∀ c, itemRange (.loop .amax c) v.toNat →
      v.toNat < (s.loop.get c).a.natAbs ∨ v.toNat < (s.loop.get c).n.natAbs →
      refused (.loop .amax c) .badState) ∧
    (∀ l, itemRange (.mapping l) v.toNat →
      (s.lane.get l).state ≠ .disabled ∧ (s.lane.get l).state ≠ .dwell ∨ s.seq.f.state ≠ .off →
      refused (.mapping l) .busy) ∧
    (∀ l, v.toNat = 255 → (s.lane.get l).state = .disabled ∨ (s.lane.get l).state = .dwell →
      s.seq.f.state = .off →
      (∃ sh, (s.sheets.active = some sh ∨ s.sheets.pending = some sh) ∧ sh.spans.get l ≠ []) →
      refused (.mapping l) .badState) ∧
    (∀ l m, m ≠ l → v.toNat ≤ 3 → (s.lane.get l).state = .disabled ∨ (s.lane.get l).state = .dwell →
      s.seq.f.state = .off → mappingCode (s.items.lane.get m).drive = v.toNat →
      refused (.mapping l) .duplicate)

/-- R4, R14, R32, R49, R51, R75, R81, R94, R120, R124, R144, R154, R159, R178, R179: a CONFIG WRITE within its
range, with the state its rule asks for, is answered OK; its item takes the value, every other item keeps its
own, CONFIG_DEFAULT is cleared, and its block follows: a phase source clears the misses, an index gate closes
the miss window, a run length clears the run count, throw-off on stop or auto-resume written clear ends what
waits on it, the alarm line follows its mask. CONFIG_WRITE with a known number is the same write. The Link
Port's own state round a request is the model's reading (logs 5, 6). -/
def Obligations.ConfigWriteTaken : Prop :=
  ∀ (i : Item) (v : BitVec 32) (s : State), Ready s → itemRange i v.toNat →
    (match i with
      | .web .encoderDirection => s.web.stopped = true
      | .mark .acquireCount | .mark .coastLimit => True
      | .mark m =>
        let it := (putMark s.items.mark v.toNat m).2
        it.pwMin ≤ it.pwMax ∧ it.fwMin ≤ it.fwMax ∧
          constraintsOk s.items.geo it (s.sheets.active.map (·.params)) = true
      | .geo .markerWidth => s.track.records = []
      | .geo g => s.track.records = [] ∧ constraintsOk (putGeo s.items.geo v.toNat g).2 s.items.mark
          (s.sheets.active.map (·.params)) = true
      | .loop .amax c => (s.loop.get c).a.natAbs ≤ v.toNat ∧ (s.loop.get c).n.natAbs ≤ v.toNat
      | .mapping l => ((s.lane.get l).state = .disabled ∨ (s.lane.get l).state = .dwell) ∧
          s.seq.f.state = .off ∧ (v.toNat = 255 → spansAnywhere s l = false) ∧
          ∀ m, m ≠ l → v.toNat ≠ 255 → mappingCode (s.items.lane.get m).drive ≠ v.toNat
      | _ => True) →
    ∃ t, exec (writeRow i v) s = .next t ∧ exec (.configWrite (itemByte i) v) s = .next t ∧
      itemValue t.items i = v.toNat ∧ (∀ j, j ≠ i → itemValue t.items j = itemValue s.items j) ∧
      t.configDefault = false ∧
      t.link = afterRequest 0x02 ⟨.ok, itemByte i :: natBytes 4 v.toNat⟩ s.link ∧
      (match i with
        | .index .phaseSource c => t.phase = s.phase.set c { s.phase.get c with
            missCount := 0, indexLost := false, missOpen := false }
        | .index .indexGate c => t.phase = s.phase.set c { s.phase.get c with missOpen := false }
        | .index .missLimit c => t.phase = s.phase.set c { s.phase.get c with missCount := 0 }
        | _ => t.phase = s.phase) ∧
      (match i with
        | .mark .acquireCount => t.tracker = { s.tracker with k := 0 }
        | .geo _ => t.tracker.eSub = s.tracker.eSub
        | _ => t.tracker = s.tracker) ∧
      (match i with
        | .loop .runLength c => t.loop = s.loop.set c { s.loop.get c with run := 0 }
        | _ => t.loop = s.loop) ∧
      t.stopDwell = (if i = .act .throwOffOnStop ∧ v.toNat = 0 then none else s.stopDwell) ∧
      t.resume = (s.resume && !(decide (i = .act .autoResume) && decide (v.toNat = 0))) ∧
      t.faults = (if i = .alarmMask then
        { s.faults with alm := s.faults.flags &&& BitVec.ofNat 12 v.toNat != 0 } else s.faults) ∧
      (match i with
        | .lane .runOut l | .lane .minDwell l => (t.lane.get l).runList =
            (buildRuns (s.spans l) ((s.lane.get l).leads.getD s.web.speed 0)
              (t.items.lane.get l).runOut (t.items.lane.get l).minDwell
              ((s.sheets.active.map (·.params.lSub / 256)).getD 0)).1
        | .mapping _ => True
        | _ => t.lane = s.lane ∧ t.drives = s.drives) ∧
      t.web = s.web ∧ t.track = s.track ∧ t.sheets = s.sheets ∧ t.emit = s.emit ∧
      t.seq = s.seq ∧ t.now = s.now

/-- R120, R122, R180: a mapping given to a DISABLED lane brings it to DWELL with entry hold set and raises
FDIR of the drive; CURVE WRITE stores eight anchors and their 64 leads, and refuses one above 4,095. The
Link Port's own state round a request is the model's reading (logs 5, 6). -/
def Obligations.MappingAndCurveWrite : Prop :=
  ∀ (l : Lane) (s : State), Ready s →
    (∀ (d : Drive), (s.lane.get l).state = .disabled → (s.items.lane.get l).drive = none →
      s.seq.f.state = .off → (∀ m, (s.items.lane.get m).drive ≠ some d) →
      ∃ t, exec (.driveMappingWrite l (BitVec.ofNat 32 (Drive.code d))) s = .next t ∧
        t.lane = s.lane.set l { s.lane.get l with state := .dwell, hold := true } ∧
        t.drives = s.drives.set d { s.drives.get d with fdir := true } ∧
        (t.items.lane.get l).drive = some d ∧
        { t with lane := s.lane, drives := s.drives, items := s.items, link := s.link,
                 configDefault := s.configDefault } = s) ∧
    (∀ as : List (BitVec 16), as.length = 8 → (∀ a ∈ as, a.toNat ≤ 4095) →
      ∃ t, exec (.curveWrite (laneByte l) as) s = .next t ∧
        (t.items.lane.get l).anchors = as.map (·.toNat) ∧ (t.lane.get l).leads.length = 64 ∧
        (∀ i, i < 64 → ((t.lane.get l).leads.getD i 0 : Int) = leadFormula (as.map (·.toNat)) i) ∧
        (∀ m, m ≠ l → t.lane.get m = s.lane.get m ∧ t.items.lane.get m = s.items.lane.get m) ∧
        (t.lane.get l).state = (s.lane.get l).state ∧ (t.lane.get l).run = (s.lane.get l).run ∧
        t.configDefault = false ∧ t.link = afterRequest 0x04 ⟨.ok, []⟩ s.link ∧
        { t with lane := s.lane, items := s.items, link := s.link,
                 configDefault := s.configDefault } = s) ∧
    (∀ as : List (BitVec 16), as.length = 8 → (∃ a ∈ as, 4095 < a.toNat) →
      exec (.curveWrite (laneByte l) as) s = .next (answered 0x04 ⟨.badValue, []⟩ s))
end

