-- ==== Sys2Proof/Laws/State.lean ====
section
/-! SUPPORT. One lemma per field for each update of a part of the state, and the reads of pairs and
quadruples after a write. -/

namespace Sys2Proof.Machine

@[simp] theorem PerCyl.get_set_self {α : Type} (p : PerCyl α) (c : Cyl) (x : α) :
    (p.set c x).get c = x := by cases c <;> rfl

theorem PerCyl.get_set_ne {α : Type} (p : PerCyl α) {c d : Cyl} (x : α) (h : d ≠ c) :
    (p.set c x).get d = p.get d := by cases c <;> cases d <;> first | rfl | exact absurd rfl h

theorem PerCyl.get_set {α : Type} (p : PerCyl α) (c d : Cyl) (x : α) :
    (p.set c x).get d = if d = c then x else p.get d := by cases c <;> cases d <;> rfl

@[simp] theorem PerCyl.set_get_self {α : Type} (p : PerCyl α) (c : Cyl) : p.set c (p.get c) = p := by
  cases c <;> rfl

@[simp] theorem PerCyl.set_set_self {α : Type} (p : PerCyl α) (c : Cyl) (x y : α) :
    (p.set c x).set c y = p.set c y := by cases c <;> rfl

@[simp] theorem PerLane.get_set_self {α : Type} (p : PerLane α) (c : Lane) (x : α) :
    (p.set c x).get c = x := by cases c <;> rfl

theorem PerLane.get_set_ne {α : Type} (p : PerLane α) {c d : Lane} (x : α) (h : d ≠ c) :
    (p.set c x).get d = p.get d := by cases c <;> cases d <;> first | rfl | exact absurd rfl h

theorem PerLane.get_set {α : Type} (p : PerLane α) (c d : Lane) (x : α) :
    (p.set c x).get d = if d = c then x else p.get d := by cases c <;> cases d <;> rfl

@[simp] theorem PerLane.set_get_self {α : Type} (p : PerLane α) (c : Lane) : p.set c (p.get c) = p := by
  cases c <;> rfl

@[simp] theorem PerLane.set_set_self {α : Type} (p : PerLane α) (c : Lane) (x y : α) :
    (p.set c x).set c y = p.set c y := by cases c <;> rfl

@[simp] theorem PerDrive.get_set_self {α : Type} (p : PerDrive α) (c : Drive) (x : α) :
    (p.set c x).get c = x := by cases c <;> rfl

theorem PerDrive.get_set_ne {α : Type} (p : PerDrive α) {c d : Drive} (x : α) (h : d ≠ c) :
    (p.set c x).get d = p.get d := by cases c <;> cases d <;> first | rfl | exact absurd rfl h

theorem PerDrive.get_set {α : Type} (p : PerDrive α) (c d : Drive) (x : α) :
    (p.set c x).get d = if d = c then x else p.get d := by cases c <;> cases d <;> rfl

@[simp] theorem PerDrive.set_get_self {α : Type} (p : PerDrive α) (c : Drive) : p.set c (p.get c) = p := by
  cases c <;> rfl

@[simp] theorem PerDrive.set_set_self {α : Type} (p : PerDrive α) (c : Drive) (x y : α) :
    (p.set c x).set c y = p.set c y := by cases c <;> rfl

@[simp] theorem PerSensor.get_set_self {α : Type} (p : PerSensor α) (c : Sensor) (x : α) :
    (p.set c x).get c = x := by cases c <;> rfl

theorem PerSensor.get_set_ne {α : Type} (p : PerSensor α) {c d : Sensor} (x : α) (h : d ≠ c) :
    (p.set c x).get d = p.get d := by cases c <;> cases d <;> first | rfl | exact absurd rfl h

theorem PerSensor.get_set {α : Type} (p : PerSensor α) (c d : Sensor) (x : α) :
    (p.set c x).get d = if d = c then x else p.get d := by cases c <;> cases d <;> rfl

@[simp] theorem PerSensor.set_get_self {α : Type} (p : PerSensor α) (c : Sensor) : p.set c (p.get c) = p := by
  cases c <;> rfl

@[simp] theorem PerSensor.set_set_self {α : Type} (p : PerSensor α) (c : Sensor) (x y : α) :
    (p.set c x).set c y = p.set c y := by cases c <;> rfl

@[simp] theorem PerLane.get_map {α β : Type} (g : Lane → α → β) (p : PerLane α) (l : Lane) :
    (p.map g).get l = g l (p.get l) := by cases l <;> rfl

theorem PerLane.map_congr {α β : Type} {g h : Lane → α → β} (e : ∀ l x, g l x = h l x)
    (p : PerLane α) : p.map g = p.map h := by simp [PerLane.map, e]

/-- What setPhase leaves. -/
@[simp] theorem setPhase_frame (c : Cyl) (y : Phase) (s : State) :
    (s.setPhase c y).now = s.now ∧ (s.setPhase c y).inputs = s.inputs ∧
    (s.setPhase c y).web = s.web ∧ (s.setPhase c y).qual = s.qual ∧
    (s.setPhase c y).tracker = s.tracker ∧ (s.setPhase c y).track = s.track ∧
    (s.setPhase c y).loop = s.loop ∧ (s.setPhase c y).emit = s.emit ∧
    (s.setPhase c y).seq = s.seq ∧ (s.setPhase c y).stopDwell = s.stopDwell ∧
    (s.setPhase c y).resume = s.resume ∧ (s.setPhase c y).sheets = s.sheets ∧
    (s.setPhase c y).lane = s.lane ∧ (s.setPhase c y).drives = s.drives ∧
    (s.setPhase c y).faults = s.faults ∧ (s.setPhase c y).link = s.link ∧
    (s.setPhase c y).configDefault = s.configDefault ∧ (s.setPhase c y).items = s.items ∧
    (s.setPhase c y).free = s.free ∧ (s.setPhase c y).pending = s.pending := by
  simp [State.setPhase]

@[simp] theorem setPhase_phase (c : Cyl) (y : Phase) (s : State) :
    (s.setPhase c y).phase = s.phase.set c y := rfl

/-- What setLoop leaves. -/
@[simp] theorem setLoop_frame (c : Cyl) (y : Loop) (s : State) :
    (s.setLoop c y).now = s.now ∧ (s.setLoop c y).inputs = s.inputs ∧
    (s.setLoop c y).web = s.web ∧ (s.setLoop c y).phase = s.phase ∧
    (s.setLoop c y).qual = s.qual ∧ (s.setLoop c y).tracker = s.tracker ∧
    (s.setLoop c y).track = s.track ∧ (s.setLoop c y).emit = s.emit ∧
    (s.setLoop c y).seq = s.seq ∧ (s.setLoop c y).stopDwell = s.stopDwell ∧
    (s.setLoop c y).resume = s.resume ∧ (s.setLoop c y).sheets = s.sheets ∧
    (s.setLoop c y).lane = s.lane ∧ (s.setLoop c y).drives = s.drives ∧
    (s.setLoop c y).faults = s.faults ∧ (s.setLoop c y).link = s.link ∧
    (s.setLoop c y).configDefault = s.configDefault ∧ (s.setLoop c y).items = s.items ∧
    (s.setLoop c y).free = s.free ∧ (s.setLoop c y).pending = s.pending := by
  simp [State.setLoop]

@[simp] theorem setLoop_loop (c : Cyl) (y : Loop) (s : State) :
    (s.setLoop c y).loop = s.loop.set c y := rfl

/-- What setEmit leaves. -/
@[simp] theorem setEmit_frame (c : Cyl) (y : Emitter) (s : State) :
    (s.setEmit c y).now = s.now ∧ (s.setEmit c y).inputs = s.inputs ∧
    (s.setEmit c y).web = s.web ∧ (s.setEmit c y).phase = s.phase ∧
    (s.setEmit c y).qual = s.qual ∧ (s.setEmit c y).tracker = s.tracker ∧
    (s.setEmit c y).track = s.track ∧ (s.setEmit c y).loop = s.loop ∧
    (s.setEmit c y).seq = s.seq ∧ (s.setEmit c y).stopDwell = s.stopDwell ∧
    (s.setEmit c y).resume = s.resume ∧ (s.setEmit c y).sheets = s.sheets ∧
    (s.setEmit c y).lane = s.lane ∧ (s.setEmit c y).drives = s.drives ∧
    (s.setEmit c y).faults = s.faults ∧ (s.setEmit c y).link = s.link ∧
    (s.setEmit c y).configDefault = s.configDefault ∧ (s.setEmit c y).items = s.items ∧
    (s.setEmit c y).free = s.free ∧ (s.setEmit c y).pending = s.pending := by
  simp [State.setEmit]

@[simp] theorem setEmit_emit (c : Cyl) (y : Emitter) (s : State) :
    (s.setEmit c y).emit = s.emit.set c y := rfl

/-- What setSeq leaves. -/
@[simp] theorem setSeq_frame (c : Cyl) (y : Sequencer) (s : State) :
    (s.setSeq c y).now = s.now ∧ (s.setSeq c y).inputs = s.inputs ∧ (s.setSeq c y).web = s.web ∧
    (s.setSeq c y).phase = s.phase ∧ (s.setSeq c y).qual = s.qual ∧
    (s.setSeq c y).tracker = s.tracker ∧ (s.setSeq c y).track = s.track ∧
    (s.setSeq c y).loop = s.loop ∧ (s.setSeq c y).emit = s.emit ∧
    (s.setSeq c y).stopDwell = s.stopDwell ∧ (s.setSeq c y).resume = s.resume ∧
    (s.setSeq c y).sheets = s.sheets ∧ (s.setSeq c y).lane = s.lane ∧
    (s.setSeq c y).drives = s.drives ∧ (s.setSeq c y).faults = s.faults ∧
    (s.setSeq c y).link = s.link ∧ (s.setSeq c y).configDefault = s.configDefault ∧
    (s.setSeq c y).items = s.items ∧ (s.setSeq c y).free = s.free ∧
    (s.setSeq c y).pending = s.pending := by
  simp [State.setSeq]

@[simp] theorem setSeq_seq (c : Cyl) (y : Sequencer) (s : State) :
    (s.setSeq c y).seq = s.seq.set c y := rfl

/-- What setLane leaves. -/
@[simp] theorem setLane_frame (l : Lane) (y : LaneCtl) (s : State) :
    (s.setLane l y).now = s.now ∧ (s.setLane l y).inputs = s.inputs ∧
    (s.setLane l y).web = s.web ∧ (s.setLane l y).phase = s.phase ∧
    (s.setLane l y).qual = s.qual ∧ (s.setLane l y).tracker = s.tracker ∧
    (s.setLane l y).track = s.track ∧ (s.setLane l y).loop = s.loop ∧
    (s.setLane l y).emit = s.emit ∧ (s.setLane l y).seq = s.seq ∧
    (s.setLane l y).stopDwell = s.stopDwell ∧ (s.setLane l y).resume = s.resume ∧
    (s.setLane l y).sheets = s.sheets ∧ (s.setLane l y).drives = s.drives ∧
    (s.setLane l y).faults = s.faults ∧ (s.setLane l y).link = s.link ∧
    (s.setLane l y).configDefault = s.configDefault ∧ (s.setLane l y).items = s.items ∧
    (s.setLane l y).free = s.free ∧ (s.setLane l y).pending = s.pending := by
  simp [State.setLane]

@[simp] theorem setLane_lane (l : Lane) (y : LaneCtl) (s : State) :
    (s.setLane l y).lane = s.lane.set l y := rfl

/-- What setQual leaves. -/
@[simp] theorem setQual_frame (x : Sensor) (y : Qual) (s : State) :
    (s.setQual x y).now = s.now ∧ (s.setQual x y).inputs = s.inputs ∧
    (s.setQual x y).web = s.web ∧ (s.setQual x y).phase = s.phase ∧
    (s.setQual x y).tracker = s.tracker ∧ (s.setQual x y).track = s.track ∧
    (s.setQual x y).loop = s.loop ∧ (s.setQual x y).emit = s.emit ∧ (s.setQual x y).seq = s.seq ∧
    (s.setQual x y).stopDwell = s.stopDwell ∧ (s.setQual x y).resume = s.resume ∧
    (s.setQual x y).sheets = s.sheets ∧ (s.setQual x y).lane = s.lane ∧
    (s.setQual x y).drives = s.drives ∧ (s.setQual x y).faults = s.faults ∧
    (s.setQual x y).link = s.link ∧ (s.setQual x y).configDefault = s.configDefault ∧
    (s.setQual x y).items = s.items ∧ (s.setQual x y).free = s.free ∧
    (s.setQual x y).pending = s.pending := by
  simp [State.setQual]

@[simp] theorem setQual_qual (x : Sensor) (y : Qual) (s : State) :
    (s.setQual x y).qual = s.qual.set x y := rfl

/-- What reachTime leaves. -/
@[simp] theorem reachTime_frame (d : Nat) (s : State) :
    (s.reachTime d).inputs = s.inputs ∧ (s.reachTime d).web = s.web ∧
    (s.reachTime d).phase = s.phase ∧ (s.reachTime d).qual = s.qual ∧
    (s.reachTime d).tracker = s.tracker ∧ (s.reachTime d).track = s.track ∧
    (s.reachTime d).loop = s.loop ∧ (s.reachTime d).emit = s.emit ∧ (s.reachTime d).seq = s.seq ∧
    (s.reachTime d).stopDwell = s.stopDwell ∧ (s.reachTime d).resume = s.resume ∧
    (s.reachTime d).sheets = s.sheets ∧ (s.reachTime d).lane = s.lane ∧
    (s.reachTime d).drives = s.drives ∧ (s.reachTime d).faults = s.faults ∧
    (s.reachTime d).link = s.link ∧ (s.reachTime d).configDefault = s.configDefault ∧
    (s.reachTime d).items = s.items ∧ (s.reachTime d).free = s.free ∧
    (s.reachTime d).pending = s.pending := by
  simp [State.reachTime]

@[simp] theorem reachTime_now (d : Nat) (s : State) : (s.reachTime d).now = max s.now d := rfl

/-- What setConfirm leaves. -/
@[simp] theorem setConfirm_frame (c : Cyl) (high waits : Bool) (s : State) :
    (setConfirm c high waits s).now = s.now ∧ (setConfirm c high waits s).web = s.web ∧
    (setConfirm c high waits s).phase = s.phase ∧ (setConfirm c high waits s).qual = s.qual ∧
    (setConfirm c high waits s).tracker = s.tracker ∧
    (setConfirm c high waits s).track = s.track ∧ (setConfirm c high waits s).loop = s.loop ∧
    (setConfirm c high waits s).emit = s.emit ∧ (setConfirm c high waits s).seq = s.seq ∧
    (setConfirm c high waits s).stopDwell = s.stopDwell ∧
    (setConfirm c high waits s).resume = s.resume ∧
    (setConfirm c high waits s).sheets = s.sheets ∧ (setConfirm c high waits s).lane = s.lane ∧
    (setConfirm c high waits s).drives = s.drives ∧
    (setConfirm c high waits s).faults = s.faults ∧ (setConfirm c high waits s).link = s.link ∧
    (setConfirm c high waits s).configDefault = s.configDefault ∧
    (setConfirm c high waits s).items = s.items ∧ (setConfirm c high waits s).free = s.free ∧
    (setConfirm c high waits s).pending = s.pending := by
  simp [setConfirm]

@[simp] theorem setConfirm_inputs (c : Cyl) (high waits : Bool) (s : State) :
    (setConfirm c high waits s).inputs = { s.inputs with
      cnf := s.inputs.cnf.set c high, edge := s.inputs.edge.set c waits } := rfl

@[simp] theorem changeRecord_track (k : Nat) (g : LabelRecord → LabelRecord) (s : State) :
    (s.changeRecord k g).track = { s.track with records := s.track.records.modify k g } := rfl

end Sys2Proof.Machine
end

