-- ==== Sys2Proof/Laws/LaneFrames.lean ====
section
/-! SUPPORT. What the shared operations of faults, lanes and sequencers leave unchanged. -/

namespace Sys2Proof.Machine

/-- What raise leaves. -/
@[simp] theorem raise_frame (r : Raise) (s : State) :
    (raise r s).now = s.now ∧ (raise r s).inputs = s.inputs ∧ (raise r s).web = s.web ∧
    (raise r s).phase = s.phase ∧ (raise r s).qual = s.qual ∧ (raise r s).tracker = s.tracker ∧
    (raise r s).track = s.track ∧ (raise r s).loop = s.loop ∧ (raise r s).emit = s.emit ∧
    (raise r s).seq = s.seq ∧ (raise r s).stopDwell = s.stopDwell ∧
    (raise r s).resume = s.resume ∧ (raise r s).sheets = s.sheets ∧ (raise r s).lane = s.lane ∧
    (raise r s).drives = s.drives ∧ (raise r s).link = s.link ∧
    (raise r s).configDefault = s.configDefault ∧ (raise r s).items = s.items ∧
    (raise r s).free = s.free ∧ (raise r s).pending = s.pending := by
  simp [raise]

/-- What raiseIf leaves. -/
@[simp] theorem raiseIf_frame (b : Bool) (r : Raise) (s : State) :
    (raiseIf b r s).now = s.now ∧ (raiseIf b r s).inputs = s.inputs ∧
    (raiseIf b r s).web = s.web ∧ (raiseIf b r s).phase = s.phase ∧
    (raiseIf b r s).qual = s.qual ∧ (raiseIf b r s).tracker = s.tracker ∧
    (raiseIf b r s).track = s.track ∧ (raiseIf b r s).loop = s.loop ∧
    (raiseIf b r s).emit = s.emit ∧ (raiseIf b r s).seq = s.seq ∧
    (raiseIf b r s).stopDwell = s.stopDwell ∧ (raiseIf b r s).resume = s.resume ∧
    (raiseIf b r s).sheets = s.sheets ∧ (raiseIf b r s).lane = s.lane ∧
    (raiseIf b r s).drives = s.drives ∧ (raiseIf b r s).link = s.link ∧
    (raiseIf b r s).configDefault = s.configDefault ∧ (raiseIf b r s).items = s.items ∧
    (raiseIf b r s).free = s.free ∧ (raiseIf b r s).pending = s.pending := by
  cases b <;> simp [raiseIf]

/-- What reevalAlarm leaves. -/
@[simp] theorem reevalAlarm_frame (s : State) :
    (reevalAlarm s).now = s.now ∧ (reevalAlarm s).inputs = s.inputs ∧
    (reevalAlarm s).web = s.web ∧ (reevalAlarm s).phase = s.phase ∧
    (reevalAlarm s).qual = s.qual ∧ (reevalAlarm s).tracker = s.tracker ∧
    (reevalAlarm s).track = s.track ∧ (reevalAlarm s).loop = s.loop ∧
    (reevalAlarm s).emit = s.emit ∧ (reevalAlarm s).seq = s.seq ∧
    (reevalAlarm s).stopDwell = s.stopDwell ∧ (reevalAlarm s).resume = s.resume ∧
    (reevalAlarm s).sheets = s.sheets ∧ (reevalAlarm s).lane = s.lane ∧
    (reevalAlarm s).drives = s.drives ∧ (reevalAlarm s).link = s.link ∧
    (reevalAlarm s).configDefault = s.configDefault ∧ (reevalAlarm s).items = s.items ∧
    (reevalAlarm s).free = s.free ∧ (reevalAlarm s).pending = s.pending := by
  simp [reevalAlarm]

/-- What rebuildLane leaves. -/
@[simp] theorem rebuildLane_frame (l : Lane) (s : State) :
    (rebuildLane l s).now = s.now ∧ (rebuildLane l s).inputs = s.inputs ∧
    (rebuildLane l s).web = s.web ∧ (rebuildLane l s).phase = s.phase ∧
    (rebuildLane l s).qual = s.qual ∧ (rebuildLane l s).tracker = s.tracker ∧
    (rebuildLane l s).track = s.track ∧ (rebuildLane l s).loop = s.loop ∧
    (rebuildLane l s).emit = s.emit ∧ (rebuildLane l s).seq = s.seq ∧
    (rebuildLane l s).stopDwell = s.stopDwell ∧ (rebuildLane l s).resume = s.resume ∧
    (rebuildLane l s).sheets = s.sheets ∧ (rebuildLane l s).drives = s.drives ∧
    (rebuildLane l s).faults = s.faults ∧ (rebuildLane l s).link = s.link ∧
    (rebuildLane l s).configDefault = s.configDefault ∧ (rebuildLane l s).items = s.items ∧
    (rebuildLane l s).free = s.free ∧ (rebuildLane l s).pending = s.pending := by
  simp [rebuildLane]

/-- What rebuildAll leaves. -/
@[simp] theorem rebuildAll_frame (s : State) :
    (rebuildAll s).now = s.now ∧ (rebuildAll s).inputs = s.inputs ∧ (rebuildAll s).web = s.web ∧
    (rebuildAll s).phase = s.phase ∧ (rebuildAll s).qual = s.qual ∧
    (rebuildAll s).tracker = s.tracker ∧ (rebuildAll s).track = s.track ∧
    (rebuildAll s).loop = s.loop ∧ (rebuildAll s).emit = s.emit ∧ (rebuildAll s).seq = s.seq ∧
    (rebuildAll s).stopDwell = s.stopDwell ∧ (rebuildAll s).resume = s.resume ∧
    (rebuildAll s).sheets = s.sheets ∧ (rebuildAll s).drives = s.drives ∧
    (rebuildAll s).faults = s.faults ∧ (rebuildAll s).link = s.link ∧
    (rebuildAll s).configDefault = s.configDefault ∧ (rebuildAll s).items = s.items ∧
    (rebuildAll s).free = s.free ∧ (rebuildAll s).pending = s.pending := by
  simp [rebuildAll]

/-- What cutRuns leaves. -/
@[simp] theorem cutRuns_frame (s : State) :
    (cutRuns s).now = s.now ∧ (cutRuns s).inputs = s.inputs ∧ (cutRuns s).web = s.web ∧
    (cutRuns s).phase = s.phase ∧ (cutRuns s).qual = s.qual ∧ (cutRuns s).tracker = s.tracker ∧
    (cutRuns s).track = s.track ∧ (cutRuns s).loop = s.loop ∧ (cutRuns s).emit = s.emit ∧
    (cutRuns s).seq = s.seq ∧ (cutRuns s).stopDwell = s.stopDwell ∧
    (cutRuns s).resume = s.resume ∧ (cutRuns s).sheets = s.sheets ∧
    (cutRuns s).drives = s.drives ∧ (cutRuns s).faults = s.faults ∧ (cutRuns s).link = s.link ∧
    (cutRuns s).configDefault = s.configDefault ∧ (cutRuns s).items = s.items ∧
    (cutRuns s).free = s.free ∧ (cutRuns s).pending = s.pending := by
  simp [cutRuns]

/-- What laneBoundary leaves. -/
@[simp] theorem laneBoundary_frame (l : Lane) (s : State) :
    (laneBoundary l s).now = s.now ∧ (laneBoundary l s).inputs = s.inputs ∧
    (laneBoundary l s).web = s.web ∧ (laneBoundary l s).phase = s.phase ∧
    (laneBoundary l s).qual = s.qual ∧ (laneBoundary l s).tracker = s.tracker ∧
    (laneBoundary l s).track = s.track ∧ (laneBoundary l s).loop = s.loop ∧
    (laneBoundary l s).emit = s.emit ∧ (laneBoundary l s).seq = s.seq ∧
    (laneBoundary l s).stopDwell = s.stopDwell ∧ (laneBoundary l s).resume = s.resume ∧
    (laneBoundary l s).sheets = s.sheets ∧ (laneBoundary l s).drives = s.drives ∧
    (laneBoundary l s).link = s.link ∧ (laneBoundary l s).configDefault = s.configDefault ∧
    (laneBoundary l s).items = s.items ∧ (laneBoundary l s).free = s.free ∧
    (laneBoundary l s).pending = s.pending := by
  simp [laneBoundary]

/-- What lanesBoundary leaves. -/
@[simp] theorem lanesBoundary_frame (s : State) :
    (lanesBoundary s).now = s.now ∧ (lanesBoundary s).inputs = s.inputs ∧
    (lanesBoundary s).web = s.web ∧ (lanesBoundary s).phase = s.phase ∧
    (lanesBoundary s).qual = s.qual ∧ (lanesBoundary s).tracker = s.tracker ∧
    (lanesBoundary s).track = s.track ∧ (lanesBoundary s).loop = s.loop ∧
    (lanesBoundary s).emit = s.emit ∧ (lanesBoundary s).seq = s.seq ∧
    (lanesBoundary s).stopDwell = s.stopDwell ∧ (lanesBoundary s).resume = s.resume ∧
    (lanesBoundary s).sheets = s.sheets ∧ (lanesBoundary s).drives = s.drives ∧
    (lanesBoundary s).link = s.link ∧ (lanesBoundary s).configDefault = s.configDefault ∧
    (lanesBoundary s).items = s.items ∧ (lanesBoundary s).free = s.free ∧
    (lanesBoundary s).pending = s.pending := by
  simp [lanesBoundary]

/-- What seqTo leaves. -/
@[simp] theorem seqTo_frame (c : Cyl) (st : SeqState) (s : State) :
    (seqTo c st s).now = s.now ∧ (seqTo c st s).inputs = s.inputs ∧ (seqTo c st s).web = s.web ∧
    (seqTo c st s).phase = s.phase ∧ (seqTo c st s).qual = s.qual ∧
    (seqTo c st s).tracker = s.tracker ∧ (seqTo c st s).track = s.track ∧
    (seqTo c st s).loop = s.loop ∧ (seqTo c st s).emit = s.emit ∧
    (seqTo c st s).stopDwell = s.stopDwell ∧ (seqTo c st s).resume = s.resume ∧
    (seqTo c st s).sheets = s.sheets ∧ (seqTo c st s).drives = s.drives ∧
    (seqTo c st s).faults = s.faults ∧ (seqTo c st s).link = s.link ∧
    (seqTo c st s).configDefault = s.configDefault ∧ (seqTo c st s).items = s.items ∧
    (seqTo c st s).free = s.free ∧ (seqTo c st s).pending = s.pending := by
  unfold seqTo; dsimp only; split <;> simp

/-- What enterEngaging leaves. -/
@[simp] theorem enterEngaging_frame (c : Cyl) (s : State) :
    (enterEngaging c s).now = s.now ∧ (enterEngaging c s).inputs = s.inputs ∧
    (enterEngaging c s).web = s.web ∧ (enterEngaging c s).phase = s.phase ∧
    (enterEngaging c s).qual = s.qual ∧ (enterEngaging c s).tracker = s.tracker ∧
    (enterEngaging c s).track = s.track ∧ (enterEngaging c s).loop = s.loop ∧
    (enterEngaging c s).emit = s.emit ∧ (enterEngaging c s).stopDwell = s.stopDwell ∧
    (enterEngaging c s).resume = s.resume ∧ (enterEngaging c s).sheets = s.sheets ∧
    (enterEngaging c s).drives = s.drives ∧ (enterEngaging c s).faults = s.faults ∧
    (enterEngaging c s).link = s.link ∧ (enterEngaging c s).configDefault = s.configDefault ∧
    (enterEngaging c s).items = s.items ∧ (enterEngaging c s).free = s.free ∧
    (enterEngaging c s).pending = s.pending := by
  unfold enterEngaging; dsimp only; split <;> simp

/-- What enterReleasing leaves. -/
@[simp] theorem enterReleasing_frame (c : Cyl) (s : State) :
    (enterReleasing c s).now = s.now ∧ (enterReleasing c s).inputs = s.inputs ∧
    (enterReleasing c s).web = s.web ∧ (enterReleasing c s).phase = s.phase ∧
    (enterReleasing c s).qual = s.qual ∧ (enterReleasing c s).tracker = s.tracker ∧
    (enterReleasing c s).track = s.track ∧ (enterReleasing c s).loop = s.loop ∧
    (enterReleasing c s).emit = s.emit ∧ (enterReleasing c s).stopDwell = s.stopDwell ∧
    (enterReleasing c s).resume = s.resume ∧ (enterReleasing c s).sheets = s.sheets ∧
    (enterReleasing c s).drives = s.drives ∧ (enterReleasing c s).faults = s.faults ∧
    (enterReleasing c s).link = s.link ∧ (enterReleasing c s).configDefault = s.configDefault ∧
    (enterReleasing c s).items = s.items ∧ (enterReleasing c s).free = s.free ∧
    (enterReleasing c s).pending = s.pending := by
  unfold enterReleasing; dsimp only; split <;> simp

/-- What setCause leaves. -/
@[simp] theorem setCause_frame (c : Cyl) (x : ThrowCause) (s : State) :
    (setCause c x s).now = s.now ∧ (setCause c x s).inputs = s.inputs ∧
    (setCause c x s).web = s.web ∧ (setCause c x s).phase = s.phase ∧
    (setCause c x s).qual = s.qual ∧ (setCause c x s).tracker = s.tracker ∧
    (setCause c x s).track = s.track ∧ (setCause c x s).loop = s.loop ∧
    (setCause c x s).emit = s.emit ∧ (setCause c x s).stopDwell = s.stopDwell ∧
    (setCause c x s).resume = s.resume ∧ (setCause c x s).sheets = s.sheets ∧
    (setCause c x s).lane = s.lane ∧ (setCause c x s).drives = s.drives ∧
    (setCause c x s).faults = s.faults ∧ (setCause c x s).link = s.link ∧
    (setCause c x s).configDefault = s.configDefault ∧ (setCause c x s).items = s.items ∧
    (setCause c x s).free = s.free ∧ (setCause c x s).pending = s.pending := by
  simp [setCause]

/-- What dropDwell leaves. -/
@[simp] theorem dropDwell_frame (c : Cyl) (s : State) :
    (dropDwell c s).now = s.now ∧ (dropDwell c s).inputs = s.inputs ∧
    (dropDwell c s).web = s.web ∧ (dropDwell c s).phase = s.phase ∧
    (dropDwell c s).qual = s.qual ∧ (dropDwell c s).tracker = s.tracker ∧
    (dropDwell c s).track = s.track ∧ (dropDwell c s).loop = s.loop ∧
    (dropDwell c s).emit = s.emit ∧ (dropDwell c s).seq = s.seq ∧
    (dropDwell c s).sheets = s.sheets ∧ (dropDwell c s).lane = s.lane ∧
    (dropDwell c s).drives = s.drives ∧ (dropDwell c s).faults = s.faults ∧
    (dropDwell c s).link = s.link ∧ (dropDwell c s).configDefault = s.configDefault ∧
    (dropDwell c s).items = s.items ∧ (dropDwell c s).free = s.free ∧
    (dropDwell c s).pending = s.pending := by
  unfold dropDwell; split <;> simp

/-- What clearResume leaves. -/
@[simp] theorem clearResume_frame (c : Cyl) (s : State) :
    (clearResume c s).now = s.now ∧ (clearResume c s).inputs = s.inputs ∧
    (clearResume c s).web = s.web ∧ (clearResume c s).phase = s.phase ∧
    (clearResume c s).qual = s.qual ∧ (clearResume c s).tracker = s.tracker ∧
    (clearResume c s).track = s.track ∧ (clearResume c s).loop = s.loop ∧
    (clearResume c s).emit = s.emit ∧ (clearResume c s).seq = s.seq ∧
    (clearResume c s).stopDwell = s.stopDwell ∧ (clearResume c s).sheets = s.sheets ∧
    (clearResume c s).lane = s.lane ∧ (clearResume c s).drives = s.drives ∧
    (clearResume c s).faults = s.faults ∧ (clearResume c s).link = s.link ∧
    (clearResume c s).configDefault = s.configDefault ∧ (clearResume c s).items = s.items ∧
    (clearResume c s).free = s.free ∧ (clearResume c s).pending = s.pending := by
  unfold clearResume; split <;> simp

/-- What throwOff leaves. -/
@[simp] theorem throwOff_frame (c : Cyl) (x : ThrowCause) (s : State) :
    (throwOff c x s).now = s.now ∧ (throwOff c x s).inputs = s.inputs ∧
    (throwOff c x s).web = s.web ∧ (throwOff c x s).phase = s.phase ∧
    (throwOff c x s).qual = s.qual ∧ (throwOff c x s).tracker = s.tracker ∧
    (throwOff c x s).track = s.track ∧ (throwOff c x s).loop = s.loop ∧
    (throwOff c x s).emit = s.emit ∧ (throwOff c x s).sheets = s.sheets ∧
    (throwOff c x s).drives = s.drives ∧ (throwOff c x s).faults = s.faults ∧
    (throwOff c x s).link = s.link ∧ (throwOff c x s).configDefault = s.configDefault ∧
    (throwOff c x s).items = s.items ∧ (throwOff c x s).free = s.free ∧
    (throwOff c x s).pending = s.pending := by
  unfold throwOff; split <;> simp

/-- What throwPhaseEvent leaves. -/
@[simp] theorem throwPhaseEvent_frame (c : Cyl) (s : State) :
    (throwPhaseEvent c s).now = s.now ∧ (throwPhaseEvent c s).inputs = s.inputs ∧
    (throwPhaseEvent c s).web = s.web ∧ (throwPhaseEvent c s).phase = s.phase ∧
    (throwPhaseEvent c s).qual = s.qual ∧ (throwPhaseEvent c s).tracker = s.tracker ∧
    (throwPhaseEvent c s).track = s.track ∧ (throwPhaseEvent c s).loop = s.loop ∧
    (throwPhaseEvent c s).emit = s.emit ∧ (throwPhaseEvent c s).stopDwell = s.stopDwell ∧
    (throwPhaseEvent c s).resume = s.resume ∧ (throwPhaseEvent c s).sheets = s.sheets ∧
    (throwPhaseEvent c s).drives = s.drives ∧ (throwPhaseEvent c s).faults = s.faults ∧
    (throwPhaseEvent c s).link = s.link ∧ (throwPhaseEvent c s).configDefault = s.configDefault ∧
    (throwPhaseEvent c s).items = s.items ∧ (throwPhaseEvent c s).free = s.free ∧
    (throwPhaseEvent c s).pending = s.pending := by
  unfold throwPhaseEvent; split <;> simp

/-- What laneOrder leaves. -/
@[simp] theorem laneOrder_frame (s : State) :
    (laneOrder s).now = s.now ∧ (laneOrder s).inputs = s.inputs ∧ (laneOrder s).web = s.web ∧
    (laneOrder s).phase = s.phase ∧ (laneOrder s).qual = s.qual ∧
    (laneOrder s).tracker = s.tracker ∧ (laneOrder s).track = s.track ∧
    (laneOrder s).loop = s.loop ∧ (laneOrder s).emit = s.emit ∧ (laneOrder s).sheets = s.sheets ∧
    (laneOrder s).drives = s.drives ∧ (laneOrder s).faults = s.faults ∧
    (laneOrder s).link = s.link ∧ (laneOrder s).configDefault = s.configDefault ∧
    (laneOrder s).items = s.items ∧ (laneOrder s).free = s.free ∧
    (laneOrder s).pending = s.pending := by
  simp [laneOrder]

/-- What engageCyl leaves. -/
@[simp] theorem engageCyl_frame (c : Cyl) (s : State) :
    ((engageCyl c s).1).now = s.now ∧ ((engageCyl c s).1).inputs = s.inputs ∧
    ((engageCyl c s).1).web = s.web ∧ ((engageCyl c s).1).phase = s.phase ∧
    ((engageCyl c s).1).qual = s.qual ∧ ((engageCyl c s).1).tracker = s.tracker ∧
    ((engageCyl c s).1).track = s.track ∧ ((engageCyl c s).1).loop = s.loop ∧
    ((engageCyl c s).1).emit = s.emit ∧ ((engageCyl c s).1).stopDwell = s.stopDwell ∧
    ((engageCyl c s).1).sheets = s.sheets ∧ ((engageCyl c s).1).drives = s.drives ∧
    ((engageCyl c s).1).faults = s.faults ∧ ((engageCyl c s).1).link = s.link ∧
    ((engageCyl c s).1).configDefault = s.configDefault ∧ ((engageCyl c s).1).items = s.items ∧
    ((engageCyl c s).1).free = s.free ∧ ((engageCyl c s).1).pending = s.pending := by
  unfold engageCyl; dsimp only; (repeat' split) <;> simp

/-- What stopThrowOff leaves. -/
@[simp] theorem stopThrowOff_frame (s : State) :
    (stopThrowOff s).now = s.now ∧ (stopThrowOff s).inputs = s.inputs ∧
    (stopThrowOff s).web = s.web ∧ (stopThrowOff s).phase = s.phase ∧
    (stopThrowOff s).qual = s.qual ∧ (stopThrowOff s).tracker = s.tracker ∧
    (stopThrowOff s).track = s.track ∧ (stopThrowOff s).loop = s.loop ∧
    (stopThrowOff s).emit = s.emit ∧ (stopThrowOff s).sheets = s.sheets ∧
    (stopThrowOff s).drives = s.drives ∧ (stopThrowOff s).faults = s.faults ∧
    (stopThrowOff s).link = s.link ∧ (stopThrowOff s).configDefault = s.configDefault ∧
    (stopThrowOff s).items = s.items ∧ (stopThrowOff s).free = s.free ∧
    (stopThrowOff s).pending = s.pending := by
  unfold stopThrowOff; dsimp only; split <;> simp

/-- What startDwell leaves. -/
@[simp] theorem startDwell_frame (st : SeqState) (s : State) :
    (startDwell st s).now = s.now ∧ (startDwell st s).inputs = s.inputs ∧
    (startDwell st s).web = s.web ∧ (startDwell st s).phase = s.phase ∧
    (startDwell st s).qual = s.qual ∧ (startDwell st s).tracker = s.tracker ∧
    (startDwell st s).track = s.track ∧ (startDwell st s).loop = s.loop ∧
    (startDwell st s).emit = s.emit ∧ (startDwell st s).sheets = s.sheets ∧
    (startDwell st s).drives = s.drives ∧ (startDwell st s).faults = s.faults ∧
    (startDwell st s).link = s.link ∧ (startDwell st s).configDefault = s.configDefault ∧
    (startDwell st s).items = s.items ∧ (startDwell st s).free = s.free ∧
    (startDwell st s).pending = s.pending := by
  unfold startDwell; (repeat' split) <;> simp

/-- What resumeEngage leaves. -/
@[simp] theorem resumeEngage_frame (s : State) :
    (resumeEngage s).now = s.now ∧ (resumeEngage s).inputs = s.inputs ∧
    (resumeEngage s).web = s.web ∧ (resumeEngage s).phase = s.phase ∧
    (resumeEngage s).qual = s.qual ∧ (resumeEngage s).tracker = s.tracker ∧
    (resumeEngage s).track = s.track ∧ (resumeEngage s).loop = s.loop ∧
    (resumeEngage s).emit = s.emit ∧ (resumeEngage s).stopDwell = s.stopDwell ∧
    (resumeEngage s).sheets = s.sheets ∧ (resumeEngage s).drives = s.drives ∧
    (resumeEngage s).faults = s.faults ∧ (resumeEngage s).link = s.link ∧
    (resumeEngage s).configDefault = s.configDefault ∧ (resumeEngage s).items = s.items ∧
    (resumeEngage s).free = s.free ∧ (resumeEngage s).pending = s.pending := by
  unfold resumeEngage; split <;> simp

/-- What gateEndSeqs leaves. -/
@[simp] theorem gateEndSeqs_frame (b : Bool) (s : State) :
    (gateEndSeqs b s).now = s.now ∧ (gateEndSeqs b s).inputs = s.inputs ∧
    (gateEndSeqs b s).web = s.web ∧ (gateEndSeqs b s).phase = s.phase ∧
    (gateEndSeqs b s).qual = s.qual ∧ (gateEndSeqs b s).tracker = s.tracker ∧
    (gateEndSeqs b s).track = s.track ∧ (gateEndSeqs b s).loop = s.loop ∧
    (gateEndSeqs b s).emit = s.emit ∧ (gateEndSeqs b s).sheets = s.sheets ∧
    (gateEndSeqs b s).drives = s.drives ∧ (gateEndSeqs b s).faults = s.faults ∧
    (gateEndSeqs b s).link = s.link ∧ (gateEndSeqs b s).configDefault = s.configDefault ∧
    (gateEndSeqs b s).items = s.items ∧ (gateEndSeqs b s).free = s.free ∧
    (gateEndSeqs b s).pending = s.pending := by
  unfold gateEndSeqs; (repeat' split) <;> simp

/-- What enterFaulted leaves. -/
@[simp] theorem enterFaulted_frame (l : Lane) (b low out : Bool) (s : State) :
    (enterFaulted l b low out s).now = s.now ∧ (enterFaulted l b low out s).inputs = s.inputs ∧
    (enterFaulted l b low out s).web = s.web ∧ (enterFaulted l b low out s).phase = s.phase ∧
    (enterFaulted l b low out s).qual = s.qual ∧
    (enterFaulted l b low out s).tracker = s.tracker ∧
    (enterFaulted l b low out s).track = s.track ∧ (enterFaulted l b low out s).loop = s.loop ∧
    (enterFaulted l b low out s).emit = s.emit ∧ (enterFaulted l b low out s).sheets = s.sheets ∧
    (enterFaulted l b low out s).drives = s.drives ∧ (enterFaulted l b low out s).link = s.link ∧
    (enterFaulted l b low out s).configDefault = s.configDefault ∧
    (enterFaulted l b low out s).items = s.items ∧ (enterFaulted l b low out s).free = s.free ∧
    (enterFaulted l b low out s).pending = s.pending := by
  unfold enterFaulted; dsimp only; (repeat' split) <;> simp

/-- What pulseOut leaves. -/
@[simp] theorem pulseOut_frame (l : Lane) (s : State) :
    (pulseOut l s).now = s.now ∧ (pulseOut l s).inputs = s.inputs ∧ (pulseOut l s).web = s.web ∧
    (pulseOut l s).phase = s.phase ∧ (pulseOut l s).qual = s.qual ∧
    (pulseOut l s).tracker = s.tracker ∧ (pulseOut l s).track = s.track ∧
    (pulseOut l s).loop = s.loop ∧ (pulseOut l s).emit = s.emit ∧ (pulseOut l s).seq = s.seq ∧
    (pulseOut l s).stopDwell = s.stopDwell ∧ (pulseOut l s).resume = s.resume ∧
    (pulseOut l s).sheets = s.sheets ∧ (pulseOut l s).lane = s.lane ∧
    (pulseOut l s).faults = s.faults ∧ (pulseOut l s).link = s.link ∧
    (pulseOut l s).configDefault = s.configDefault ∧ (pulseOut l s).items = s.items ∧
    (pulseOut l s).free = s.free ∧ (pulseOut l s).pending = s.pending := by
  unfold pulseOut; split <;> simp

/-- What laneStep leaves. -/
@[simp] theorem laneStep_frame (l : Lane) (s : State) :
    (laneStep l s).now = s.now ∧ (laneStep l s).inputs = s.inputs ∧ (laneStep l s).web = s.web ∧
    (laneStep l s).phase = s.phase ∧ (laneStep l s).qual = s.qual ∧
    (laneStep l s).tracker = s.tracker ∧ (laneStep l s).track = s.track ∧
    (laneStep l s).loop = s.loop ∧ (laneStep l s).emit = s.emit ∧
    (laneStep l s).sheets = s.sheets ∧ (laneStep l s).link = s.link ∧
    (laneStep l s).configDefault = s.configDefault ∧ (laneStep l s).items = s.items ∧
    (laneStep l s).pending = s.pending := by
  unfold laneStep; dsimp only; (repeat' split) <;> simp

/-- What laneSteps leaves. -/
@[simp] theorem laneSteps_frame (l : Lane) (n : Nat) (s : State) :
    (laneSteps l n s).now = s.now ∧ (laneSteps l n s).inputs = s.inputs ∧
    (laneSteps l n s).web = s.web ∧ (laneSteps l n s).phase = s.phase ∧
    (laneSteps l n s).qual = s.qual ∧ (laneSteps l n s).tracker = s.tracker ∧
    (laneSteps l n s).track = s.track ∧ (laneSteps l n s).loop = s.loop ∧
    (laneSteps l n s).emit = s.emit ∧ (laneSteps l n s).sheets = s.sheets ∧
    (laneSteps l n s).link = s.link ∧ (laneSteps l n s).configDefault = s.configDefault ∧
    (laneSteps l n s).items = s.items ∧ (laneSteps l n s).pending = s.pending := by
  induction n generalizing s with
  | zero => simp [laneSteps]
  | succ n ih => unfold laneSteps; (repeat' split) <;> simp [ih]

/-- What runCount leaves. -/
@[simp] theorem runCount_frame (l : Lane) (s : State) :
    (runCount l s).now = s.now ∧ (runCount l s).inputs = s.inputs ∧ (runCount l s).web = s.web ∧
    (runCount l s).phase = s.phase ∧ (runCount l s).qual = s.qual ∧
    (runCount l s).tracker = s.tracker ∧ (runCount l s).track = s.track ∧
    (runCount l s).loop = s.loop ∧ (runCount l s).emit = s.emit ∧
    (runCount l s).sheets = s.sheets ∧ (runCount l s).link = s.link ∧
    (runCount l s).configDefault = s.configDefault ∧ (runCount l s).items = s.items ∧
    (runCount l s).pending = s.pending := by
  simp [runCount]

/-- What laneRun leaves. -/
@[simp] theorem laneRun_frame (l : Lane) (p : Nat) (s : State) :
    (laneRun l p s).now = s.now ∧ (laneRun l p s).inputs = s.inputs ∧
    (laneRun l p s).web = s.web ∧ (laneRun l p s).phase = s.phase ∧
    (laneRun l p s).qual = s.qual ∧ (laneRun l p s).tracker = s.tracker ∧
    (laneRun l p s).track = s.track ∧ (laneRun l p s).loop = s.loop ∧
    (laneRun l p s).emit = s.emit ∧ (laneRun l p s).sheets = s.sheets ∧
    (laneRun l p s).link = s.link ∧ (laneRun l p s).configDefault = s.configDefault ∧
    (laneRun l p s).items = s.items ∧ (laneRun l p s).pending = s.pending := by
  unfold laneRun; dsimp only; split <;> simp

/-- What laneCount leaves. -/
@[simp] theorem laneCount_frame (l : Lane) (p : Nat) (s : State) :
    (laneCount l p s).now = s.now ∧ (laneCount l p s).inputs = s.inputs ∧
    (laneCount l p s).web = s.web ∧ (laneCount l p s).phase = s.phase ∧
    (laneCount l p s).qual = s.qual ∧ (laneCount l p s).tracker = s.tracker ∧
    (laneCount l p s).track = s.track ∧ (laneCount l p s).loop = s.loop ∧
    (laneCount l p s).emit = s.emit ∧ (laneCount l p s).sheets = s.sheets ∧
    (laneCount l p s).link = s.link ∧ (laneCount l p s).configDefault = s.configDefault ∧
    (laneCount l p s).items = s.items ∧ (laneCount l p s).pending = s.pending := by
  unfold laneCount; dsimp only; (repeat' split) <;> simp

/-- What lanesCount leaves. -/
@[simp] theorem lanesCount_frame (s : State) :
    (lanesCount s).now = s.now ∧ (lanesCount s).inputs = s.inputs ∧ (lanesCount s).web = s.web ∧
    (lanesCount s).phase = s.phase ∧ (lanesCount s).qual = s.qual ∧
    (lanesCount s).tracker = s.tracker ∧ (lanesCount s).track = s.track ∧
    (lanesCount s).loop = s.loop ∧ (lanesCount s).emit = s.emit ∧
    (lanesCount s).sheets = s.sheets ∧ (lanesCount s).link = s.link ∧
    (lanesCount s).configDefault = s.configDefault ∧ (lanesCount s).items = s.items ∧
    (lanesCount s).pending = s.pending := by
  simp [lanesCount]

/-- What takeRise leaves. -/
@[simp] theorem takeRise_frame (c : Cyl) (s : State) :
    (takeRise c s).now = s.now ∧ (takeRise c s).inputs = s.inputs ∧ (takeRise c s).web = s.web ∧
    (takeRise c s).phase = s.phase ∧ (takeRise c s).qual = s.qual ∧
    (takeRise c s).tracker = s.tracker ∧ (takeRise c s).track = s.track ∧
    (takeRise c s).loop = s.loop ∧ (takeRise c s).emit = s.emit ∧
    (takeRise c s).sheets = s.sheets ∧ (takeRise c s).drives = s.drives ∧
    (takeRise c s).link = s.link ∧ (takeRise c s).configDefault = s.configDefault ∧
    (takeRise c s).items = s.items ∧ (takeRise c s).free = s.free ∧
    (takeRise c s).pending = s.pending := by
  unfold takeRise; split <;> simp

/-- What takeFall leaves. -/
@[simp] theorem takeFall_frame (c : Cyl) (s : State) :
    (takeFall c s).now = s.now ∧ (takeFall c s).inputs = s.inputs ∧ (takeFall c s).web = s.web ∧
    (takeFall c s).phase = s.phase ∧ (takeFall c s).qual = s.qual ∧
    (takeFall c s).tracker = s.tracker ∧ (takeFall c s).track = s.track ∧
    (takeFall c s).loop = s.loop ∧ (takeFall c s).emit = s.emit ∧
    (takeFall c s).sheets = s.sheets ∧ (takeFall c s).drives = s.drives ∧
    (takeFall c s).link = s.link ∧ (takeFall c s).configDefault = s.configDefault ∧
    (takeFall c s).items = s.items ∧ (takeFall c s).free = s.free ∧
    (takeFall c s).pending = s.pending := by
  unfold takeFall; split <;> simp [confirmLost]

/-- What takeEdge leaves. -/
@[simp] theorem takeEdge_frame (c : Cyl) (s : State) :
    (takeEdge c s).now = s.now ∧ (takeEdge c s).inputs = s.inputs ∧ (takeEdge c s).web = s.web ∧
    (takeEdge c s).phase = s.phase ∧ (takeEdge c s).qual = s.qual ∧
    (takeEdge c s).tracker = s.tracker ∧ (takeEdge c s).track = s.track ∧
    (takeEdge c s).loop = s.loop ∧ (takeEdge c s).emit = s.emit ∧
    (takeEdge c s).sheets = s.sheets ∧ (takeEdge c s).drives = s.drives ∧
    (takeEdge c s).link = s.link ∧ (takeEdge c s).configDefault = s.configDefault ∧
    (takeEdge c s).items = s.items ∧ (takeEdge c s).free = s.free ∧
    (takeEdge c s).pending = s.pending := by
  unfold takeEdge; split <;> simp

/-- What confirmEdge leaves. -/
@[simp] theorem confirmEdge_frame (high : Bool) (x : ConfirmEdge) (s : State) :
    (confirmEdge high x s).now = s.now ∧ (confirmEdge high x s).web = s.web ∧
    (confirmEdge high x s).phase = s.phase ∧ (confirmEdge high x s).qual = s.qual ∧
    (confirmEdge high x s).tracker = s.tracker ∧ (confirmEdge high x s).track = s.track ∧
    (confirmEdge high x s).loop = s.loop ∧ (confirmEdge high x s).emit = s.emit ∧
    (confirmEdge high x s).sheets = s.sheets ∧ (confirmEdge high x s).drives = s.drives ∧
    (confirmEdge high x s).link = s.link ∧
    (confirmEdge high x s).configDefault = s.configDefault ∧
    (confirmEdge high x s).items = s.items ∧ (confirmEdge high x s).free = s.free ∧
    (confirmEdge high x s).pending = s.pending := by
  unfold confirmEdge; dsimp only; (repeat' split) <;> simp

/-- R85, R92: an edge leaves its input at its level, and its wait is what was asked for. -/
@[simp] theorem confirmEdge_inputs (high : Bool) (x : ConfirmEdge) (s : State) :
    (confirmEdge high x s).inputs = { s.inputs with
      cnf := s.inputs.cnf.set x.cyl high, edge := s.inputs.edge.set x.cyl (!x.taken) } := by
  unfold confirmEdge; dsimp only; (repeat' split) <;> simp

/-- R128: with a step that raises FOIL_LOW at hand, the count's stepping is that step alone. -/
theorem laneSteps_low (l : Lane) (n : Nat) (s : State) (h : (s.lane.get l).state = .run)
    (hl : lowNext (s.items.lane.get l) (s.lane.get l) = true) :
    laneSteps l (n + 1) s = laneStep l s := by
  simp [laneSteps, h, hl]

end Sys2Proof.Machine
end

