-- ==== Sys2Proof/Laws/PhaseFrames.lean ====
section
/-! SUPPORT. What the shared operations of swaps, phases and trim leave unchanged. -/

namespace Sys2Proof.Machine

/-- What settleTracker leaves. -/
@[simp] theorem settleTracker_frame (s : State) :
    (settleTracker s).now = s.now ∧ (settleTracker s).inputs = s.inputs ∧
    (settleTracker s).web = s.web ∧ (settleTracker s).phase = s.phase ∧
    (settleTracker s).qual = s.qual ∧ (settleTracker s).track = s.track ∧
    (settleTracker s).loop = s.loop ∧ (settleTracker s).emit = s.emit ∧
    (settleTracker s).seq = s.seq ∧ (settleTracker s).stopDwell = s.stopDwell ∧
    (settleTracker s).resume = s.resume ∧ (settleTracker s).sheets = s.sheets ∧
    (settleTracker s).lane = s.lane ∧ (settleTracker s).drives = s.drives ∧
    (settleTracker s).faults = s.faults ∧ (settleTracker s).link = s.link ∧
    (settleTracker s).configDefault = s.configDefault ∧ (settleTracker s).items = s.items ∧
    (settleTracker s).free = s.free ∧ (settleTracker s).pending = s.pending := by
  unfold settleTracker; (repeat' split) <;> simp

/-- What swapTracker leaves. -/
@[simp] theorem swapTracker_frame (a b : Bool) (s : State) :
    (swapTracker a b s).now = s.now ∧ (swapTracker a b s).inputs = s.inputs ∧
    (swapTracker a b s).web = s.web ∧ (swapTracker a b s).phase = s.phase ∧
    (swapTracker a b s).qual = s.qual ∧ (swapTracker a b s).track = s.track ∧
    (swapTracker a b s).loop = s.loop ∧ (swapTracker a b s).emit = s.emit ∧
    (swapTracker a b s).seq = s.seq ∧ (swapTracker a b s).stopDwell = s.stopDwell ∧
    (swapTracker a b s).resume = s.resume ∧ (swapTracker a b s).sheets = s.sheets ∧
    (swapTracker a b s).lane = s.lane ∧ (swapTracker a b s).drives = s.drives ∧
    (swapTracker a b s).faults = s.faults ∧ (swapTracker a b s).link = s.link ∧
    (swapTracker a b s).configDefault = s.configDefault ∧ (swapTracker a b s).items = s.items ∧
    (swapTracker a b s).free = s.free ∧ (swapTracker a b s).pending = s.pending := by
  unfold swapTracker; (repeat' split) <;> simp

/-- What swapPhases leaves. -/
@[simp] theorem swapPhases_frame (p : SheetParams) (s : State) :
    (swapPhases p s).now = s.now ∧ (swapPhases p s).inputs = s.inputs ∧
    (swapPhases p s).web = s.web ∧ (swapPhases p s).qual = s.qual ∧
    (swapPhases p s).tracker = s.tracker ∧ (swapPhases p s).track = s.track ∧
    (swapPhases p s).loop = s.loop ∧ (swapPhases p s).emit = s.emit ∧
    (swapPhases p s).stopDwell = s.stopDwell ∧ (swapPhases p s).resume = s.resume ∧
    (swapPhases p s).sheets = s.sheets ∧ (swapPhases p s).drives = s.drives ∧
    (swapPhases p s).faults = s.faults ∧ (swapPhases p s).link = s.link ∧
    (swapPhases p s).configDefault = s.configDefault ∧ (swapPhases p s).items = s.items ∧
    (swapPhases p s).free = s.free ∧ (swapPhases p s).pending = s.pending := by
  unfold swapPhases; dsimp only; (repeat' split) <;> simp

/-- What swapSeq leaves. -/
@[simp] theorem swapSeq_frame (p : SheetParams) (c : Cyl) (s : State) :
    (swapSeq p c s).now = s.now ∧ (swapSeq p c s).inputs = s.inputs ∧
    (swapSeq p c s).web = s.web ∧ (swapSeq p c s).phase = s.phase ∧
    (swapSeq p c s).qual = s.qual ∧ (swapSeq p c s).tracker = s.tracker ∧
    (swapSeq p c s).track = s.track ∧ (swapSeq p c s).loop = s.loop ∧
    (swapSeq p c s).emit = s.emit ∧ (swapSeq p c s).sheets = s.sheets ∧
    (swapSeq p c s).drives = s.drives ∧ (swapSeq p c s).faults = s.faults ∧
    (swapSeq p c s).link = s.link ∧ (swapSeq p c s).configDefault = s.configDefault ∧
    (swapSeq p c s).items = s.items ∧ (swapSeq p c s).free = s.free ∧
    (swapSeq p c s).pending = s.pending := by
  unfold swapSeq; split <;> simp

/-- What swapOrders leaves. -/
@[simp] theorem swapOrders_frame (p : SheetParams) (s : State) :
    (swapOrders p s).now = s.now ∧ (swapOrders p s).inputs = s.inputs ∧
    (swapOrders p s).web = s.web ∧ (swapOrders p s).phase = s.phase ∧
    (swapOrders p s).qual = s.qual ∧ (swapOrders p s).tracker = s.tracker ∧
    (swapOrders p s).track = s.track ∧ (swapOrders p s).loop = s.loop ∧
    (swapOrders p s).emit = s.emit ∧ (swapOrders p s).sheets = s.sheets ∧
    (swapOrders p s).drives = s.drives ∧ (swapOrders p s).faults = s.faults ∧
    (swapOrders p s).link = s.link ∧ (swapOrders p s).configDefault = s.configDefault ∧
    (swapOrders p s).items = s.items ∧ (swapOrders p s).free = s.free ∧
    (swapOrders p s).pending = s.pending := by
  unfold swapOrders; split <;> simp

/-- What swapTo leaves. -/
@[simp] theorem swapTo_frame (sh : Sheet) (s : State) :
    (swapTo sh s).now = s.now ∧ (swapTo sh s).inputs = s.inputs ∧ (swapTo sh s).web = s.web ∧
    (swapTo sh s).qual = s.qual ∧ (swapTo sh s).track = s.track ∧ (swapTo sh s).emit = s.emit ∧
    (swapTo sh s).drives = s.drives ∧ (swapTo sh s).faults = s.faults ∧
    (swapTo sh s).link = s.link ∧ (swapTo sh s).configDefault = s.configDefault ∧
    (swapTo sh s).items = s.items ∧ (swapTo sh s).free = s.free ∧
    (swapTo sh s).pending = s.pending := by
  unfold swapTo; dsimp only; (repeat' split) <;> simp

/-- What swapPending leaves. -/
@[simp] theorem swapPending_frame (s : State) :
    (swapPending s).now = s.now ∧ (swapPending s).inputs = s.inputs ∧
    (swapPending s).web = s.web ∧ (swapPending s).qual = s.qual ∧
    (swapPending s).track = s.track ∧ (swapPending s).emit = s.emit ∧
    (swapPending s).drives = s.drives ∧ (swapPending s).faults = s.faults ∧
    (swapPending s).link = s.link ∧ (swapPending s).configDefault = s.configDefault ∧
    (swapPending s).items = s.items ∧ (swapPending s).free = s.free ∧
    (swapPending s).pending = s.pending := by
  unfold swapPending; split <;> simp

/-- What handBoundary leaves. -/
@[simp] theorem handBoundary_frame (c : Cyl) (s : State) :
    (handBoundary c s).now = s.now ∧ (handBoundary c s).inputs = s.inputs ∧
    (handBoundary c s).web = s.web ∧ (handBoundary c s).qual = s.qual ∧
    (handBoundary c s).track = s.track ∧ (handBoundary c s).emit = s.emit ∧
    (handBoundary c s).drives = s.drives ∧ (handBoundary c s).link = s.link ∧
    (handBoundary c s).configDefault = s.configDefault ∧ (handBoundary c s).items = s.items ∧
    (handBoundary c s).free = s.free ∧ (handBoundary c s).pending = s.pending := by
  cases c <;> simp [handBoundary]

/-- What handStep leaves. -/
@[simp] theorem handStep_frame (c : Cyl) (o : PhaseOut) (s : State) :
    (handStep c o s).now = s.now ∧ (handStep c o s).inputs = s.inputs ∧
    (handStep c o s).web = s.web ∧ (handStep c o s).qual = s.qual ∧
    (handStep c o s).track = s.track ∧ (handStep c o s).emit = s.emit ∧
    (handStep c o s).drives = s.drives ∧ (handStep c o s).link = s.link ∧
    (handStep c o s).configDefault = s.configDefault ∧ (handStep c o s).items = s.items ∧
    (handStep c o s).free = s.free ∧ (handStep c o s).pending = s.pending := by
  unfold handStep; dsimp only; (repeat' split) <;> simp

/-- What stepPhase leaves. -/
@[simp] theorem stepPhase_frame (d : TrimDir) (c : Cyl) (s : State) :
    (stepPhase d c s).now = s.now ∧ (stepPhase d c s).inputs = s.inputs ∧
    (stepPhase d c s).web = s.web ∧ (stepPhase d c s).qual = s.qual ∧
    (stepPhase d c s).track = s.track ∧ (stepPhase d c s).emit = s.emit ∧
    (stepPhase d c s).drives = s.drives ∧ (stepPhase d c s).link = s.link ∧
    (stepPhase d c s).configDefault = s.configDefault ∧ (stepPhase d c s).items = s.items ∧
    (stepPhase d c s).free = s.free ∧ (stepPhase d c s).pending = s.pending := by
  unfold stepPhase; split <;> simp

/-- What stepBoth leaves. -/
@[simp] theorem stepBoth_frame (d : TrimDir) (s : State) :
    (stepBoth d s).now = s.now ∧ (stepBoth d s).inputs = s.inputs ∧ (stepBoth d s).web = s.web ∧
    (stepBoth d s).qual = s.qual ∧ (stepBoth d s).track = s.track ∧
    (stepBoth d s).emit = s.emit ∧ (stepBoth d s).drives = s.drives ∧
    (stepBoth d s).link = s.link ∧ (stepBoth d s).configDefault = s.configDefault ∧
    (stepBoth d s).items = s.items ∧ (stepBoth d s).free = s.free ∧
    (stepBoth d s).pending = s.pending := by
  unfold stepBoth; split <;> simp

/-- What publish leaves. -/
@[simp] theorem publish_frame (s : State) :
    (publish s).now = s.now ∧ (publish s).inputs = s.inputs ∧ (publish s).web = s.web ∧
    (publish s).qual = s.qual ∧ (publish s).tracker = s.tracker ∧ (publish s).track = s.track ∧
    (publish s).loop = s.loop ∧ (publish s).emit = s.emit ∧ (publish s).seq = s.seq ∧
    (publish s).stopDwell = s.stopDwell ∧ (publish s).resume = s.resume ∧
    (publish s).sheets = s.sheets ∧ (publish s).lane = s.lane ∧ (publish s).drives = s.drives ∧
    (publish s).faults = s.faults ∧ (publish s).link = s.link ∧
    (publish s).configDefault = s.configDefault ∧ (publish s).items = s.items ∧
    (publish s).free = s.free ∧ (publish s).pending = s.pending := by
  simp [publish]

/-- What emitPulse leaves. -/
@[simp] theorem emitPulse_frame (c : Cyl) (s : State) :
    (emitPulse c s).now = s.now ∧ (emitPulse c s).inputs = s.inputs ∧
    (emitPulse c s).web = s.web ∧ (emitPulse c s).qual = s.qual ∧
    (emitPulse c s).track = s.track ∧ (emitPulse c s).drives = s.drives ∧
    (emitPulse c s).link = s.link ∧ (emitPulse c s).configDefault = s.configDefault ∧
    (emitPulse c s).items = s.items ∧ (emitPulse c s).free = s.free ∧
    (emitPulse c s).pending = s.pending := by
  simp [emitPulse]

/-- What turnIfNeeded leaves. -/
@[simp] theorem turnIfNeeded_frame (c : Cyl) (s : State) :
    (turnIfNeeded c s).now = s.now ∧ (turnIfNeeded c s).inputs = s.inputs ∧
    (turnIfNeeded c s).web = s.web ∧ (turnIfNeeded c s).phase = s.phase ∧
    (turnIfNeeded c s).qual = s.qual ∧ (turnIfNeeded c s).tracker = s.tracker ∧
    (turnIfNeeded c s).track = s.track ∧ (turnIfNeeded c s).loop = s.loop ∧
    (turnIfNeeded c s).seq = s.seq ∧ (turnIfNeeded c s).stopDwell = s.stopDwell ∧
    (turnIfNeeded c s).resume = s.resume ∧ (turnIfNeeded c s).sheets = s.sheets ∧
    (turnIfNeeded c s).lane = s.lane ∧ (turnIfNeeded c s).drives = s.drives ∧
    (turnIfNeeded c s).faults = s.faults ∧ (turnIfNeeded c s).link = s.link ∧
    (turnIfNeeded c s).configDefault = s.configDefault ∧ (turnIfNeeded c s).items = s.items ∧
    (turnIfNeeded c s).free = s.free ∧ (turnIfNeeded c s).pending = s.pending := by
  unfold turnIfNeeded; dsimp only; split <;> simp

/-- What trimChanged leaves. -/
@[simp] theorem trimChanged_frame (c : Cyl) (s : State) :
    (trimChanged c s).now = s.now ∧ (trimChanged c s).inputs = s.inputs ∧
    (trimChanged c s).web = s.web ∧ (trimChanged c s).qual = s.qual ∧
    (trimChanged c s).track = s.track ∧ (trimChanged c s).drives = s.drives ∧
    (trimChanged c s).link = s.link ∧ (trimChanged c s).configDefault = s.configDefault ∧
    (trimChanged c s).items = s.items ∧ (trimChanged c s).free = s.free ∧
    (trimChanged c s).pending = s.pending := by
  unfold trimChanged; dsimp only; (repeat' split) <;> simp

/-- What changeRecord leaves. -/
@[simp] theorem changeRecord_frame (k : Nat) (g : LabelRecord → LabelRecord) (s : State) :
    (s.changeRecord k g).now = s.now ∧ (s.changeRecord k g).inputs = s.inputs ∧
    (s.changeRecord k g).web = s.web ∧ (s.changeRecord k g).phase = s.phase ∧
    (s.changeRecord k g).qual = s.qual ∧ (s.changeRecord k g).tracker = s.tracker ∧
    (s.changeRecord k g).loop = s.loop ∧ (s.changeRecord k g).emit = s.emit ∧
    (s.changeRecord k g).seq = s.seq ∧ (s.changeRecord k g).stopDwell = s.stopDwell ∧
    (s.changeRecord k g).resume = s.resume ∧ (s.changeRecord k g).sheets = s.sheets ∧
    (s.changeRecord k g).lane = s.lane ∧ (s.changeRecord k g).drives = s.drives ∧
    (s.changeRecord k g).faults = s.faults ∧ (s.changeRecord k g).link = s.link ∧
    (s.changeRecord k g).configDefault = s.configDefault ∧ (s.changeRecord k g).items = s.items ∧
    (s.changeRecord k g).free = s.free ∧ (s.changeRecord k g).pending = s.pending := by
  simp [State.changeRecord]

/-- What commitTrim leaves. -/
@[simp] theorem commitTrim_frame (c : Cyl) (x : Int) (s : State) :
    (commitTrim c x s).now = s.now ∧ (commitTrim c x s).inputs = s.inputs ∧
    (commitTrim c x s).web = s.web ∧ (commitTrim c x s).qual = s.qual ∧
    (commitTrim c x s).track = s.track ∧ (commitTrim c x s).drives = s.drives ∧
    (commitTrim c x s).link = s.link ∧ (commitTrim c x s).configDefault = s.configDefault ∧
    (commitTrim c x s).items = s.items ∧ (commitTrim c x s).free = s.free ∧
    (commitTrim c x s).pending = s.pending := by
  simp [commitTrim]

end Sys2Proof.Machine
end

