-- ==== Sys2Proof/Laws/TrackFrames.lean ====
section
/-! SUPPORT. What the shared operations of the loops, the track and the mark trackers leave unchanged. -/

namespace Sys2Proof.Machine

/-- What correct leaves. -/
@[simp] theorem correct_frame (c : Cyl) (k : Nat) (n : BitVec 16) (e : Int) (s : State) :
    (correct c k n e s).now = s.now ∧ (correct c k n e s).inputs = s.inputs ∧
    (correct c k n e s).web = s.web ∧ (correct c k n e s).qual = s.qual ∧
    (correct c k n e s).drives = s.drives ∧ (correct c k n e s).link = s.link ∧
    (correct c k n e s).configDefault = s.configDefault ∧ (correct c k n e s).items = s.items ∧
    (correct c k n e s).free = s.free ∧ (correct c k n e s).pending = s.pending := by
  simp [correct]

/-- What judge leaves. -/
@[simp] theorem judge_frame (c : Cyl) (k : Nat) (n : BitVec 16) (e : Int) (s : State) :
    (judge c k n e s).now = s.now ∧ (judge c k n e s).inputs = s.inputs ∧
    (judge c k n e s).web = s.web ∧ (judge c k n e s).qual = s.qual ∧
    (judge c k n e s).drives = s.drives ∧ (judge c k n e s).link = s.link ∧
    (judge c k n e s).configDefault = s.configDefault ∧ (judge c k n e s).items = s.items ∧
    (judge c k n e s).free = s.free ∧ (judge c k n e s).pending = s.pending := by
  unfold judge; dsimp only; (repeat' split) <;> simp

/-- What measure leaves. -/
@[simp] theorem measure_frame (c : Cyl) (k : Nat) (r : LabelRecord) (b : Bool) (due : Pos) (s : State) :
    (measure c k r b due s).now = s.now ∧ (measure c k r b due s).inputs = s.inputs ∧
    (measure c k r b due s).web = s.web ∧ (measure c k r b due s).qual = s.qual ∧
    (measure c k r b due s).drives = s.drives ∧ (measure c k r b due s).link = s.link ∧
    (measure c k r b due s).configDefault = s.configDefault ∧
    (measure c k r b due s).items = s.items ∧ (measure c k r b due s).free = s.free ∧
    (measure c k r b due s).pending = s.pending := by
  unfold measure; dsimp only; (repeat' split) <;> simp

/-- What createRecord leaves. -/
@[simp] theorem createRecord_frame (o : Origin) (r : Pos) (w : Option Nat) (s : State) :
    (createRecord o r w s).now = s.now ∧ (createRecord o r w s).inputs = s.inputs ∧
    (createRecord o r w s).web = s.web ∧ (createRecord o r w s).phase = s.phase ∧
    (createRecord o r w s).qual = s.qual ∧ (createRecord o r w s).tracker = s.tracker ∧
    (createRecord o r w s).loop = s.loop ∧ (createRecord o r w s).emit = s.emit ∧
    (createRecord o r w s).seq = s.seq ∧ (createRecord o r w s).stopDwell = s.stopDwell ∧
    (createRecord o r w s).resume = s.resume ∧ (createRecord o r w s).sheets = s.sheets ∧
    (createRecord o r w s).lane = s.lane ∧ (createRecord o r w s).drives = s.drives ∧
    (createRecord o r w s).faults = s.faults ∧ (createRecord o r w s).link = s.link ∧
    (createRecord o r w s).configDefault = s.configDefault ∧
    (createRecord o r w s).items = s.items ∧ (createRecord o r w s).free = s.free ∧
    (createRecord o r w s).pending = s.pending := by
  simp [createRecord]

/-- What nipEvent leaves. -/
@[simp] theorem nipEvent_frame (r : LabelRecord) (s : State) :
    (nipEvent r s).now = s.now ∧ (nipEvent r s).inputs = s.inputs ∧ (nipEvent r s).web = s.web ∧
    (nipEvent r s).qual = s.qual ∧ (nipEvent r s).drives = s.drives ∧
    (nipEvent r s).link = s.link ∧ (nipEvent r s).configDefault = s.configDefault ∧
    (nipEvent r s).items = s.items ∧ (nipEvent r s).free = s.free ∧
    (nipEvent r s).pending = s.pending := by
  simp [nipEvent]

/-- What serveNip leaves. -/
@[simp] theorem serveNip_frame (n : Nat) (s : State) :
    (serveNip n s).now = s.now ∧ (serveNip n s).inputs = s.inputs ∧ (serveNip n s).web = s.web ∧
    (serveNip n s).qual = s.qual ∧ (serveNip n s).drives = s.drives ∧
    (serveNip n s).link = s.link ∧ (serveNip n s).configDefault = s.configDefault ∧
    (serveNip n s).items = s.items ∧ (serveNip n s).free = s.free ∧
    (serveNip n s).pending = s.pending := by
  induction n generalizing s with
  | zero => simp [serveNip]
  | succ n ih => unfold serveNip; (repeat' split) <;> simp [ih]

/-- What gateTaken leaves. -/
@[simp] theorem gateTaken_frame (s : State) :
    (gateTaken s).now = s.now ∧ (gateTaken s).inputs = s.inputs ∧ (gateTaken s).web = s.web ∧
    (gateTaken s).phase = s.phase ∧ (gateTaken s).qual = s.qual ∧
    (gateTaken s).tracker = s.tracker ∧ (gateTaken s).loop = s.loop ∧
    (gateTaken s).emit = s.emit ∧ (gateTaken s).seq = s.seq ∧
    (gateTaken s).stopDwell = s.stopDwell ∧ (gateTaken s).resume = s.resume ∧
    (gateTaken s).sheets = s.sheets ∧ (gateTaken s).lane = s.lane ∧
    (gateTaken s).drives = s.drives ∧ (gateTaken s).faults = s.faults ∧
    (gateTaken s).link = s.link ∧ (gateTaken s).configDefault = s.configDefault ∧
    (gateTaken s).items = s.items ∧ (gateTaken s).free = s.free ∧
    (gateTaken s).pending = s.pending := by
  simp [gateTaken]

/-- What serveGate leaves. -/
@[simp] theorem serveGate_frame (n : Nat) (s : State) :
    (serveGate n s).now = s.now ∧ (serveGate n s).inputs = s.inputs ∧
    (serveGate n s).web = s.web ∧ (serveGate n s).phase = s.phase ∧
    (serveGate n s).qual = s.qual ∧ (serveGate n s).tracker = s.tracker ∧
    (serveGate n s).loop = s.loop ∧ (serveGate n s).emit = s.emit ∧ (serveGate n s).seq = s.seq ∧
    (serveGate n s).stopDwell = s.stopDwell ∧ (serveGate n s).resume = s.resume ∧
    (serveGate n s).sheets = s.sheets ∧ (serveGate n s).lane = s.lane ∧
    (serveGate n s).drives = s.drives ∧ (serveGate n s).faults = s.faults ∧
    (serveGate n s).link = s.link ∧ (serveGate n s).configDefault = s.configDefault ∧
    (serveGate n s).items = s.items ∧ (serveGate n s).free = s.free ∧
    (serveGate n s).pending = s.pending := by
  induction n generalizing s with
  | zero => simp [serveGate]
  | succ n ih => unfold serveGate; (repeat' split) <;> simp [ih]

/-- What embossEvent leaves. -/
@[simp] theorem embossEvent_frame (r : LabelRecord) (s : State) :
    (embossEvent r s).now = s.now ∧ (embossEvent r s).inputs = s.inputs ∧
    (embossEvent r s).web = s.web ∧ (embossEvent r s).qual = s.qual ∧
    (embossEvent r s).drives = s.drives ∧ (embossEvent r s).link = s.link ∧
    (embossEvent r s).configDefault = s.configDefault ∧ (embossEvent r s).items = s.items ∧
    (embossEvent r s).free = s.free ∧ (embossEvent r s).pending = s.pending := by
  simp [embossEvent]

/-- What serveEmboss leaves. -/
@[simp] theorem serveEmboss_frame (n : Nat) (s : State) :
    (serveEmboss n s).now = s.now ∧ (serveEmboss n s).inputs = s.inputs ∧
    (serveEmboss n s).web = s.web ∧ (serveEmboss n s).qual = s.qual ∧
    (serveEmboss n s).drives = s.drives ∧ (serveEmboss n s).link = s.link ∧
    (serveEmboss n s).configDefault = s.configDefault ∧ (serveEmboss n s).items = s.items ∧
    (serveEmboss n s).free = s.free ∧ (serveEmboss n s).pending = s.pending := by
  induction n generalizing s with
  | zero => simp [serveEmboss]
  | succ n ih => unfold serveEmboss; (repeat' split) <;> simp [ih]

/-- What embossByMarker leaves. -/
@[simp] theorem embossByMarker_frame (k : Nat) (r : LabelRecord) (s : State) :
    (embossByMarker k r s).now = s.now ∧ (embossByMarker k r s).inputs = s.inputs ∧
    (embossByMarker k r s).web = s.web ∧ (embossByMarker k r s).qual = s.qual ∧
    (embossByMarker k r s).drives = s.drives ∧ (embossByMarker k r s).link = s.link ∧
    (embossByMarker k r s).configDefault = s.configDefault ∧
    (embossByMarker k r s).items = s.items ∧ (embossByMarker k r s).free = s.free ∧
    (embossByMarker k r s).pending = s.pending := by
  simp [embossByMarker]

/-- What markerEvent leaves. -/
@[simp] theorem markerEvent_frame (r : LabelRecord) (s : State) :
    (markerEvent r s).now = s.now ∧ (markerEvent r s).inputs = s.inputs ∧
    (markerEvent r s).web = s.web ∧ (markerEvent r s).qual = s.qual ∧
    (markerEvent r s).drives = s.drives ∧ (markerEvent r s).link = s.link ∧
    (markerEvent r s).configDefault = s.configDefault ∧ (markerEvent r s).items = s.items ∧
    (markerEvent r s).free = s.free ∧ (markerEvent r s).pending = s.pending := by
  unfold markerEvent; dsimp only; split <;> simp

/-- What serveMarker leaves. -/
@[simp] theorem serveMarker_frame (n : Nat) (s : State) :
    (serveMarker n s).now = s.now ∧ (serveMarker n s).inputs = s.inputs ∧
    (serveMarker n s).web = s.web ∧ (serveMarker n s).qual = s.qual ∧
    (serveMarker n s).drives = s.drives ∧ (serveMarker n s).link = s.link ∧
    (serveMarker n s).configDefault = s.configDefault ∧ (serveMarker n s).items = s.items ∧
    (serveMarker n s).free = s.free ∧ (serveMarker n s).pending = s.pending := by
  induction n generalizing s with
  | zero => simp [serveMarker]
  | succ n ih => unfold serveMarker; (repeat' split) <;> simp [ih]

/-- What serveRemoval leaves. -/
@[simp] theorem serveRemoval_frame (n : Nat) (s : State) :
    (serveRemoval n s).now = s.now ∧ (serveRemoval n s).inputs = s.inputs ∧
    (serveRemoval n s).web = s.web ∧ (serveRemoval n s).phase = s.phase ∧
    (serveRemoval n s).qual = s.qual ∧ (serveRemoval n s).tracker = s.tracker ∧
    (serveRemoval n s).loop = s.loop ∧ (serveRemoval n s).emit = s.emit ∧
    (serveRemoval n s).seq = s.seq ∧ (serveRemoval n s).stopDwell = s.stopDwell ∧
    (serveRemoval n s).resume = s.resume ∧ (serveRemoval n s).sheets = s.sheets ∧
    (serveRemoval n s).lane = s.lane ∧ (serveRemoval n s).drives = s.drives ∧
    (serveRemoval n s).faults = s.faults ∧ (serveRemoval n s).link = s.link ∧
    (serveRemoval n s).configDefault = s.configDefault ∧ (serveRemoval n s).items = s.items ∧
    (serveRemoval n s).free = s.free ∧ (serveRemoval n s).pending = s.pending := by
  induction n generalizing s with
  | zero => simp [serveRemoval]
  | succ n ih => unfold serveRemoval; (repeat' split) <;> simp [ih]

/-- What serveStations leaves. -/
@[simp] theorem serveStations_frame (s : State) :
    (serveStations s).now = s.now ∧ (serveStations s).inputs = s.inputs ∧
    (serveStations s).web = s.web ∧ (serveStations s).qual = s.qual ∧
    (serveStations s).drives = s.drives ∧ (serveStations s).link = s.link ∧
    (serveStations s).configDefault = s.configDefault ∧ (serveStations s).items = s.items ∧
    (serveStations s).free = s.free ∧ (serveStations s).pending = s.pending := by
  simp [serveStations]

/-- What releaseGate leaves. -/
@[simp] theorem releaseGate_frame (s : State) :
    (releaseGate s).now = s.now ∧ (releaseGate s).inputs = s.inputs ∧
    (releaseGate s).web = s.web ∧ (releaseGate s).qual = s.qual ∧
    (releaseGate s).drives = s.drives ∧ (releaseGate s).link = s.link ∧
    (releaseGate s).configDefault = s.configDefault ∧ (releaseGate s).items = s.items ∧
    (releaseGate s).free = s.free ∧ (releaseGate s).pending = s.pending := by
  unfold releaseGate; split <;> simp

/-- What reverseRemoval leaves. -/
@[simp] theorem reverseRemoval_frame (n : Nat) (s : State) :
    (reverseRemoval n s).now = s.now ∧ (reverseRemoval n s).inputs = s.inputs ∧
    (reverseRemoval n s).web = s.web ∧ (reverseRemoval n s).phase = s.phase ∧
    (reverseRemoval n s).qual = s.qual ∧ (reverseRemoval n s).loop = s.loop ∧
    (reverseRemoval n s).emit = s.emit ∧ (reverseRemoval n s).seq = s.seq ∧
    (reverseRemoval n s).stopDwell = s.stopDwell ∧ (reverseRemoval n s).resume = s.resume ∧
    (reverseRemoval n s).sheets = s.sheets ∧ (reverseRemoval n s).lane = s.lane ∧
    (reverseRemoval n s).drives = s.drives ∧ (reverseRemoval n s).faults = s.faults ∧
    (reverseRemoval n s).link = s.link ∧ (reverseRemoval n s).configDefault = s.configDefault ∧
    (reverseRemoval n s).items = s.items ∧ (reverseRemoval n s).free = s.free ∧
    (reverseRemoval n s).pending = s.pending := by
  induction n generalizing s with
  | zero => simp [reverseRemoval]
  | succ n ih => unfold reverseRemoval; (repeat' split) <;> simp [ih]

/-- What coast leaves. -/
@[simp] theorem coast_frame (s : State) :
    (coast s).now = s.now ∧ (coast s).inputs = s.inputs ∧ (coast s).web = s.web ∧
    (coast s).phase = s.phase ∧ (coast s).qual = s.qual ∧ (coast s).loop = s.loop ∧
    (coast s).emit = s.emit ∧ (coast s).seq = s.seq ∧ (coast s).stopDwell = s.stopDwell ∧
    (coast s).resume = s.resume ∧ (coast s).sheets = s.sheets ∧ (coast s).lane = s.lane ∧
    (coast s).drives = s.drives ∧ (coast s).link = s.link ∧
    (coast s).configDefault = s.configDefault ∧ (coast s).items = s.items ∧
    (coast s).free = s.free ∧ (coast s).pending = s.pending := by
  unfold coast; dsimp only; (repeat' split) <;> simp

/-- What coastTest leaves. -/
@[simp] theorem coastTest_frame (s : State) :
    (coastTest s).now = s.now ∧ (coastTest s).inputs = s.inputs ∧ (coastTest s).web = s.web ∧
    (coastTest s).phase = s.phase ∧ (coastTest s).qual = s.qual ∧ (coastTest s).loop = s.loop ∧
    (coastTest s).emit = s.emit ∧ (coastTest s).seq = s.seq ∧
    (coastTest s).stopDwell = s.stopDwell ∧ (coastTest s).resume = s.resume ∧
    (coastTest s).sheets = s.sheets ∧ (coastTest s).lane = s.lane ∧
    (coastTest s).drives = s.drives ∧ (coastTest s).link = s.link ∧
    (coastTest s).configDefault = s.configDefault ∧ (coastTest s).items = s.items ∧
    (coastTest s).free = s.free ∧ (coastTest s).pending = s.pending := by
  unfold coastTest; (repeat' split) <;> simp

/-- What acceptMark leaves. -/
@[simp] theorem acceptMark_frame (x : Pos) (w : Nat) (s : State) :
    (acceptMark x w s).now = s.now ∧ (acceptMark x w s).inputs = s.inputs ∧
    (acceptMark x w s).web = s.web ∧ (acceptMark x w s).phase = s.phase ∧
    (acceptMark x w s).qual = s.qual ∧ (acceptMark x w s).loop = s.loop ∧
    (acceptMark x w s).emit = s.emit ∧ (acceptMark x w s).seq = s.seq ∧
    (acceptMark x w s).stopDwell = s.stopDwell ∧ (acceptMark x w s).resume = s.resume ∧
    (acceptMark x w s).sheets = s.sheets ∧ (acceptMark x w s).lane = s.lane ∧
    (acceptMark x w s).drives = s.drives ∧ (acceptMark x w s).faults = s.faults ∧
    (acceptMark x w s).link = s.link ∧ (acceptMark x w s).configDefault = s.configDefault ∧
    (acceptMark x w s).items = s.items ∧ (acceptMark x w s).free = s.free ∧
    (acceptMark x w s).pending = s.pending := by
  simp [acceptMark]

/-- What lock leaves. -/
@[simp] theorem lock_frame (x : Pos) (w : Nat) (s : State) :
    (lock x w s).now = s.now ∧ (lock x w s).inputs = s.inputs ∧ (lock x w s).web = s.web ∧
    (lock x w s).phase = s.phase ∧ (lock x w s).qual = s.qual ∧ (lock x w s).loop = s.loop ∧
    (lock x w s).emit = s.emit ∧ (lock x w s).seq = s.seq ∧
    (lock x w s).stopDwell = s.stopDwell ∧ (lock x w s).resume = s.resume ∧
    (lock x w s).sheets = s.sheets ∧ (lock x w s).lane = s.lane ∧
    (lock x w s).drives = s.drives ∧ (lock x w s).faults = s.faults ∧
    (lock x w s).link = s.link ∧ (lock x w s).configDefault = s.configDefault ∧
    (lock x w s).items = s.items ∧ (lock x w s).free = s.free ∧ (lock x w s).pending = s.pending := by
  simp [lock]

/-- What acquire leaves. -/
@[simp] theorem acquire_frame (x : Pos) (w : Nat) (s : State) :
    (acquire x w s).now = s.now ∧ (acquire x w s).inputs = s.inputs ∧
    (acquire x w s).web = s.web ∧ (acquire x w s).phase = s.phase ∧
    (acquire x w s).qual = s.qual ∧ (acquire x w s).loop = s.loop ∧
    (acquire x w s).emit = s.emit ∧ (acquire x w s).seq = s.seq ∧
    (acquire x w s).stopDwell = s.stopDwell ∧ (acquire x w s).resume = s.resume ∧
    (acquire x w s).sheets = s.sheets ∧ (acquire x w s).lane = s.lane ∧
    (acquire x w s).drives = s.drives ∧ (acquire x w s).faults = s.faults ∧
    (acquire x w s).link = s.link ∧ (acquire x w s).configDefault = s.configDefault ∧
    (acquire x w s).items = s.items ∧ (acquire x w s).free = s.free ∧
    (acquire x w s).pending = s.pending := by
  unfold acquire; dsimp only; (repeat' split) <;> simp

/-- What countStray leaves. -/
@[simp] theorem countStray_frame (x : Sensor) (s : State) :
    (countStray x s).now = s.now ∧ (countStray x s).inputs = s.inputs ∧
    (countStray x s).web = s.web ∧ (countStray x s).phase = s.phase ∧
    (countStray x s).tracker = s.tracker ∧ (countStray x s).track = s.track ∧
    (countStray x s).loop = s.loop ∧ (countStray x s).emit = s.emit ∧
    (countStray x s).seq = s.seq ∧ (countStray x s).stopDwell = s.stopDwell ∧
    (countStray x s).resume = s.resume ∧ (countStray x s).sheets = s.sheets ∧
    (countStray x s).lane = s.lane ∧ (countStray x s).drives = s.drives ∧
    (countStray x s).faults = s.faults ∧ (countStray x s).link = s.link ∧
    (countStray x s).configDefault = s.configDefault ∧ (countStray x s).items = s.items ∧
    (countStray x s).free = s.free ∧ (countStray x s).pending = s.pending := by
  simp [countStray]

/-- What printMark leaves. -/
@[simp] theorem printMark_frame (x : Pos) (w : Nat) (s : State) :
    (printMark x w s).now = s.now ∧ (printMark x w s).inputs = s.inputs ∧
    (printMark x w s).web = s.web ∧ (printMark x w s).phase = s.phase ∧
    (printMark x w s).loop = s.loop ∧ (printMark x w s).emit = s.emit ∧
    (printMark x w s).seq = s.seq ∧ (printMark x w s).stopDwell = s.stopDwell ∧
    (printMark x w s).resume = s.resume ∧ (printMark x w s).sheets = s.sheets ∧
    (printMark x w s).lane = s.lane ∧ (printMark x w s).drives = s.drives ∧
    (printMark x w s).faults = s.faults ∧ (printMark x w s).link = s.link ∧
    (printMark x w s).configDefault = s.configDefault ∧ (printMark x w s).items = s.items ∧
    (printMark x w s).free = s.free ∧ (printMark x w s).pending = s.pending := by
  unfold printMark; (repeat' split) <;> simp

/-- What foilMark leaves. -/
@[simp] theorem foilMark_frame (x : Pos) (s : State) :
    (foilMark x s).now = s.now ∧ (foilMark x s).inputs = s.inputs ∧ (foilMark x s).web = s.web ∧
    (foilMark x s).phase = s.phase ∧ (foilMark x s).tracker = s.tracker ∧
    (foilMark x s).loop = s.loop ∧ (foilMark x s).emit = s.emit ∧ (foilMark x s).seq = s.seq ∧
    (foilMark x s).stopDwell = s.stopDwell ∧ (foilMark x s).resume = s.resume ∧
    (foilMark x s).sheets = s.sheets ∧ (foilMark x s).lane = s.lane ∧
    (foilMark x s).drives = s.drives ∧ (foilMark x s).faults = s.faults ∧
    (foilMark x s).link = s.link ∧ (foilMark x s).configDefault = s.configDefault ∧
    (foilMark x s).items = s.items ∧ (foilMark x s).free = s.free ∧
    (foilMark x s).pending = s.pending := by
  unfold foilMark; split <;> simp

/-- What measurementEnded leaves. -/
@[simp] theorem measurementEnded_frame (x : Sensor) (s : State) :
    (measurementEnded x s).now = s.now ∧ (measurementEnded x s).inputs = s.inputs ∧
    (measurementEnded x s).web = s.web ∧ (measurementEnded x s).qual = s.qual ∧
    (measurementEnded x s).drives = s.drives ∧ (measurementEnded x s).link = s.link ∧
    (measurementEnded x s).configDefault = s.configDefault ∧
    (measurementEnded x s).items = s.items ∧ (measurementEnded x s).free = s.free ∧
    (measurementEnded x s).pending = s.pending := by
  unfold measurementEnded; (repeat' split) <;> simp

/-- What qualified leaves. -/
@[simp] theorem qualified_frame (x : Sensor) (p : Pos) (w : Nat) (s : State) :
    (qualified x p w s).now = s.now ∧ (qualified x p w s).inputs = s.inputs ∧
    (qualified x p w s).web = s.web ∧ (qualified x p w s).phase = s.phase ∧
    (qualified x p w s).loop = s.loop ∧ (qualified x p w s).emit = s.emit ∧
    (qualified x p w s).seq = s.seq ∧ (qualified x p w s).stopDwell = s.stopDwell ∧
    (qualified x p w s).resume = s.resume ∧ (qualified x p w s).sheets = s.sheets ∧
    (qualified x p w s).lane = s.lane ∧ (qualified x p w s).drives = s.drives ∧
    (qualified x p w s).faults = s.faults ∧ (qualified x p w s).link = s.link ∧
    (qualified x p w s).configDefault = s.configDefault ∧ (qualified x p w s).items = s.items ∧
    (qualified x p w s).free = s.free ∧ (qualified x p w s).pending = s.pending := by
  unfold qualified; split <;> simp

/-- What rejectMark leaves. -/
@[simp] theorem rejectMark_frame (x : Sensor) (st : QualState) (s : State) :
    (rejectMark x st s).now = s.now ∧ (rejectMark x st s).inputs = s.inputs ∧
    (rejectMark x st s).web = s.web ∧ (rejectMark x st s).drives = s.drives ∧
    (rejectMark x st s).link = s.link ∧ (rejectMark x st s).configDefault = s.configDefault ∧
    (rejectMark x st s).items = s.items ∧ (rejectMark x st s).free = s.free ∧
    (rejectMark x st s).pending = s.pending := by
  simp [rejectMark]

/-- What leadingEdge leaves. -/
@[simp] theorem leadingEdge_frame (x : Sensor) (s : State) :
    (leadingEdge x s).now = s.now ∧ (leadingEdge x s).inputs = s.inputs ∧
    (leadingEdge x s).web = s.web ∧ (leadingEdge x s).phase = s.phase ∧
    (leadingEdge x s).tracker = s.tracker ∧ (leadingEdge x s).track = s.track ∧
    (leadingEdge x s).loop = s.loop ∧ (leadingEdge x s).emit = s.emit ∧
    (leadingEdge x s).seq = s.seq ∧ (leadingEdge x s).stopDwell = s.stopDwell ∧
    (leadingEdge x s).resume = s.resume ∧ (leadingEdge x s).sheets = s.sheets ∧
    (leadingEdge x s).lane = s.lane ∧ (leadingEdge x s).drives = s.drives ∧
    (leadingEdge x s).faults = s.faults ∧ (leadingEdge x s).link = s.link ∧
    (leadingEdge x s).configDefault = s.configDefault ∧ (leadingEdge x s).items = s.items ∧
    (leadingEdge x s).free = s.free ∧ (leadingEdge x s).pending = s.pending := by
  unfold leadingEdge; dsimp only; (repeat' split) <;> simp

/-- What trailingEdge leaves. -/
@[simp] theorem trailingEdge_frame (x : Sensor) (s : State) :
    (trailingEdge x s).now = s.now ∧ (trailingEdge x s).inputs = s.inputs ∧
    (trailingEdge x s).web = s.web ∧ (trailingEdge x s).drives = s.drives ∧
    (trailingEdge x s).link = s.link ∧ (trailingEdge x s).configDefault = s.configDefault ∧
    (trailingEdge x s).items = s.items ∧ (trailingEdge x s).free = s.free ∧
    (trailingEdge x s).pending = s.pending := by
  unfold trailingEdge; dsimp only; (repeat' split) <;> simp

/-- What qualForward leaves. -/
@[simp] theorem qualForward_frame (x : Sensor) (s : State) :
    (qualForward x s).now = s.now ∧ (qualForward x s).inputs = s.inputs ∧
    (qualForward x s).web = s.web ∧ (qualForward x s).drives = s.drives ∧
    (qualForward x s).link = s.link ∧ (qualForward x s).configDefault = s.configDefault ∧
    (qualForward x s).items = s.items ∧ (qualForward x s).free = s.free ∧
    (qualForward x s).pending = s.pending := by
  unfold qualForward; dsimp only; split <;> simp

/-- What qualReverse leaves. -/
@[simp] theorem qualReverse_frame (x : Sensor) (s : State) :
    (qualReverse x s).now = s.now ∧ (qualReverse x s).inputs = s.inputs ∧
    (qualReverse x s).web = s.web ∧ (qualReverse x s).drives = s.drives ∧
    (qualReverse x s).link = s.link ∧ (qualReverse x s).configDefault = s.configDefault ∧
    (qualReverse x s).items = s.items ∧ (qualReverse x s).free = s.free ∧
    (qualReverse x s).pending = s.pending := by
  unfold qualReverse; split <;> simp

/-- What forwardCount leaves. -/
@[simp] theorem forwardCount_frame (s : State) :
    (forwardCount s).now = s.now ∧ (forwardCount s).inputs = s.inputs ∧
    (forwardCount s).link = s.link ∧ (forwardCount s).configDefault = s.configDefault ∧
    (forwardCount s).items = s.items ∧ (forwardCount s).pending = s.pending := by
  simp [forwardCount]

/-- What reverseCount leaves. -/
@[simp] theorem reverseCount_frame (s : State) :
    (reverseCount s).now = s.now ∧ (reverseCount s).inputs = s.inputs ∧
    (reverseCount s).drives = s.drives ∧ (reverseCount s).link = s.link ∧
    (reverseCount s).configDefault = s.configDefault ∧ (reverseCount s).items = s.items ∧
    (reverseCount s).free = s.free ∧ (reverseCount s).pending = s.pending := by
  simp [reverseCount]

end Sys2Proof.Machine
end

