-- ==== Sys2Proof/Laws/Requests.lean ====
section
/-! SUPPORT. What the three ways a request row can meet the Link Port do, each said once. -/

namespace Sys2Proof.Laws

open Sys2Proof.Machine Sys2Proof.Safety

/-- R163: what one microsecond does to the quiet time. -/
theorem quietTick_cases (l : Link) :
    (l.txen = true → l.quietTick = l.quiet) ∧
    (l.txen = false → l.rxBusy = true → 0 ≤ l.quiet → l.quietTick = l.quiet) ∧
    (l.txen = false → l.rxBusy = true → l.quiet < 0 → l.quietTick = min (l.quiet + l.baud) 0) ∧
    (l.txen = false → l.rxBusy = false → l.quietTick = min (l.quiet + l.baud) 20000000) := by
  unfold Link.quietTick
  refine ⟨fun h => by simp [h], fun h b q => ?_, fun h b q => ?_, fun h b => by simp [h, b, Config.gapUnits]⟩
  all_goals simp only [h, b, Bool.false_eq_true, if_false, if_true]; omega

/-- R168: a frame that is cut off leaves the Link Port's other parts alone. -/
theorem noise_cutOff (l : Link) (stop : Bool) (rx : RxState) :
    ((l.noise stop).cutOff rx).rxBusy = !stop ∧ ((l.noise stop).cutOff rx).quiet = -500000 ∧
    ((l.noise stop).cutOff rx).good = l.good ∧ ((l.noise stop).cutOff rx).image = l.image := by
  simp [Link.noise, Link.cutOff, Link.clearBuffer, Config.halfBit]

/-- The Link Port once a frame led by its idle gap has been counted good. -/
theorem goodFrame_after {l : Link} (h : l.txen = false) (hp : l.replyPending = false) :
    (l.idleGap.noise true).goodFrame = afterFrame l := by
  unfold Link.idleGap
  simp only [h, hp]
  cases hr : l.rx <;>
    simp [h, hp, hr, Link.noise, Link.goodFrame, Link.clearBuffer, Link.cutOff, afterFrame,
      RxState.inFrame, satInc, Config.counterMax, Config.halfBit]

/-- R169: what a request row to a ready station does: its owner's operation, then the reply. -/
theorem hostRequest_ready {s : State} (h : Ready s) (kind : Nat) (op : State → State × Reply) :
    hostRequest kind op s = formReply kind (op (heard s)).2 (op (heard s)).1 := by
  obtain ⟨h1, h2, h3⟩ := h
  have h4 : (s.link.idleGap.noise true).own = s.link.own := by
    unfold Link.idleGap
    simp only [h1, h2]
    cases s.link.rx <;> simp [Link.noise, Link.clearBuffer, Link.cutOff]
  have h5 : ¬ s.link.own = 0 := h3
  simp only [hostRequest, h1, h2, h4, h5, takeAddressed, goodFrame_after h1 h2, heard]
  simp

/-- R172: a request row while TXEN is asserted. -/
theorem hostRequest_sending {s : State} (h : s.link.txen = true) (kind : Nat)
    (op : State → State × Reply) : hostRequest kind op s = s := by
  simp [hostRequest, h]

/-- R172: a request row while a reply is pending. -/
theorem hostRequest_pending {s : State} (h1 : s.link.txen = false) (h2 : s.link.replyPending = true)
    (kind : Nat) (op : State → State × Reply) :
    hostRequest kind op s = { s with link := (s.link.noise true).seeOverlap } := by
  simp [hostRequest, h1, h2]

/-- R170: a broadcast taken by a listening station. -/
theorem hostBroadcast_listening {s : State} (h : Listening s) (take : State → State) :
    hostBroadcast take s = take { s with link := s.link.idleGap.noise true } := by
  simp [hostBroadcast, h.1, h.2]

/-- R169: an operation that leaves the Link Port: the request answered, and its effect. -/
theorem hostRequest_answered {s t : State} {r : Reply} (h : Ready s) (kind : Nat)
    {op : State → State × Reply} (ho : op (heard s) = (heard t, r)) (hl : t.link = s.link) :
    hostRequest kind op s = answered kind r t := by
  rw [hostRequest_ready h, ho]
  simp [formReply, heard, answered, afterRequest, afterFrame, hl, Config.waitUnits,
    Config.halfBit]

end Sys2Proof.Laws
end

