-- ==== Sys2Proof/Tests/Slice0.lean ====
section
/-! SUPPORT. Tests by the worked cases and tables of the spec, and for each statement with hypotheses a
concrete state that meets them. -/

namespace Sys2Proof.Tests

open Sys2Proof.Machine Sys2Proof.Safety

/-! ## Helpers -/

/-- The state after a command. -/
def after (c : Instr) (s : State) : State :=
  match exec c s with
  | .next t => t
  | _ => s

/-- The result code of the reply image, and its body. -/
def resultOf (s : State) : Byte := s.link.image.getD 4 0
def bodyOf (s : State) : List Byte := (s.link.image.drop 5).take (s.link.image.length - 7)

/-- The sheet of the worked cases of 1.3, 4.3, 6.7 and 7.4. -/
def sheet7 : Sheet :=
  { params := { lSub := 9216128, tF := 51200, tE := 76800, throwF := 30000, throwE := 31000,
                usesF := true, usesE := true, ref := .foil },
    windows :=
      [some ⟨.l1, 2000, 3000, 1, true⟩, some ⟨.l1, 5200, 800, 1, true⟩,
       some ⟨.l1, 20000, 6000, 2, true⟩, some ⟨.l0, 1500, 4000, 5, true⟩,
       some ⟨.l0, 5500, 500, 5, false⟩] ++ List.replicate 43 none,
    gen := 7,
    spans := ⟨[⟨1500, 5500⟩], [⟨2000, 5000⟩, ⟨5200, 6000⟩, ⟨20000, 26000⟩], [], []⟩ }

/-- A lane in DWELL on its drive, with its run list. -/
def laneReady (runs : List Span) : LaneCtl :=
  { resetLane with state := .dwell, runList := runs, foil := 1000000 }

/-- A label that has met no station. -/
def label (serial : BitVec 16) (r : Pos) : LabelRecord := newRecord serial .marked r (some 118)

/-- The station on the run: the sheet above active, the web forward, both impressions on, the tracker
locked, lanes 0 and 1 on drives 0 and 1. -/
def running : State :=
  { State.reset with
    web := { resetWeb with w := 100000, v := 605, stopped := false, speed := 37 },
    inputs := { pmark := false, fmark := false, cnf := ⟨true, true⟩, edge := ⟨false, false⟩ },
    phase := ⟨{ resetPhase with phi := 8000000 }, { resetPhase with phi := 8000000 }⟩,
    tracker := { resetTracker with state := .locked, eSub := 33792000 },
    track := { resetTrack with records := [label 10 99000], nextSerial := 11 },
    loop := ⟨{ resetLoop with mode := .auto }, { resetLoop with mode := .auto }⟩,
    seq := ⟨⟨.on, true, none, none, .none⟩, ⟨.on, true, none, none, .none⟩⟩,
    sheets := { resetSheets with
      staged := { params := sheet7.params, windows := sheet7.windows },
      active := some sheet7, lastGen := 7 },
    lane := ⟨laneReady [⟨1500, 5600⟩], laneReady [⟨2000, 6100⟩, ⟨20000, 26100⟩], resetLane, resetLane⟩,
    drives := ⟨⟨true, 0⟩, ⟨true, 0⟩, ⟨false, 0⟩, ⟨false, 0⟩⟩,
    items := { resetItems with
      geo := { dF := 14000, dFS := 20000, dE := 31000, dR := 40000, markerWidth := 500 },
      lane := ⟨{ resetItems.lane.l0 with drive := some .d0 },
               { resetItems.lane.l1 with drive := some .d1 }, resetItems.lane.l2,
               resetItems.lane.l3⟩ },
    configDefault := false }

/-- The same with the link replaced. -/
def withLink (x : Link) : State := { running with link := x }

/-! ## Well-formedness, the word decoder, the queue -/

/-- 9.2: a body of 251 bytes does not fit a frame. -/
theorem test_wellFormed_long_body :
    (Instr.frameReceived 5 1 (List.replicate 251 0) 0).wellFormed = false := by decide +kernel
/-- R179: the row CONFIG WRITE is for numbers that no other row writes; 1 is the encoder direction. -/
theorem test_wellFormed_known_item : (Instr.configWrite 1 0).wellFormed = false := by decide
/-- R180: a curve has eight anchors. -/
theorem test_wellFormed_seven_anchors :
    (Instr.curveWrite 0 (List.replicate 7 0)).wellFormed = false := by decide
/-- R100: one to eight entries. -/
theorem test_wellFormed_no_entry : (Instr.windowWrite 0 []).wellFormed = false := by decide
theorem test_wellFormed_nine_entries :
    (Instr.windowWrite 0 (List.replicate 9 ⟨0, 0, 1, 0, 0⟩)).wellFormed = false := by decide
theorem test_wellFormed_nudge : (Instr.nudge 0 10).wellFormed = true := by decide
/-- No row of the table gives bits. -/
theorem test_no_word : decodeTableWord 16 0 = none := by decide

/-! ## Chapters 1 to 3: the worked cases -/

/-- 1.3, "one revolution with trims", the second forward count. -/
theorem test_forward_crossing :
    let s := { running with phase := running.phase.set .f { resetPhase with
      phi := 9216000, hold := 9000256, armed := false } }
    let p := ((after (.encoderTransition false true) s).phase.get .f)
    (p.phi, p.hold, p.armed) = (128, 0, true) := by decide
/-- R1: with A low the rise of B is a forward count; the levels swap under INVERTED. -/
theorem test_reverse_count : (after (.encoderTransition true false) running).web.w = 99999 := by decide
/-- 1.3, the first of the 12 RETARD pulses. -/
theorem test_retard_pulse :
    let s := { running with
      phase := running.phase.set .f { resetPhase with phi := 128, hold := 0 },
      loop := running.loop.set .f { resetLoop with p := -12, n := 0, a := -12 },
      emit := running.emit.set .f { resetEmitter with state := .space, tdir := .retard } }
    let t := after (.spaceEnd .f) s
    ((t.phase.get .f).phi, (t.loop.get .f).p, (t.loop.get .f).n) = (9216000, -11, -1) := by decide
/-- 1.2, gates 1 and 2 of "four speed gates". -/
theorem test_gate_605 :
    let t := after .speedGateEnd { running with web := { running.web with tally := 605 } }
    (t.web.v, t.web.stopped, t.web.speed, t.web.tally) = (605, false, 37, 0) := by decide
theorem test_gate_1100 :
    (after .speedGateEnd { running with web := { running.web with tally := 1100 } }).web.speed = 63 := by
  decide
/-- 1.4, the late and the early arrival. -/
theorem test_late_index :
    let s := { running with phase := running.phase.set .f { resetPhase with phi := 10368, hold := 10240 } }
    let p := (after (.indexArrival .f) s).phase.get .f
    (p.phi, p.hold, p.lastDev) = (0, 10240, 10368) := by decide
theorem test_early_index :
    let s := { running with phase := running.phase.set .f { resetPhase with
      phi := 9214208, hold := 9224448 } }
    let t := after (.indexArrival .f) s
    ((t.phase.get .f).hold, (t.phase.get .f).lastDev, t.faults.flags) = (0, -1920, 0) := by decide

/-- A print mark that ends now, 118 counts after its leading edge. -/
def markEnding (lead : Pos) (k : Tracker) (next : BitVec 16) : State :=
  { running with
    web := { running.web with w := lead + 118 },
    inputs := { running.inputs with pmark := true },
    qual := { running.qual with print := { resetQual 20 150 with state := .measuring, lead := lead } },
    tracker := k, track := { resetTrack with nextSerial := next } }
/-- 2.2, the mark 73,010..73,128: third candidate, lock. -/
theorem test_lock :
    let t := after (.markTrailingEdge .print)
      (markEnding 73010 { resetTracker with state := .search, k := 2, q := 37003 } 0)
    (t.tracker.state, t.tracker.eSub.toNat, t.track.records.map (·.r.toNat),
      t.track.records.map (·.width)) = (.locked, 27906688, [73010], [some 118]) := by decide
/-- 2.2, the mark accepted at 109,050. -/
theorem test_accept :
    let t := after (.markTrailingEdge .print)
      (markEnding 109050 { resetTracker with state := .locked, eSub := 27906688 } 1)
    (t.tracker.eSub.toNat, t.track.nextSerial) = (37132928, 2) := by decide
/-- R20: an edge in reverse running is no mark. -/
theorem test_leading_edge_reverse :
    (after (.markLeadingEdge .foil)
      { running with web := { running.web with dir := .reverse } }).qual.foil.rejects = 1 := by decide
/-- 2.2, the coast at W = 145,251. -/
theorem test_coast :
    let s := { running with
      web := { running.web with w := 145250 },
      tracker := { resetTracker with state := .locked, eSub := 37132928 },
      track := { resetTrack with nextSerial := 2 } }
    let t := after (.encoderTransition false true) s
    (t.tracker.state, t.tracker.eSub.toNat, t.track.records.map (·.r.toNat),
      t.track.records.map (·.origin)) = (.coast, 46349056, [145051], [.predicted]) := by decide
/-- 3.2, the offset of the foil mark 120,030 of the label at 100,000. -/
theorem test_foil_mark :
    let s := { running with
      web := { running.web with w := 120130 },
      inputs := { running.inputs with fmark := true },
      qual := { running.qual with foil := { resetQual 20 400 with state := .measuring, lead := 120030 } },
      track := { resetTrack with records := [label 10 100000], nextSerial := 11 } }
    (after (.markTrailingEdge .foil) s).track.records.map (·.foil) = [some (120030, 30)] := by decide

/-! ## Chapters 4 and 5 -/

/-- 4.3, "one foil label". -/
theorem test_foil_label :
    let it := { (resetItems.loop.get .f) with slew := 60, amax := 3000 }
    let s := { running with
      web := { running.web with w := 113999 },
      phase := running.phase.set .f { resetPhase with phi := 9214744 },
      track := { resetTrack with records := [label 400 100000] },
      loop := running.loop.set .f { resetLoop with mode := .auto, a := 2950, p := 30, n := 2920, run := 2 },
      emit := running.emit.set .f { resetEmitter with state := .step, tstp := true },
      items := { running.items with loop := running.items.loop.set .f it } }
    let t := after (.encoderTransition false true) s
    let x := t.loop.get .f
    x.a = 3000 ∧ x.p = 80 ∧ x.run = 3 ∧ x.lastErr = some (-204) ∧ x.lastCorr = some 50 ∧
      t.faults.record.map (·.value) = some 60 := by decide
/-- 4.7, the rows TRIM MOVE -500, LOOP MODE OFF, TRIM ZERO, TRIM MOVE +3,200. -/
def loopAt (a p n : Int) : State :=
  { running with
    loop := running.loop.set .f { resetLoop with mode := .auto, a := a, p := p, n := n },
    emit := running.emit.set .f { resetEmitter with state := .step, tstp := true },
    items := { running.items with loop := running.items.loop.set .f { resetItems.loop.f with amax := 3000 } } }
theorem test_trim_move :
    let t := after (.trimMove 0 (BitVec.ofInt 16 (-500))) (loopAt 3000 0 3000)
    ((t.loop.get .f).a, (t.loop.get .f).p, resultOf t) = (2500, -500, 0x00) := by decide
theorem test_trim_move_clamped :
    let t := after (.trimMove 0 3200) (loopAt 0 0 0)
    ((t.loop.get .f).a, resultOf t, (bodyOf t).take 2) = (3000, 0x04, [0x0B, 0xB8]) := by decide
theorem test_loop_mode_off :
    ((after (.loopMode 0 0) (loopAt 2560 (-100) 2660)).loop.get .f).a = 2660 := by decide
theorem test_trim_zero :
    let x := (after (.trimZero 0) (loopAt 2660 0 2660)).loop.get .f
    (x.a, x.n) = (0, 0) := by decide
/-- 5.1, "a correction reversed", 75 µs and 100 µs. -/
def reversed (x : Emitter) (now : Nat) : State :=
  { running with
    now := now, emit := running.emit.set .f x,
    loop := running.loop.set .f { resetLoop with mode := .auto, a := -2, p := -4, n := 2 } }
theorem test_step_time_end :
    let x := (after (.stepTimeEnd .f) (reversed
      { state := .step, tstp := true, tdir := .advance, t := 50, lastStep := some 50,
        lastTurn := none } 60)).emit.get .f
    (x.state, x.tstp, x.tdir, x.lastTurn) = (.space, false, .retard, some 75) := by decide
theorem test_space_end :
    let t := after (.spaceEnd .f) (reversed
      { state := .space, tstp := false, tdir := .retard, t := 50, lastStep := some 50,
        lastTurn := some 75 } 75)
    (t.now, (t.emit.get .f).tstp, (t.loop.get .f).p, (t.loop.get .f).n) = (100, true, -3, 1) := by decide
/-- 5.4, "a stop, a resume and a foil break", 0, 2,300, 2,380 and 7,000 ms. -/
def sequencerF (x : Sequencer) (cnf : Bool) : State :=
  { running with
    seq := running.seq.set .f x, inputs := { running.inputs with cnf := ⟨cnf, true⟩ },
    items := { running.items with act := { running.items.act with autoResume := true } } }
theorem test_engage_waits :
    let t := after (.engage 0) (sequencerF ⟨.off, false, none, none, .none⟩ false)
    (t.seq.f.state, resultOf t) = (.waitPhase, 0x01) := by decide
theorem test_confirm_rise :
    (after (.confirmRise ⟨.f, true⟩) (sequencerF ⟨.engaging, true, some 412000, none, .none⟩ false)).seq.f =
      ⟨.on, true, none, none, .none⟩ := by decide
/-- R85: the engage timer expires together with the rise and is taken first: RELEASING for the release
timeout, and the edge does nothing there. -/
theorem test_expiry_before_rise :
    let s := after (.confirmRise ⟨.f, false⟩) (sequencerF ⟨.engaging, true, some 412000, none, .none⟩ false)
    let t := after (.confirmRise ⟨.f, true⟩) (after (.engageTimerExpiry .f) s)
    (t.seq.f, t.inputs.edge.f) =
      (⟨.releasing, false, none, some 812000, .engageTimeout⟩, false) := by decide
theorem test_stop_dwell :
    let t := after .stopDwellExpiry { sequencerF ⟨.on, true, none, none, .none⟩ true with
      stopDwell := some 2300000 }
    (t.seq.f, t.resume) = (⟨.releasing, false, none, some 2700000, .stop⟩, true) := by decide
theorem test_confirm_fall :
    let t := after (.confirmFall ⟨.f, true⟩)
      { sequencerF ⟨.releasing, false, none, some 2700000, .stop⟩ true with resume := true }
    (t.seq.f.state, t.resume) = (.off, true) := by decide
theorem test_engage_lane_fault :
    resultOf (after (.engage 0) { sequencerF ⟨.off, false, none, none, .fault⟩ false with
      lane := running.lane.set .l1 { running.lane.l1 with state := .faulted } }) = 0x16 := by decide
/-- R85, R87: a release that is not confirmed. -/
theorem test_release_timeout :
    let t := after (.releaseTimerExpiry .f) (sequencerF ⟨.releasing, false, none, some 9, .host⟩ true)
    (t.seq.f.state, t.faults.record.map (·.value)) = (.off, some 400) := by decide
theorem test_engage_timeout :
    let t := after (.engageTimerExpiry .e)
      { running with seq := running.seq.set .e ⟨.engaging, true, some 9, none, .none⟩,
                     inputs := { running.inputs with cnf := ⟨true, false⟩ } }
    (t.seq.e.cause, t.faults.record.map (·.source)) = (.engageTimeout, some (.cyl .e)) := by decide
/-- R89: F and E both. -/
theorem test_disengage_both :
    let t := after (.disengage 2 true) running
    (t.seq.f.state, t.seq.e.state, t.link.replyPending) = (.releasing, .releasing, false) := by decide

/-! ## Chapters 6 and 7 -/

/-- 6.7, the first two WINDOW EDITs of "a changeover on the run". -/
theorem test_edit_shift :
    let t := after (.windowEdit 1 2 254 8 0 0 0 400) running
    (t.sheets.staged.windows[2]?, bodyOf t) =
      (some (some ⟨.l1, 20400, 6000, 2, true⟩), [1, 1, 0]) := by decide
theorem test_edit_skipped :
    let t := after (.windowEdit 254 5 254 12 0 0 1 31000) running
    (t.sheets.staged.windows, bodyOf t) = (running.sheets.staged.windows, [2, 0, 2]) := by decide
/-- R106: an enabled window on a lane without a drive is reason 7 with its index. -/
theorem test_commit_unmapped :
    let s := after (.windowWrite 5 [⟨2, 100, 50, 1, 1⟩]) running
    bodyOf (after (.commit false)
      { s with link := { s.link with replyPending := false } }) = [0, 0, 7, 5] := by decide
theorem test_commit_pending :
    let t := after (.commit true) running
    (t.sheets.pending.map (·.gen), t.sheets.lastGen) = (some 8, 8) := by decide
/-- 7.2, "expanding a curve". -/
theorem test_curve :
    let ls := ((after (.curveWrite 1 [40, 60, 95, 140, 200, 270, 350, 440]) running).lane.get .l1).leads
    [0, 9, 13, 31, 62, 63].map (fun i => ls.getD i 0) = [40, 60, 76, 167, 430, 440] := by decide
/-- 7.4: the list that lane 1 builds with a lead of 167, here at once by a write of its run-out. -/
theorem test_run_list :
    let s := { running with web := { running.web with speed := 31 } }
    ((after (.curveWrite 1 [40, 60, 95, 140, 200, 270, 350, 440]) s).lane.get .l1).runList =
      [⟨1833, 6100⟩, ⟨19833, 26100⟩] := by decide
/-- 7.4, the count that brings the phase count to 1,833. -/
theorem test_run_start :
    let s := { running with
      phase := running.phase.set .f { resetPhase with phi := 1832 * 256 },
      lane := running.lane.set .l1 (laneReady [⟨1833, 6100⟩, ⟨19833, 26100⟩]),
      items := { running.items with
        lane := running.items.lane.set .l1 { running.items.lane.l1 with ratio := 53248 } } }
    let x := (after (.encoderTransition false true) s).lane.get .l1
    (x.state, x.acc, x.runSteps, x.foil) = (.run, 53248, 0, 1000000) := by decide
/-- 7.9, "a foil change, a check and a break". -/
def laneOne (x : LaneCtl) (f : SeqState) : State :=
  { running with lane := running.lane.set .l1 x,
                 seq := running.seq.set .f ⟨f, f == .on, none, none, .none⟩ }
def parkedOne : LaneCtl := { laneReady [] with
  state := .parked, parkTimer := 60, parkExpired := true, foil := 991440 }
theorem test_park_running :
    let t := after (.lanePark 1) (laneOne { laneReady [] with
      state := .run, run := some ⟨19833, 26100⟩ } .on)
    ((t.lane.get .l1).parkPending, resultOf t) = (true, 0x01) := by decide
theorem test_roll_load :
    let t := after (.rollLoad 1 250000) (laneOne parkedOne .off)
    ((t.lane.get .l1).foil, (t.lane.get .l1).parkExpired) = (250000, true) := by decide
/-- R128: the step that raises FOIL_LOW ends the count's stepping: one pulse of the two due. -/
theorem test_low_ends_stepping :
    let s := laneOne { laneReady [] with
      state := .run, run := some ⟨0, 9⟩, ratioNow := 131072, foil := 51 } .on
    let t := runCount .l1 { s with items := { s.items with
      lane := s.items.lane.set .l1 { s.items.lane.l1 with low := 50 } } }
    ((t.lane.get .l1).foil, t.drives.d1.pulses, t.faults.flags) = (50, 1, 0x800) := by decide
theorem test_lane_check :
    let t := after (.laneCheck 1) (laneOne parkedOne .off)
    ((t.lane.get .l1).state, (t.lane.get .l1).checkTimer, resultOf t) = (.check, some 1000, 0x01) := by
  decide
theorem test_check_ends :
    let t := after (.checkTimerExpiry .l1) (laneOne { parkedOne with
      state := .check, check := ⟨false, .none, 400, 4⟩, checkTimer := some 401000 } .off)
    ((t.lane.get .l1).state, (t.lane.get .l1).check) = (.parked, ⟨true, .pass, 400, 4⟩) := by decide
theorem test_release_late :
    let t := after (.laneRelease 1) (laneOne parkedOne .off)
    ((t.lane.get .l1).state, (t.lane.get .l1).hold, resultOf t) = (.dwell, true, 0x02) := by decide
theorem test_motion_pulse :
    ((after (.motionPulse .l1) (laneOne { laneReady [] with motion := 96 } .on)).lane.get .l1).motion =
      0 := by decide

/-! ## Chapters 8 to 10 -/

/-- 8.4, the first three rows of "a run of faults". -/
theorem test_fault_run :
    let at' := fun (w : Nat) (s : State) => { s with web := { s.web with w := BitVec.ofNat 32 w } }
    let s1 := raise ⟨.registerRun, .cyl .f, some 512, -47⟩ (at' 1204330 running)
    let s2 := raise ⟨.foilLow, .lane .l2, none, 50000⟩ (at' 1209881 s1)
    let s3 := raise ⟨.indexDeviation, .cyl .e, none, 14080⟩ (at' 1231005 s2)
    (s2.faults.record.map (·.again), s2.faults.alm, s3.faults.record, s3.faults.alm) =
      (some true, false, some ⟨.indexDeviation, .cyl .e, none, 14080, 1231005, false⟩, true) := by
  decide
theorem test_fault_clear :
    let s := raise ⟨.foilBreak, .lane .l1, none, 401⟩ running
    let t := after (.faultClear 1 0) s
    (t.faults.flags, t.faults.record.isSome, t.faults.alm) = (0, true, false) := by decide

/-- 10.7, "two nudges on the wire": both replies, byte for byte. -/
theorem test_nudge_wire :
    (after (.frameReceived 0x05 0x23 [0x00, 0x00, 0x0A] 0x0035) running).link.image =
      [0xC3, 0x85, 0x03, 0xA3, 0x00, 0x00, 0x0A, 0x01, 0x35] := by decide
theorem test_nudge_wire_clamped :
    (after (.frameReceived 0x05 0x23 [0x00, 0x03, 0xE3] 0x0111)
      { running with loop := running.loop.set .f { resetLoop with nudge := 10 } }).link.image =
      [0xC3, 0x85, 0x03, 0xA3, 0x04, 0x03, 0xE8, 0x02, 0x1A] := by decide
/-- The last character of the first request of 10.7, received bit by bit. -/
theorem test_last_character :
    (after (.characterReceived (.byte 0x35) false true)
      { running with link := { running.link with
        rx := .check, dest := 5, len := 3, kind := 0x23, body := [0, 0, 0x0A], sum := 0x0035,
        checkHi := some 0 } }).link.image.drop 4 = [0x00, 0x00, 0x0A, 0x01, 0x35] := by decide
/-- R163: 0x35 has four ones, so its even parity bit is 0. -/
theorem test_parity_error :
    (after (.characterReceived (.byte 0x35) true true)
      { running with link := { running.link with rx := .body, len := 3 } }).link.charErrors = 1 := by
  decide
/-- R163: the quiet time rises only with no new start bit. -/
theorem test_start_bit_holds_quiet_time :
    let s := { running with link := { running.link with quiet := 19999999 } }
    (after (.characterReceived .startBit false false) s).link.tick.quiet = 19999999 ∧
      s.link.tick.quiet = 20000000 := by decide
/-- R163: after a low stop bit the quiet time stays at 0 until RXD is high, and then rises. -/
theorem test_framing_error_holds_quiet_time :
    let t := after (.characterReceived (.byte 0) false false) running
    let low := { t with link := { t.link with quiet := -100000 } }.link.tick
    low.quiet = 0 ∧ low.tick.quiet = 0 ∧
      (after (.characterReceived .lineHigh false false) (withLink low)).link.tick.quiet = 230400 := by
  decide
/-- R163: a falling edge that was no start bit does not restart the quiet time, which then rises on. -/
theorem test_false_start_bit :
    let s := withLink { running.link with quiet := 19000000 }
    let t := after (.characterReceived .lineHigh false false)
      (after (.characterReceived .startBit false false) s)
    t.link.quiet = 19000000 ∧ t.link.tick.quiet = 19230400 := by decide
theorem test_idle_gap :
    (after .idleGap running).link.rx = .hunt := by decide
theorem test_cut_off_length :
    (after (.frameCutOff .length)
      { running with link := { running.link with rx := .len } }).link.rx = .waitIdle := by decide
/-- R172: two characters in one reply wait are one overlap. -/
theorem test_overlap_once :
    (after .overlap (after .overlap (after .statusRead running))).link.overlaps = 1 := by decide
/-- R171: 0xC3 goes out as start bit 0, data least significant bit first, parity 0, stop bit 1. -/
theorem test_reply_starts :
    (after .replyWaitEnd (after .statusRead running)).link.txd.head? = some 0b10110000110#11 := by decide
theorem test_reply_end :
    (after (.replyEnd 5 1) { running with link := { running.link with
      txen := true, replyPending := true } }).link.replyPending = false := by decide
/-- 10.8: the lengths of the read replies. -/
theorem test_read_lengths :
    ((bodyOf (after .statusRead running)).length, (bodyOf (after (.loopRead 0) running)).length,
      (bodyOf (after .faultRead running)).length) = (23, 54, 17) := by decide
theorem test_read_lengths_lane :
    ((bodyOf (after (.laneRead 1) running)).length, (bodyOf (after .countersRead running)).length,
      (bodyOf (after (.trackRead 0 0 1) running)).length) = (144, 38, 4 + 34) := by decide +kernel
/-- R162: the strap levels at a FULL reset. -/
theorem test_reset_straps :
    let t := after (.powerOn { resetPins with adr := 9, bdr := 3 }) running
    (t.link.own, t.link.baud, t.sheets.active) = (9, 921600, none) := by decide
theorem test_reset_input_mark :
    (after (.resetInput { resetPins with pmark := true }) running).qual.print.state = .discarding := by
  decide
/-- R187: a RESTART acts when its reply has been sent. -/
theorem test_restart :
    let s := after .replyWaitEnd (after (.restart 0) running)
    let t := after (.replyEnd 5 1) s
    (s.seq.f.state, t.seq.f.state, t.sheets.active.isSome, t.items.geo.dF) = (.on, .off, true, 14000) := by
  decide
/-- R4, R179: BUSY on a moving web, with the value in force. -/
theorem test_encoder_direction_busy :
    let t := after (.webTimingConfigWrite .encoderDirection 1) running
    (resultOf t, bodyOf t) = (0x14, [0x01, 0, 0, 0, 0]) := by decide

/-! ## Witnesses: for each statement with hypotheses, a state and operands that meet them -/

/-- The same station with the cylinders' parts or the lane replaced. -/
def withLoop (x : Loop) : State := { running with loop := running.loop.set .f x }
def withEmit (x : Emitter) (p : Int) : State :=
  { running with emit := running.emit.set .f x, loop := running.loop.set .f { resetLoop with p := p, a := p } }
def withSeq (x : Sequencer) (cnf : Bool) : State :=
  { running with seq := running.seq.set .f x, inputs := { running.inputs with cnf := ⟨cnf, true⟩ } }
def withLane (x : LaneCtl) : State := { running with lane := running.lane.set .l1 x }
def stoppedWeb (s : State) : State := { s with web := { s.web with stopped := true } }

theorem witness_StepTakesFrontCommand :
    { running with pending := [.idleGap, .overlap] }.pending = .idleGap :: [.overlap] := rfl

/-- An edge of CNF_F that waits is posted by the tick. -/
theorem witness_EmptyQueueStepIsOneTick :
    running.pending = [] ∧
    (match step { running with inputs := { running.inputs with edge := ⟨true, false⟩ } } with
      | .next t => t.pending
      | _ => []) = [.confirmRise ⟨.f, true⟩] := by decide

theorem witness_FrameSpellsItsRow :
    (Instr.curveWrite 3 (List.replicate 8 0xFFFF)).wellFormed = true ∧
    (requestFrame (.curveWrite 3 (List.replicate 8 0xFFFF))).isSome = true ∧
    requestFrame (.disengage 2 true) = some (true, 0x21, [2]) ∧
    requestFrame (.nudge 1 0x3E3) = some (false, 0x23, [1, 0x03, 0xE3]) := by decide

theorem witness_FramesThatReachNoBlock :
    (Listening running ∧ (List.replicate 250 (0 : Byte)).length ≤ 250 ∧
      (0x36 : BitVec 16) ≠ frameCheck 5 0x23 [0, 0, 0x0A] ∧
      (5 : Byte) = running.link.own.setWidth 8 ∧ running.link.own ≠ 0) ∧
    ((0 : Byte) ≠ running.link.own.setWidth 8 ∧ (6 : Byte) ≠ running.link.own.setWidth 8 ∧
      (0 : Byte) ≠ 0x7F) ∧
    ((bodyOf (after (.frameReceived 5 0x06 [] (frameCheck 5 0x06 [])) running),
      resultOf (after (.frameReceived 5 0x06 [] (frameCheck 5 0x06 [])) running)) = ([], 0x10) ∧
      resultOf (after (.frameReceived 5 0x23 [0, 0] (frameCheck 5 0x23 [0, 0])) running) = 0x11) ∧
    ((0x16 : Byte) ≠ 0x16 ∨ [(0 : Byte)] ≠ []) ∧ (∀ c : Byte, [3] = [c] → 2 < c.toNat) := by
  refine ⟨⟨⟨rfl, rfl⟩, ?_, ?_, ?_, ?_⟩, ?_, ?_, by decide, fun c h => ?_⟩
  · decide +kernel
  · decide
  · decide
  · decide
  · decide
  · decide
  · cases h; decide

theorem witness_RequestLostWhileReplyPending :
    requestFrame .statusRead = some (false, 0x01, []) ∧
    (withLink { running.link with txen := true, replyPending := true }).link.txen = true ∧
    (after .statusRead running).link.txen = false ∧
    (after .statusRead running).link.replyPending = true := by decide

/-- A LANE CHECK of a lane in DWELL is refused with BAD_STATE, and is none of the two exceptions. -/
theorem witness_RefusedRequestChangesNothing :
    requestFrame (.laneCheck 1) = some (false, 0x33, [1]) ∧ Ready running ∧
    resultOf (after (.laneCheck 1) running) = 0x13 := by unfold Ready; decide

theorem witness_ReplyIsSentOnce :
    (127 < 128 ∧ (List.replicate 249 (0 : Byte)).length ≤ 249) ∧
    (let l := { running.link with replyPending := true, image := [0xC3] }
     (l.replyPending = true ∧ l.txen = false ∧ l.overlapSeen = false) ∧
     { l with overlapSeen := true }.overlapSeen = true ∧
     ({ l with txen := true }.txen = true ∧ l.restart = none)) := by decide +kernel

/-- The station with a forward count waiting. -/
def moving : State := { running with pending := [.encoderTransition false true] }
theorem moving_steps : ∃ t, step moving = .next t := ⟨_, rfl⟩

theorem witness_StepKeepsPhaseInRepeat : PhaseSound moving ∧ ∃ t, step moving = .next t := by
  refine ⟨⟨fun sh h => ?_, fun sh h => (nomatch h), fun h => (nomatch h)⟩, moving_steps⟩
  cases h
  exact ⟨by unfold lengthSound; decide, fun c => by cases c <;> decide⟩

theorem witness_StepKeepsMissWindow : MissSound moving ∧ ∃ t, step moving = .next t :=
  ⟨fun c => by cases c <;> decide, moving_steps⟩

theorem witness_StepKeepsTracker :
    (TrackerSound moving ∧ WaitsSound moving) ∧ ∃ t, step moving = .next t := by
  refine ⟨⟨?_, ?_⟩, moving_steps⟩
  · unfold TrackerSound; decide
  · unfold WaitsSound; decide

/-- The oldest record at its removal point, and the newest at W. -/
def fullTrack : State :=
  { moving with
    track := { resetTrack with records := [label 10 59501, label 11 99000, label 12 100000],
                               nextSerial := 13 } }
theorem witness_StepKeepsTrack :
    ((TrackSound moving ∧ RejectSound moving) ∧ ∃ t, step moving = .next t) ∧
    OrderSound fullTrack ∧ (fullTrack.web.w - 59501).toInt + 1 = 40500 ∧
    ∃ t, step fullTrack = .next t ∧ CreatesInOrder fullTrack t := by
  refine ⟨⟨⟨?_, ?_⟩, moving_steps⟩, ?_, by decide, _, rfl, .inl (by decide)⟩
  · unfold TrackSound; decide
  · refine ⟨fun h => (nomatch h), fun ⟨r, h, hv⟩ => ?_⟩
    cases List.mem_singleton.mp h
    cases hv
  · unfold OrderSound; decide

theorem witness_StepKeepsTrimAccount : TrimSound moving ∧ ∃ t, step moving = .next t :=
  ⟨fun c => by cases c <;> decide, moving_steps⟩

theorem witness_StepKeepsEmitter : EmitterSound moving ∧ ∃ t, step moving = .next t :=
  ⟨fun c => by cases c <;> decide, moving_steps⟩

theorem witness_StepKeepsSequencers :
    (ImpressionSound moving ∧ SequencerSound moving ∧ DwellSound moving) ∧
      ∃ t, step moving = .next t :=
  ⟨⟨fun c => by cases c <;> decide, fun c => by cases c <;> decide, by unfold DwellSound; decide⟩,
    moving_steps⟩

/-- The station with the next generation committed and waiting. -/
def waitingSheet : State :=
  { moving with sheets := { moving.sheets with pending := some { sheet7 with gen := 8 }, lastGen := 8 } }

theorem witness_StepKeepsPendingSheet :
    PendingSound waitingSheet ∧ ∃ t, step waitingSheet = .next t := by
  refine ⟨⟨fun p h => ?_, fun sh h => ?_⟩, ⟨_, rfl⟩⟩
  · cases h
    exact ⟨rfl, rfl, sheet7, rfl, by decide, rfl⟩
  · rcases h with h | h <;> cases h <;> decide

theorem witness_StepKeepsGeometry :
    (PendingSound moving ∧ GeometrySound moving) ∧ ∃ t, step moving = .next t := by
  refine ⟨⟨⟨fun p h => (nomatch h), fun sh h => ?_⟩, ?_⟩, moving_steps⟩
  · rcases h with h | h
    · cases h; decide
    · cases h
  · refine ⟨by decide, by decide, by decide, by decide, by decide, by decide, by decide, fun sh h => ?_⟩
    cases h
    decide

theorem witness_StepKeepsLanes :
    (LaneSound moving ∧ DriveSound moving) ∧ ∃ t, step moving = .next t := by
  refine ⟨⟨fun l => by cases l <;> decide, fun l m d => ?_, fun d => ?_⟩, moving_steps⟩
  · cases l <;> cases m <;> cases d <;> decide
  · refine ⟨fun h => ?_, fun ⟨l, h⟩ => ?_⟩
    · cases d
      · exact ⟨.l0, rfl⟩
      · exact ⟨.l1, rfl⟩
      · cases h
      · cases h
    · cases d <;> cases l <;> first | rfl | exact nomatch h

theorem witness_StepKeepsLeads : LeadSound moving ∧ ∃ t, step moving = .next t :=
  ⟨fun l => by cases l <;> decide +kernel, moving_steps⟩

theorem witness_StepKeepsRunLists : RunListSound moving ∧ ∃ t, step moving = .next t := by
  refine ⟨⟨fun sh h => ?_, fun sh h => (nomatch h), fun sh l h => ?_, fun h => (nomatch h)⟩,
    moving_steps⟩
  · cases h
    intro l
    unfold spansSound
    cases l <;> decide
  · cases h
    unfold runsSound
    cases l <;> decide

/-- FOIL_BREAK is in the reset alarm mask. -/
theorem witness_StepKeepsAlarm :
    let s := raise ⟨.foilBreak, .lane .l1, none, 401⟩ moving
    (AlarmSound s ∧ ∃ t, step s = .next t ∧ t.faults.flags = s.faults.flags ∧
      t.items.alarmMask = s.items.alarmMask) ∧ s.items.freeze = false ∧ s.faults.flags ≠ 0 ∧ 4095 < 4096 ∧
    ∃ t, exec (.resetInput resetPins) s = .next t :=
  ⟨⟨⟨fun _ => ⟨.foilBreak, by decide⟩, fun _ => by decide⟩, ⟨_, rfl, by decide, by decide⟩⟩, rfl,
    by decide, by decide, ⟨_, rfl⟩⟩

theorem witness_StepKeepsLink :
    (LinkSound moving ∧ BufferSound moving) ∧ ∃ t, step moving = .next t := by
  refine ⟨⟨?_, ?_⟩, moving_steps⟩
  · unfold LinkSound; decide
  · unfold BufferSound; decide

theorem witness_StepKeepsCounters :
    (CounterSound moving ∧ SpeedSound moving) ∧ ∃ t, step moving = .next t := by
  refine ⟨⟨⟨by decide, fun c => by cases c <;> decide, fun x => by cases x <;> decide, by decide,
    by decide, by decide, fun l => by cases l <;> decide, by decide⟩, ?_⟩, moving_steps⟩
  unfold SpeedSound; decide

theorem witness_StepKeepsItems : ItemSound moving ∧ ∃ t, step moving = .next t := by
  refine ⟨fun i => ?_, moving_steps⟩
  cases i with
  | web i => cases i <;> (unfold itemRange; decide)
  | index i => rename_i c; cases i <;> cases c <;> (unfold itemRange; decide)
  | mark i => cases i <;> (unfold itemRange; decide)
  | geo i => cases i <;> (unfold itemRange; decide)
  | loop i => rename_i c; cases i <;> cases c <;> (unfold itemRange; decide)
  | act i => cases i <;> first | (unfold itemRange; decide) | (rename_i c; cases c <;> (unfold itemRange; decide))
  | mapping l => cases l <;> (unfold itemRange; decide)
  | lane i l => cases i <;> cases l <;> (unfold itemRange; decide)
  | rejectMask => unfold itemRange; decide
  | trimInterval => unfold itemRange; decide
  | freezeOnFirst => unfold itemRange; decide
  | alarmMask => unfold itemRange; decide

/-- A count that brings F to a boundary and to throw phase 0, E to its last miss, and lane 1 to its park
timeout. -/
def countingState : State :=
  { running with
    track := resetTrack,
    sheets := { running.sheets with active := some { sheet7 with
      params := { sheet7.params with throwF := 0 } } },
    phase := ⟨{ resetPhase with phi := 9215872, hold := 9215872 },
      { resetPhase with phi := 127744, missOpen := true, missCount := 2 }⟩,
    seq := ⟨⟨.waitPhase, false, none, none, .none⟩, ⟨.on, true, none, none, .none⟩⟩,
    inputs := { running.inputs with cnf := ⟨false, true⟩ },
    lane := running.lane.set .l1 { laneReady [] with state := .parked, parkTimer := 59 } }

/-- The same with the next generation of the same L_sub waiting, which does not use E and keeps F thrown on. -/
def countingSwap (usesF : Bool) : State :=
  { countingState with sheets := { countingState.sheets with pending := some { sheet7 with
      gen := 8, params := { sheet7.params with usesF := usesF, usesE := false, tE := 0 } } } }

/-- The boundary takes the sheet in and throws E off; F, in WAIT_PHASE, goes on where the sheet uses it. One
sub-count less in φ, or one in H below half a repeat, fires no boundary. -/
theorem witness_EncoderForwardCountOrError_steps :
    (∀ b, (countingSwap b).sheets.active.isSome = true ∧
      (countingSwap b).sheets.pending.all (·.params.lSub == sheet7.params.lSub) = true ∧
      (countingSwap b).sheets.active.all (crosses · (countingSwap b).phase.f) = true ∧
      (after (.encoderTransition false true) (countingSwap b)).sheets.active.map (·.gen) = some 8 ∧
      (after (.encoderTransition false true) (countingSwap b)).seq.e.cause = .sheet ∧
      (after (.encoderTransition false true) (countingSwap b)).seq.f.state =
        (if b then .engaging else .off)) ∧
    (∀ sh, (countingSwap true).sheets.pending = some sh → keepsThrown sh (countingSwap true) .f) ∧
    (let p := { resetPhase with phi := 9215872, hold := 4607808 }
     crosses sheet7 p = true ∧ crosses sheet7 { p with phi := 9215871 } = false ∧
       crosses sheet7 { p with hold := 4607807 } = false ∧
       fires { sheet7 with params := { sheet7.params with throwF := 0 } } .f p = true) ∧
    loses sheet7 (countingState.items.index.get .e) countingState.phase.e = true ∧
    State.reset.sheets.active = none := by
  refine ⟨fun b => by cases b <;> decide, fun sh h => ?_, by decide, by decide, rfl⟩
  cases h
  exact ⟨rfl, fun _ l => by cases l <;> decide⟩

theorem witness_EncoderForwardCountOrError :
    (countingState.sheets.pending = none ∧
      (false, true) = (if countingState.items.web.inverted
        then (!countingState.web.encB, countingState.web.encA)
        else (countingState.web.encB, !countingState.web.encA)) ∧
      countingState.sheets.active.isSome = true ∧ countingState.track.records = [] ∧
      countingState.track.gateHeld = false ∧ countingState.items.freeze = false ∧
      (countingState.seq.get .f).state = .waitPhase ∧ countingState.inputs.cnf.get .f = false ∧
      (countingState.lane.get .l1).state = .parked ∧
      ∀ l, (countingState.lane.get l).state ≠ .run) ∧
    (let t := after (.encoderTransition false true) countingState
     t.phase.f = { resetPhase with phi := 0, pub := 0, hold := 0, armed := false,
                                   missOpen := true } ∧
     t.seq.f.state = .engaging ∧ t.phase.e.indexLost = true ∧
     ((t.lane.get .l1).parkTimer, (t.lane.get .l1).parkExpired) = (60, true) ∧
     t.faults.flags = 0x240) ∧
    State.reset.sheets.active = none := by
  refine ⟨⟨rfl, rfl, rfl, rfl, rfl, rfl, rfl, rfl, rfl, fun l => by cases l <;> decide⟩, ?_, rfl⟩
  decide

/-- With CNF_F active F goes ON at its throw phase: it stays so without a lane in DWELL, and a lane whose run
starts on the same count without foil faults and throws it off again (R84, R126, R128, R135, R92). -/
theorem witness_EncoderForwardCountOrError_confirmed :
    let on := fun (x : LaneCtl) => { countingState with
      inputs := running.inputs, lane := ⟨x, resetLane, resetLane, resetLane⟩,
      sheets := { countingState.sheets with active := countingState.sheets.active.map fun sh =>
        { sh with spans := sh.spans.set .l0 [⟨0, 9⟩] } } }
    let dry := { laneReady [⟨0, 9⟩] with foil := 0, hold := false }
    let t := fun x => after (.encoderTransition false true) (on x)
    (∀ l, ((on resetLane).lane.get l).state ≠ .run ∧ ((on resetLane).lane.get l).state ≠ .dwell) ∧
    (t resetLane).seq.f.state = .on ∧ ((on dry).lane.get .l0).state = .dwell ∧
    (t dry).seq.f.state = .releasing ∧ (t dry).lane.l0.state = .faulted := by
  refine ⟨fun l => by cases l <;> decide, by decide +kernel, by decide, by decide +kernel, by decide +kernel⟩

/-- The newest record at W: a PREDICTED one in COAST, above one a count behind it. -/
def rollingBack : State :=
  { running with
    track := { resetTrack with
      records := [label 10 99999, newRecord 11 .predicted 100000 none] },
    tracker := { resetTracker with state := .coast, coast := 1, eSub := 34816128 } }
theorem witness_EncoderReverseCount :
    ((true, false) = (if rollingBack.items.web.inverted
        then (rollingBack.web.encB, !rollingBack.web.encA)
        else (!rollingBack.web.encB, rollingBack.web.encA)) ∧
      rollingBack.sheets.active = some sheet7 ∧ State.reset.sheets.active = none) ∧
    (rollingBack.track.gateHeld = false ∧ rollingBack.tracker.waiting = false ∧
      rollingBack.qual.print.state ≠ .measuring ∧ rollingBack.qual.foil.state ≠ .measuring) ∧
    (∀ r, running.track.records.getLast? = some r → (r.r - (running.web.w - 1)).toInt ≤ 0) ∧
    (rollingBack.track.records = [label 10 99999] ++ [newRecord 11 .predicted 100000 none] ∧
      0 < ((newRecord 11 .predicted 100000 none).r - (rollingBack.web.w - 1)).toInt ∧
      ((label 10 99999).r - (rollingBack.web.w - 1)).toInt ≤ 0 ∧
      rollingBack.tracker.state = .coast) := by
  refine ⟨by decide, by decide, fun r h => ?_, by decide⟩
  cases h; decide

theorem witness_SpeedGateEndPublishes :
    (let s := { waitingSheet with web := { waitingSheet.web with tally := 4 } }
     s.web.stopped = false ∧ (after .speedGateEnd s).web.stopped = true ∧
       s.sheets.pending = some { sheet7 with gen := 8 }) ∧
    running.sheets.pending = none ∧
    (let s := withSeq ⟨.waitPhase, false, none, none, .none⟩ false
     s.web.stopped = false ∧
       max (-32768) (min 32767 s.web.tally) ≤ (s.items.web.threshold : Int) ∧
       s.sheets.pending = none ∧ s.seq.f.state = .waitPhase ∧ s.inputs.cnf.f = false ∧
       s.seq.e.state ≠ .waitPhase ∧ s.items.act.throwOff = true ∧ s.items.act.stopDwell ≠ 0) ∧
    (let s := { withSeq ⟨.off, false, none, none, .stop⟩ false with
        resume := true, web := { running.web with tally := 5, stopped := true } }
     (s.items.web.threshold : Int) < max (-32768) (min 32767 s.web.tally) ∧
       s.resume = true ∧ s.seq.f.state = .off ∧
       (s.sheets.active.any (·.params.usesF) && s.items.geo.dF != 0 && s.items.geo.dFS != 0 &&
         s.items.geo.dE != 0 && s.items.geo.dR != 0) = true ∧
       (after .speedGateEnd s).seq.f.state = .waitPhase ∧
       (after .speedGateEnd { s with items := { s.items with geo := resetItems.geo } }).seq.f.state =
         .off) := by
  decide +kernel

theorem witness_IndexArrivalOnlyCounted :
    State.reset.sheets.active = none ∧
    { running with web := { running.web with dir := .reverse } }.web.dir = .reverse ∧
    ((after (.indexConfigWrite .phaseSource .f 1) running).items.index.get .f).source = .reckon := by
  decide

/-- φ exactly at the tolerance of 12,800 sub-counts, and one past it; and a boundary of F with the next
generation waiting, which does not use E and moves its target. -/
def swapping : State :=
  { waitingSheet with
    sheets := { waitingSheet.sheets with pending := some { sheet7 with
      gen := 8, params := { sheet7.params with usesE := false, tE := 0 } } },
    loop := running.loop.set .e { resetLoop with nudge := 7 },
    phase := running.phase.set .f { resetPhase with hold := 4608064 } }
theorem witness_IndexArrivalResynchronises :
    (running.sheets.active = some sheet7 ∧ running.sheets.pending = none ∧
      (running.items.index.get .e).source = .index ∧ running.web.dir = .forward) ∧
    ((12800 : Int).natAbs ≤ 256 * (running.items.index.get .e).tol ∧
      256 * (running.items.index.get .e).tol < (12801 : Int).natAbs ∧ running.items.freeze = false) ∧
    (swapping.sheets.active = some sheet7 ∧ swapping.sheets.pending.isSome = true ∧
      swapping.sheets.pending.all (·.params.lSub == sheet7.params.lSub) = true ∧
      swapping.items.index.f.source = .index ∧ swapping.web.dir = .forward ∧
      sheet7.params.lSub / 2 = swapping.phase.f.hold ∧
      swapping.sheets.pending.all (fun p => !p.params.uses .e && p.params.uses .f) = true ∧
      (swapping.seq.get .e).state = .on ∧ swapping.seq.f.state ≠ .waitPhase ∧
      (∀ l, (swapping.lane.get l).state ≠ .faulted) ∧
      (let t := after (.indexArrival .f) swapping
       (t.loop.e.nudge, t.seq.e.cause, t.seq.e.state) = (0, .sheet, .releasing))) ∧
    ({ swapping with lane := running.lane.set .l1 { laneReady [] with state := .faulted } }.lane.get
      .l1).state = .faulted ∧
    (∀ p, swapping.sheets.pending = some p → keepsThrown p swapping .f ∧ ¬ keepsThrown p swapping .e) ∧
    (let w := { swapping with
        seq := swapping.seq.set .f ⟨.waitPhase, false, none, none, .none⟩,
        inputs := { swapping.inputs with cnf := ⟨false, true⟩ },
        sheets := { swapping.sheets with active := some { sheet7 with
          params := { sheet7.params with throwF := 0 } } } }
     w.seq.f.state = .waitPhase ∧ (after (.indexArrival .f) w).seq.f.state = .engaging) := by
  refine ⟨by decide, by decide, ⟨rfl, by decide, by decide, rfl, rfl, by decide, by decide, rfl, by decide,
    fun l => by cases l <;> decide, by decide⟩, rfl, fun p h => ?_, by decide⟩
  cases h
  exact ⟨⟨rfl, fun _ l => by cases l <;> decide⟩, fun h => absurd h.1 (by decide)⟩

theorem witness_MarkEdgesMeasureOrReject :
    let high := { running with inputs := { running.inputs with pmark := true } }
    let back := { running with web := { running.web with dir := .reverse } }
    let short := { markEnding 99990 running.tracker 11 with web := { running.web with w := 100009 } }
    high.inputs.level .print = true ∧
    (running.inputs.level .print = false ∧ (running.qual.get .print).state = .waiting ∧
      running.web.dir = .forward) ∧
    (back.inputs.level .print = false ∧ (back.qual.get .print).state = .waiting ∧
      back.web.dir = .reverse) ∧
    (high.setQual .print { resetQual 20 150 with state := .discarding }).qual.print.state = .discarding ∧
    (short.inputs.level .print = true ∧ (short.qual.get .print).state = .measuring ∧
      (short.web.w - (short.qual.get .print).lead).toInt < (short.qual.get .print).min) ∧
    (let wide := { short with web := { short.web with w := 100141 } }
     wide.web.w = (short.qual.get .print).lead + BitVec.ofNat 32 ((short.qual.get .print).max + 1) ∧
       ¬ short.web.w = (short.qual.get .print).lead + BitVec.ofNat 32 ((short.qual.get .print).max + 1) ∧
       (qualForward .print wide).qual.print.state = .discarding) ∧
    ((running.qual.get .foil).state ≠ .measuring ∧ running.tracker.waiting = false ∧
      running.track.gateHeld = false) ∧
    (let w := { short with tracker := { short.tracker with waiting := true } }
     w.tracker.waiting = true ∧ (measurementEnded .print w).tracker.waiting = false ∧
       (measurementEnded .print w).track.records.length = 1) ∧
    (let h := { running with track := { running.track with gateHeld := true } }
     h.track.gateHeld = true ∧ (measurementEnded .foil h).track.gate = 1) := by decide

/-- A print mark 118 counts wide that ends now, for a tracker in a state. -/
def markFor (x : TrackerState) (k : Nat) : State :=
  markEnding 109050 { resetTracker with state := x, k := k, q := 73050, eSub := 27916800 } 1
/-- W at the coast point of an expectation, and a count before it. -/
def atCoast (x : TrackerState) (n : Nat) (w : Pos) : State :=
  { running with web := { running.web with w := w },
                 tracker := { resetTracker with state := x, coast := n, eSub := 25600000 } }
/-- A mark of the greatest width, one at the edge of the gate and one a sub-count past it; the three
acquisition steps; and the coast point. -/
def atGate (off : Nat) : State :=
  { markEnding 109050 { resetTracker with state := .coast, coast := 1,
                                          eSub := BitVec.ofNat 40 (109050 * 256 - off) } 1 with
    web := { running.web with w := 109200 } }
theorem witness_PrintMarkAcceptedInGate :
    let s := atGate 51200
    let t := atGate 51201
    (s.sheets.active = some sheet7 ∧ s.inputs.pmark = true ∧ s.qual.print.state = .measuring ∧
      s.tracker.state = .coast ∧
      (s.qual.print.min : Int) ≤ (s.web.w - s.qual.print.lead).toInt ∧
      (s.web.w - s.qual.print.lead).toInt = s.qual.print.max ∧
      (BitVec.ofNat 40 (s.qual.print.lead.toNat * 256) - s.tracker.eSub).toInt.natAbs =
        256 * s.items.mark.gP ∧
      256 * t.items.mark.gP <
        (BitVec.ofNat 40 (t.qual.print.lead.toNat * 256) - t.tracker.eSub).toInt.natAbs) ∧
    ((markFor .search 0).tracker.k = 0 ∧ (markFor .lost 1).tracker.state = .lost ∧
      (BitVec.ofNat 40 ((109050 : Pos).toNat * 256) - (BitVec.ofNat 40 ((73050 : Pos).toNat * 256) +
        BitVec.ofNat 40 9216128)).toInt.natAbs ≤ 256 * running.items.mark.gP ∧
      (markFor .search 1).tracker.k + 1 < running.items.mark.acquire ∧
      running.items.mark.acquire ≤ (markFor .lost 2).tracker.k + 1 ∧
      (markFor .idle 0).tracker.state = .idle) ∧
    ((BitVec.ofNat 40 ((100200 : Pos).toNat * 256) - (25600000 + BitVec.ofNat 40 51200)).toInt = 0 ∧
      (BitVec.ofNat 40 ((100199 : Pos).toNat * 256) - (25600000 + BitVec.ofNat 40 51200)).toInt < 0 ∧
      (atCoast .locked 2 100200).tracker.coast + 1 < running.items.mark.coastLimit ∧
      running.items.mark.coastLimit ≤ (atCoast .coast 3 100200).tracker.coast + 1 ∧
      (coastTest (atCoast .coast 3 100200)).tracker.state = .lost ∧
      (atCoast .lost 4 100200).qual.print.state ≠ .measuring ∧
      (coastTest ((atCoast .lost 4 100200).setQual .print
        { resetQual 20 150 with state := .measuring })).tracker.waiting = true) := by decide

/-- A decision that waits, as the mark ends: a stray, an acquisition step that does not lock, and a mark
two counts too wide each coast; and a coast that finds 64 records, and one that finds 63. -/
theorem witness_PrintMarkAcceptedInGate_waiting :
    let waits := fun s : State => { s with tracker := { s.tracker with waiting := true } }
    let ended := fun s : State => (after (.markTrailingEdge .print) (waits s)).tracker
    let full := fun n : Nat => { atCoast .coast 1 100200 with track := { resetTrack with
      records := List.replicate n (label 1 99000), nextSerial := 64, nip := 1 } }
    (ended (atGate 51201)).coast = 2 ∧ (ended (atGate 51201)).waiting = false ∧
    ((ended (markFor .lost 1)).k, (ended (markFor .lost 1)).eSub) = (2, 27916800 + 9216128) ∧
    (let wide := { atGate 0 with web := { running.web with w := 109201 } }
     ¬ (wide.web.w - wide.qual.print.lead).toInt ≤ wide.qual.print.max ∧
       (ended wide).coast = 2 ∧ (ended wide).state = .coast) ∧
    ((full 64).track.records.length = 64 ∧ (coast (full 64)).track.records.length = 64 ∧
      (coast (full 64)).track.overflow = 1 ∧ (coast (full 64)).track.nip = 0) ∧
    (coast (full 63)).track.records.length = 64 ∧ (coast (full 63)).track.overflow = 0 := by
  decide +kernel

/-- A foil mark at the edge of its gate, of the least width; and one with no record on the track. -/
theorem witness_FoilMarkGoesToOldestOpenGate :
    let s := { running with
      web := { running.web with w := 120220 },
      inputs := { running.inputs with fmark := true },
      qual := { running.qual with foil := { resetQual 20 400 with state := .measuring, lead := 120200 } },
      track := { resetTrack with records := [label 10 100000] } }
    (s.inputs.fmark = true ∧ s.qual.foil.state = .measuring ∧
      (s.qual.foil.min : Int) = (s.web.w - s.qual.foil.lead).toInt ∧
      (s.web.w - s.qual.foil.lead).toInt ≤ s.qual.foil.max) ∧
    (s.track.records[0]? = some (label 10 100000) ∧ s.track.gate ≤ 0 ∧
      (label 10 100000).foil = none ∧
      (s.qual.foil.lead - ((label 10 100000).r + BitVec.ofNat 32 s.items.geo.dFS)).toInt.natAbs =
        s.items.mark.gF) ∧
    { s.track with records := [] }.records[0]? = none ∧
    (let h := after (.markTrailingEdge .foil) { s with track := { s.track with gateHeld := true } }
     (h.track.records.map (·.foil), h.track.gate, h.track.gateHeld) = ([some (120200, 200)], 1, false)) :=
  by decide

/-- A label at the count before each due point of the five stations, and at it; the gate-close event held by
a measurement whose leading edge is the last count of the gate, and not by one a count later. -/
theorem witness_MarkerDecidesVerdict_stations :
    let at' := fun w : Nat => { running with
      web := { running.web with w := BitVec.ofNat 32 w },
      track := { resetTrack with records := [label 10 100000] } }
    let busy := fun lead : Nat => { at' 120200 with qual := { running.qual with
      foil := { resetQual 20 400 with state := .measuring, lead := BitVec.ofNat 32 lead } } }
    let closed := fun w : Nat => { at' w with track := { (at' w).track with gate := 1 } }
    (serveNip 1 (at' 113999)).track.nip = 0 ∧ (serveNip 1 (at' 114000)).track.nip = 1 ∧
    (serveGate 1 (at' 120199)).track.gate = 0 ∧ (serveGate 1 (at' 120200)).track.gate = 1 ∧
    (serveGate 1 (busy 120200)).track.gateHeld = true ∧ (serveGate 1 (busy 120201)).track.gate = 1 ∧
    (serveEmboss 1 (at' 131000)).track.emboss = 0 ∧ (serveEmboss 1 (closed 130999)).track.emboss = 0 ∧
    (serveEmboss 1 (closed 131000)).track.emboss = 1 ∧
    (serveMarker 1 (at' 139999)).track.marker = 0 ∧ (serveMarker 1 (at' 140000)).track.marker = 1 ∧
    (serveRemoval 1 (at' 140499)).track.records.length = 1 ∧
    (serveRemoval 1 (at' 140500)).track.records = [] ∧
    (let h := { closed 131000 with track := { (closed 131000).track with gate := 0, gateHeld := true } }
     h.track.gateHeld = true ∧ (releaseGate h).track.emboss = 1) ∧
    (at' 0).track.records.length ≤ 1 := by decide

theorem witness_MarkerDecidesVerdict :
    let off := { label 10 60000 with reasons := addReason .fOff 0 }
    let s := { running with track := { resetTrack with records := [off], nip := 1, gate := 1, emboss := 1 } }
    let late := { s with
      track := { s.track with emboss := 0 },
      sheets := { s.sheets with active := some { sheet7 with
        params := { sheet7.params with ref := .foil } } } }
    (s.track.records[s.track.marker]? = some off ∧ s.track.marker < s.track.emboss ∧
      off.reasons &&& s.items.rejectMask ≠ 0) ∧
    ({ s with track := { s.track with records := [label 10 60000] } }.track.records[s.track.marker]? =
      some (label 10 60000) ∧ (label 10 60000).reasons &&& s.items.rejectMask = 0) ∧
    (late.track.records[late.track.marker]? = some off ∧ late.track.emboss ≤ late.track.marker ∧
      late.track.records[late.track.marker + 1]? = none ∧
      late.sheets.active.any (·.params.ref == .foil) = true ∧
      (markerEvent off late).track.rej = true ∧
      (markerEvent off { late with items := { late.items with rejectMask := 0 } }).track.good = 1) ∧
    (running.track.records[running.track.nip]? = some (label 10 99000) ∧
      running.track.records[running.track.emboss]? = some (label 10 99000) ∧
      running.sheets.active = some sheet7) := by decide

/-- The least repeat; an error at the deadband; gain 16 with an error at the slew limit; and measurements
not taken, without a correction, and with one cut at Amax, the last tolerable run behind it. -/
theorem witness_ErrorWrapsAndCorrectionOpposes :
    0 < 1 ∧ (2 : Int).natAbs ≤ (resetItems.loop.get .f).deadband ∧
    (let it := { (resetItems.loop.get .f) with gain := 16 }
     it.gain = 16 ∧ it.deadband < (-200 : Int).natAbs ∧ (-200 : Int).natAbs ≤ it.slew) ∧
    (let s := withLoop { resetLoop with mode := .auto, a := 4999, n := 4999, run := 4 }
     let t := measure .f 0 (label 10 99000) true 99000 s
     s.sheets.active = some sheet7 ∧ sheet7.params.uses .f = true ∧ (s.loop.get .f).mode = .auto ∧
       (s.phase.get .f).indexLost = false ∧
       (t.loop.f.lastErr, t.loop.f.a, t.loop.f.lastCorr) = (some (-1200), 5000, some 1) ∧
       t.faults.flags = 0x500) ∧
    (withLoop { resetLoop with mode := .measure }).loop.f.mode = .measure ∧
    (withLoop resetLoop).loop.f.mode = .off ∧
    ({ sheet7.params with usesE := false }).uses .e = false ∧
    (running.emit.get .f).state ≠ .step := by decide

theorem witness_LoopRequestsTakeEffect :
    let s := withLoop { resetLoop with mode := .auto, nudge := 990, a := 5000, p := 5000 }
    let t := withLoop { resetLoop with nudge := -995, a := 5000, p := 5001, n := -1 }
    Ready s ∧ Ready t ∧ LoopMode.off ≠ (s.loop.get .f).mode ∧
    ((s.loop.get .f).nudge + (10 : BitVec 16).toInt = 1000) ∧
    1000 < (s.loop.get .f).nudge + (11 : BitVec 16).toInt ∧
    ((t.loop.get .f).nudge + (BitVec.ofInt 16 (-5)).toInt = -1000) ∧
    (t.loop.get .f).nudge + (BitVec.ofInt 16 (-6)).toInt < -1000 ∧
    (s.loop.get .f).p.natAbs = (s.items.loop.get .f).amax ∧
    (t.items.loop.get .f).amax < (t.loop.get .f).p.natAbs := by unfold Ready; decide

theorem witness_TrimMoveHeldToAmax :
    Ready (loopAt 0 0 0) ∧ ((loopAt 0 0 0).emit.get .f).state = .step ∧
    (let s := withEmit { resetEmitter with state := .space, tdir := .retard } (-1)
     Ready s ∧ (s.emit.get .f).state = .space ∧ (s.loop.get .f).p + 1 = 0 ∧ (s.loop.get .f).p + 2 ≠ 0 ∧
       (s.emit.get .f).tdir ≠ .advance) ∧
    (Ready running ∧ (running.emit.get .f).state = .idle ∧ (running.emit.get .f).tdir = .advance ∧
      (running.loop.get .f).p + 1 ≠ 0 ∧ running.sheets.active = some sheet7) ∧
    (let s := countingSwap true
     Ready s ∧ (s.emit.get .f).state = .idle ∧ (s.emit.get .f).tdir = .advance ∧
       (after (.trimMove 0 1) s).sheets.active.map (·.gen) = some 8) ∧
    (let s := withEmit { resetEmitter with tdir := .retard } 0
     Ready s ∧ (s.emit.get .f).state = .idle ∧ (s.emit.get .f).tdir = .retard ∧
       ((after (.trimMove 0 0xFFFF) s).phase.get .f).phi = 7999744) := by unfold Ready; decide

theorem witness_EmitterTimesEnd :
    let up := { resetEmitter with state := .step, tstp := true, lastStep := some 50 }
    let back := { up with tdir := .retard }
    let space := { up with state := .space, tstp := false, lastTurn := some 75 }
    ((withEmit up 2).emit.get .f).state = .step ∧ 0 < ((withEmit back 2).loop.get .f).p ∧
    ((withEmit back 2).emit.get .f).tdir = .retard ∧ ((withEmit up (-4)).loop.get .f).p < 0 ∧
    ((withEmit up (-4)).emit.get .f).tdir = .advance ∧ (running.emit.get .f).state ≠ .step ∧
    (((withEmit space 0).emit.get .f).state = .space ∧ ((withEmit space 0).loop.get .f).p = 0) ∧
    (running.emit.get .f).state ≠ .space := by decide

theorem witness_SpaceEndEmitsPulse :
    let s := withEmit { resetEmitter with state := .space } (-1)
    (s.emit.get .f).state = .space ∧ (s.loop.get .f).p < 0 ∧
    s.sheets.active = some sheet7 ∧ { s with sheets := resetSheets }.sheets.active = none ∧
    (let up := { countingSwap false with
        emit := s.emit, loop := running.loop.set .f { resetLoop with p := 1, a := 1 } }
     0 < (up.loop.get .f).p ∧ (after (.spaceEnd .f) up).sheets.active.map (·.gen) = some 8 ∧
       (after (.spaceEnd .f) up).seq.f.cause = .sheet) := by decide

theorem witness_ConfirmEdgesMoveSequencer :
    let s := withSeq ⟨.engaging, true, some 9, none, .none⟩ false
    let open_ := fun high => { s with inputs := { s.inputs with cnf := ⟨high, true⟩, edge := ⟨true, false⟩ } }
    ((s.seq.get .f).state = .engaging ∧ (s.seq.get .f).engage = some 9 ∧
      s.inputs.edge.get .f = false ∧ s.inputs.cnf.get .f = false) ∧
    ((open_ false).inputs.edge.get .f = true ∧ (open_ false).inputs.cnf.get .f = false) ∧
    ((open_ true).inputs.edge.get .f = true ∧ (open_ true).inputs.cnf.get .f = true) ∧
    ((withSeq ⟨.releasing, false, none, some 9, .host⟩ true).seq.get .f).state = .releasing ∧
    ((withSeq ⟨.off, false, none, none, .host⟩ true).seq.get .f).state ≠ .on ∧
    ((running.seq.get .f).state = .on ∧ running.inputs.edge.get .f = false) ∧
    ((withLane { laneReady [] with state := .run, run := some ⟨0, 9⟩ }).lane.get .l1).state = .run := by
  decide

theorem witness_SequencerTimersExpire :
    (let s := withSeq ⟨.engaging, true, some 9, none, .none⟩ false
     (s.seq.get .f).engage = some 9 ∧ (s.seq.get .f).state = .engaging ∧ s.inputs.cnf.get .f = false) ∧
    (let s := withSeq ⟨.engaging, true, some 9, none, .none⟩ true
     (s.seq.get .f).engage = some 9 ∧ s.inputs.cnf.get .f = true) ∧
    (let s := withSeq ⟨.releasing, false, none, some 9, .host⟩ true
     (s.seq.get .f).release = some 9 ∧ (s.seq.get .f).state = .releasing) ∧
    (running.seq.get .f).engage = none ∧ (running.seq.get .f).release = none ∧
    (let s := { stoppedWeb running with stopDwell := some 9 }
     s.stopDwell = some 9 ∧ s.seq.f.state = .on ∧ s.inputs.cnf.f = true) ∧
    running.stopDwell = none := by decide

theorem witness_EngageAndDisengage :
    let s := withSeq ⟨.off, false, none, none, .none⟩ false
    (Ready s ∧ s.sheets.active = some sheet7 ∧ sheet7.params.uses .f = true ∧
      s.items.geo.dF ≠ 0 ∧ s.items.geo.dFS ≠ 0 ∧ s.items.geo.dE ≠ 0 ∧ s.items.geo.dR ≠ 0 ∧
      (∀ l, (s.lane.get l).state ≠ .faulted) ∧ (s.seq.get .f).state = .off ∧ s.web.stopped = false) ∧
    ((stoppedWeb s).web.stopped = true ∧ (stoppedWeb s).inputs.cnf.get .f = false ∧
      (stoppedWeb (withSeq ⟨.off, false, none, none, .none⟩ true)).inputs.cnf.get .f = true) ∧
    (Ready State.reset ∧ State.reset.sheets.active = none) ∧
    (let x := { s with lane := running.lane.set .l1 { laneReady [] with state := .faulted } }
     (x.lane.get .l1).state = .faulted ∧ x.spans .l1 ≠ []) ∧
    ((running.seq.get .f).state = .on ∧
      ((withSeq ⟨.waitPhase, false, none, none, .none⟩ false).seq.get .f).state = .waitPhase ∧
      ((withSeq ⟨.releasing, false, none, some 9, .host⟩ true).seq.get .f).state = .releasing ∧
      ((withSeq ⟨.engaging, true, some 9, none, .none⟩ false).seq.get .f).state = .engaging) := by
  unfold Ready
  refine ⟨⟨by decide, rfl, rfl, by decide, by decide, by decide, by decide,
    fun l => by cases l <;> decide, rfl, rfl⟩, by decide, by decide, by decide, by decide⟩

theorem witness_StagedSheetRequests :
    Ready running ∧ 4 ≤ (4 : Byte).toNat ∧ 2 ≤ (2 : Byte).toNat ∧
    running.sheets.active = some sheet7 ∧ (Ready State.reset ∧ State.reset.sheets.active = none) ∧
    exec .sheetClear running = .next (after .sheetClear running) := by
  refine ⟨?_, by decide, by decide, by decide, ?_, rfl⟩ <;> (unfold Ready; decide)

/-- One good entry at index 47, alone, before one more, and at 46 before a bad one; and index 48. -/
theorem witness_WindowWriteStoresPrefix :
    let good : WindowBytes × Option Window := (⟨3, 7, 65535, 15, 1⟩, some ⟨.l3, 7, 65535, 15, true⟩)
    Ready running ∧ running.sheets.staged.windows.length = 48 ∧ (47 : Byte).toNat < 48 ∧
    entryOf good.1 = some good.2 ∧ (47 : Byte).toNat + [good].length = 48 ∧
    (46 : Byte).toNat + [good].length < 48 ∧ entryOf ⟨4, 0, 1, 0, 0⟩ = none ∧
    entryOf ⟨0, 0, 0, 0, 0⟩ = none ∧ entryOf ⟨0, 0, 1, 16, 0⟩ = none ∧ entryOf ⟨0, 0, 1, 15, 2⟩ = none ∧
    entryOf ⟨255, 9, 0, 99, 7⟩ = some none ∧ 48 ≤ (48 : Byte).toNat ∧
    (List.replicate 8 good.1).length ≤ 8 := by unfold Ready; decide +kernel

/-- Every condition and every part of the mask, each at the end of its range. -/
theorem witness_WindowEditChangesMatched :
    Ready running ∧ (∀ n, some 15 = some n → n ≤ 15 ∧ (15 : Byte) = BitVec.ofNat 8 n) ∧
    (∀ x, (some (none : Option Lane)) = some x →
      (255 : Byte) = match x with | some l => laneByte l | none => 255) ∧
    (∀ b, some true = some b → (1 : Byte) = BitVec.ofNat 8 b.toNat) ∧
    (∀ d : BitVec 16, some 0x8000 = some d → (0x8000 : BitVec 16) = d) := by
  refine ⟨by unfold Ready; decide, fun n h => ?_, fun x h => ?_, fun b h => ?_, fun d h => ?_⟩ <;>
    cases h <;> decide

theorem witness_CommitOutcomes :
    let other := { running with sheets := { running.sheets with staged :=
      { running.sheets.staged with params := { sheet7.params with lSub := 9216384 } } } }
    let first := { running with sheets := { running.sheets with active := none } }
    (Ready State.reset ∧ commitCheck State.reset.sheets.staged State.reset.items = some (1, 255)) ∧
    (Ready other ∧ commitCheck other.sheets.staged other.items = none ∧
      sheet7.params.lSub ≠ other.sheets.staged.params.lSub ∧ other.web.stopped = false) ∧
    (Ready running ∧ commitCheck running.sheets.staged running.items = none ∧
      running.sheets.active = some sheet7 ∧
      sheet7.params.lSub = running.sheets.staged.params.lSub ∧ running.web.stopped = false ∧
      running.sheets.pending.isSome = false ∧ waitingSheet.sheets.pending.isSome = true) ∧
    (Ready first ∧ commitCheck first.sheets.staged first.items = none ∧
      first.sheets.active = none ∧ { first with tracker := resetTracker }.tracker.state = .idle) ∧
    ((stoppedWeb other).web.stopped = true ∧ (stoppedWeb other).sheets.active = some sheet7 ∧
      (stoppedWeb other).tracker.state = .locked) := by unfold Ready; decide +kernel

/-- A COMMIT of another L_sub on a stopped web, with φ of F on its throw phase and F in WAIT_PHASE with CNF_F
active, by whether the sheet uses F and whether lane 1, with spans in it, is FAULTED. -/
def swapAtOnce (usesF faulted : Bool) : State :=
  stoppedWeb { running with
    seq := { running.seq with f := ⟨.waitPhase, false, none, none, .none⟩ }, stopDwell := some 9,
    resume := true,
    lane := running.lane.set .l1 { running.lane.l1 with state := if faulted then .faulted else .run },
    sheets := { running.sheets with staged := { running.sheets.staged with
      params := { sheet7.params with lSub := 9216384, throwF := 31250, usesF := usesF } } } }

/-- F goes ON where it stays thrown; otherwise it has gone ON when the throw-off comes, and the runs are cut. -/
theorem witness_CommitOutcomes_swap :
    (∀ u x, Ready (swapAtOnce u x) ∧
      commitCheck (swapAtOnce u x).sheets.staged (swapAtOnce u x).items = none ∧
      (swapAtOnce u x).web.stopped = true) ∧
    (let t := fun u x => after (.commit false) (swapAtOnce u x)
     ((t true false).seq.f.state, (t true false).resume, (t true false).stopDwell.isSome) = (.on, true, true) ∧
     ((t false false).seq.f.state, (t false false).resume, (t false false).stopDwell.isSome) =
       (.releasing, false, false) ∧
     (t true true).seq.f.state = .releasing ∧
     ((t false false).seq.f.cause, (t true true).seq.f.cause) = (.sheet, .fault) ∧
     ((t true false).lane.l1.state, (t false false).lane.l1.state) = (.run, .dwell) ∧
     (swapAtOnce true false).phase.f.phi % 9216384 / 256 = 31250) ∧
    keepsThrown (compile (swapAtOnce true false).sheets.staged 8) (swapAtOnce true false) .f ∧
    ¬ keepsThrown (compile (swapAtOnce false false).sheets.staged 8) (swapAtOnce false false) .f ∧
    ¬ keepsThrown (compile (swapAtOnce true true).sheets.staged 8) (swapAtOnce true true) .f := by
  refine ⟨fun u x => by cases u <;> cases x <;> (unfold Ready; decide +kernel),
    by dsimp only; decide +kernel, ⟨rfl, fun _ l => by cases l <;> decide +kernel⟩, fun h => ?_, fun h => ?_⟩
  · exact absurd h.1 (by decide)
  · exact absurd (h.2 rfl .l1 rfl) (by decide +kernel)

/-- The staged sheet of the worked case with each of the ten checks broken at its boundary, and for checks 4
to 10 also with the one before it met at its boundary. -/
theorem witness_CommitOutcomes_checks :
    let p := sheet7.params
    let lone := fun w : Window => (some w :: List.replicate 47 none : List (Option Window))
    let many := (List.range 48).map fun i => if i < 5 then none else
      if i < 18 then some (⟨.l1, 4 * i, 2, 0, true⟩ : Window) else none
    let check := fun (p : SheetParams) (ws : List (Option Window)) (it : Items) => commitCheck ⟨p, ws⟩ it
    let it := running.items
    check { p with lSub := 511999 } sheet7.windows it = some (1, 255) ∧
    check { p with lSub := 16777216 } sheet7.windows it = some (1, 255) ∧
    check { p with tF := p.lSub } sheet7.windows it = some (2, 255) ∧
    check { p with tF := p.lSub - 1, tE := p.lSub } sheet7.windows it = some (3, 255) ∧
    check { p with tE := p.lSub - 1, throwF := 36000 } sheet7.windows it = some (4, 255) ∧
    check { p with throwF := 35999, throwE := 36000 } sheet7.windows it = some (5, 255) ∧
    check { p with throwE := 35999 } (none :: lone ⟨.l2, 35999, 2, 0, true⟩) it = some (6, 1) ∧
    check p (none :: lone ⟨.l2, 35999, 1, 0, true⟩) it = some (7, 1) ∧
    check p (none :: lone ⟨.l2, 35999, 2, 0, false⟩) it = none ∧
    check p many it = some (8, 5) ∧
    check { p with usesF := false, usesE := false } (many.set 5 none) it = some (9, 255) ∧
    check { p with usesF := false } (many.set 5 none)
      { it with mark := { it.mark with gP := 9001 } } = some (10, 255) ∧
    check { p with usesF := false } (many.set 5 none)
      { it with mark := { it.mark with gP := 9000 } } = none := by decide +kernel

theorem witness_LaneRequestsByState :
    let inState := fun x => withLane { laneReady [] with state := x }
    Ready running ∧ (running.lane.get .l1).state = .dwell ∧
    (let x := { laneReady [] with state := .run, run := some ⟨0, 9⟩ }
     x.state = .run ∧ x.parkPending = false ∧ { x with parkPending := true }.parkPending = true) ∧
    (let s := withLane { laneReady [] with state := .faulted, foil := 0 }
     (s.lane.get .l1).state = .faulted ∧ (s.lane.get .l1).foil = 0) ∧
    ((inState .faulted).lane.get .l1).foil ≠ 0 ∧
    ((inState .parked).lane.get .l1).parkExpired = false ∧
    ((laneOne parkedOne .on).lane.get .l1).parkExpired = true ∧
    ((inState .check).lane.get .l1).state = .check ∧
    (running.lane.get .l2).state = .disabled ∧ running.seq.f.state ≠ .off ∧
    (laneOne parkedOne .off).seq.f.state = .off := by unfold Ready; decide

/-- A check at its last step but one, and at its end; foil 2, a motion counter one below the window; the
step past the window, the step to the low threshold, the step that empties the roll, and none left. -/
theorem witness_MotionAndCheckTimer :
    let x := { laneReady [] with
      state := .check, checkTimer := some 9, check := ⟨false, .none, 399, 0⟩, foil := 2, motion := 399,
      runSteps := 65534 }
    let s := withLane x
    ((s.lane.get .l1).state = .check ∧ (s.lane.get .l1).checkTimer = some 9 ∧
      x.check.steps < x.checkSteps ∧ (s.items.lane.get .l1).drive = some .d1 ∧ x.foil ≠ 0 ∧
      x.foil ≠ 1 ∧ x.runSteps < 65535 ∧ ¬ (s.items.lane.get .l1).window < x.motion + 1) ∧
    { x with check := ⟨false, .none, 400, 0⟩ }.checkSteps ≤ 400 ∧
    (s.items.lane.get .l1).window < { x with motion := 400 }.motion + 1 ∧
    { x with foil := 1 }.foil = 1 ∧ { x with foil := 0 }.foil = 0 ∧
    (running.lane.get .l1).state ≠ .check ∧ (running.lane.get .l1).checkTimer = none := by decide

/-- Phase counts at the start and the end of a run; foil, window, run steps and tally just enough; the
second of two steps at the low threshold, past the window, and the last of the roll; and the run end. -/
theorem witness_RunStartsAndStepsByRatio :
    ((running.lane.get .l2).state ≠ .dwell ∧ (running.lane.get .l2).state ≠ .run) ∧
    let x := running.lane.get .l1
    let y := { laneReady [] with
      state := .run, run := some ⟨0, 9⟩, ratioNow := 131072, foil := 3, motion := 398,
      runSteps := 65533, tally := 16777213 }
    let it := running.items.lane.get .l1
    let due := (y.acc + y.ratioNow) / 65536
    (x.state = .dwell ∧ x.runList = [] ++ ⟨2000, 6100⟩ :: [⟨20000, 26100⟩] ∧
      (2000 ≤ 2000 ∧ 2000 < 6100) ∧ x.hold = false ∧ running.seq.f.state = .on) ∧
    (∀ r ∈ x.runList, ¬ (r.start ≤ 6100 ∧ 6100 < r.stop)) ∧
    { x with hold := true }.hold = true ∧
    (withSeq ⟨.off, false, none, none, .none⟩ false).seq.f.state ≠ .on ∧
    (y.state = .run ∧ it.drive = some .d1 ∧ due = 2 ∧ due < y.foil ∧ y.motion + due ≤ it.window ∧
      it.low = 0 ∧ y.runSteps + due ≤ 65535 ∧ y.tally + due ≤ 16777215) ∧
    ({ it with low := 1 }.low ≠ 0 ∧ y.foil = { it with low := 1 }.low + 2) ∧
    { y with motion := 399 }.motion + 2 = it.window + 1 ∧ 2 = { y with foil := 2 }.foil ∧
    { y with foil := 0 }.foil = 0 ∧
    (let s := withLane { y with motion := 0, runSteps := 2, foil := 1000 }
     let u := (runCount .l1 s).lane.get .l1
     u.state = .run ∧ u.runSteps % 4 = 0 ∧ u.run = some ⟨0, 9⟩ ∧ u.runList = [] ∧
       ((laneRun .l1 9 s).lane.get .l1).state = .dwell ∧
       ((laneRun .l1 8 s).lane.get .l1).state = .run) := by decide

theorem witness_RaiseLatchesByPriority :
    let s := raise ⟨.indexDeviation, .cyl .e, none, 14080⟩ running
    ({ s.items with freeze := true }.freeze = true ∧ s.faults.flags ≠ 0) ∧
    (running.items.freeze = false ∧ running.faults.record = none) ∧
    s.faults.record.map (fun r => FaultCode.priority r.code) = some (FaultCode.priority .trimLimit) ∧
    FaultCode.priority .foilBreak < FaultCode.priority .indexDeviation ∧
    FaultCode.priority .indexDeviation < FaultCode.priority .registerRun := by decide

theorem witness_FaultClearByOption :
    Ready running ∧ (4095 : BitVec 16).toNat < 4096 ∧ (1 : Byte).toNat ≤ 1 ∧
    4096 ≤ (4096 : BitVec 16).toNat ∧ 2 ≤ (2 : Byte).toNat := by unfold Ready; decide

theorem witness_CharacterMovesReceiver :
    let inState := fun (x : RxState) => withLink { running.link with rx := x }
    (running.link.txen = false ∧ running.link.rxBusy = false ∧
      exec (.characterReceived (.byte 0) false false) running =
        .next (after (.characterReceived (.byte 0) false false) running)) ∧
    (let s := withLink { running.link with rxBusy := true }
     s.link.rxBusy = true ∧ 0 ≤ s.link.quiet ∧ s.pending = [] ∧ (∃ t, step s = .next t) ∧
       { s.link with quiet := -1 }.quiet < 0) ∧
    (withLink { running.link with txen := true, replyPending := true }).link.txen = true ∧
    Ready running ∧ Ready (inState .check) ∧ running.link.rx = .waitIdle ∧
    (inState .hunt).link.rx = .hunt ∧ (0xC3 : Byte) = 0xC3 ∧ (0xC2 : Byte) ≠ 0xC3 ∧
    ((inState .dest).link.rx = .dest ∧ (0x05 : Byte) = (inState .dest).link.own.setWidth 8) ∧
    ((0x06 : Byte) ≠ (inState .dest).link.own.setWidth 8 ∧ (0x06 : Byte) ≠ 0x7F) ∧
    ((inState .len).link.rx = .len ∧ (250 : Byte).toNat ≤ 250) ∧ (inState .kind).link.rx = .kind ∧
    (inState .body).link.rx = .body ∧ (inState .check).link.checkHi = none ∧
    { (inState .check).link with checkHi := some 1 }.checkHi = some 1 ∧
    (1 : Byte) ++ (0 : Byte) ≠ (inState .check).link.sum := by
  refine ⟨⟨rfl, rfl, rfl⟩, ⟨rfl, by decide, rfl, ⟨_, rfl⟩, by decide⟩, ?_⟩
  unfold Ready; decide

theorem witness_IdleGapAndCutOff :
    Listening running ∧ running.link.rx = .waitIdle ∧
    (withLink { running.link with rx := .hunt }).link.rx = .hunt ∧ RxState.inFrame .dest = true ∧
    RxState.inFrame .len = true ∧ RxState.inFrame .skip = false ∧ 250 < (251 : Byte).toNat ∧
    (true ≠ evenParity 0x35 ∧ false = false) := by unfold Listening; decide

theorem witness_RestartTakesEffectAfterReply :
    Ready running ∧ 2 ≤ (2 : Byte).toNat ∧
    (let s := fun r => withLink { running.link with txen := true, replyPending := true, restart := some r }
     (s .full).link.txen = true ∧ (s .full).link.restart = some .full ∧
     (s .runtime).link.restart = some .runtime ∧
     (running.lane.get .l1).state = .dwell ∧ (running.lane.get .l2).state = .disabled) ∧
    ((laneOne parkedOne .off).lane.get .l1).state = .parked := by unfold Ready; decide

/-- The greatest start index and counts; a serial that a record carries, and one that none does. -/
theorem witness_ReadsAnswerFromState :
    Ready running ∧ (47 : Byte).toNat < 48 ∧ (1 ≤ (8 : Byte).toNat ∧ (8 : Byte).toNat ≤ 8) ∧
    running.sheets.active = some sheet7 ∧ (Ready State.reset ∧ State.reset.sheets.active = none) ∧
    (1 ≤ (6 : Byte).toNat ∧ (6 : Byte).toNat ≤ 6) ∧
    ((running.items.lane.get .l1).anchors.length = 8 ∧ (running.lane.get .l1).leads.length = 64) ∧
    ((running.spans .l1).length ≤ 12 ∧ (running.lane.get .l1).runList.length ≤ 12 ∧
      (running.lane.get .l1).check.pulses < 65536) ∧
    (fullTrack.track.records = [label 10 59501] ++ fullTrack.track.records.drop 1 ∧
      (fullTrack.track.records.drop 1).head? = some (label 11 99000) ∧
      (∀ r ∈ [label 10 59501], r.serial ≠ 11)) ∧
    ((∀ r ∈ fullTrack.track.records, r.serial ≠ 99) ∧
      fullTrack.track.records = fullTrack.track.records ++ []) ∧
    running.faults.record = none ∧
    (raise ⟨.foilBreak, .lane .l1, none, 401⟩ running).faults.record.isSome = true := by
  unfold Ready; decide

theorem witness_FlushAndCountersClear : Ready running := by unfold Ready; decide

theorem witness_ConfigWriteRefused :
    let off := withSeq ⟨.off, false, none, none, .none⟩ false
    let empty := { running with track := resetTrack }
    (Ready running ∧ ¬ itemRange (.act .stopDwell) 10001 ∧ itemOfNat 0 = none) ∧
    (1 ≤ 1 ∧ running.web.stopped = false) ∧
    ((putMark running.items.mark 19 .printWidthMax).2.pwMax <
        (putMark running.items.mark 19 .printWidthMax).2.pwMin ∧
      constraintsOk running.items.geo (putMark running.items.mark 16383 .printGate).2
        (running.sheets.active.map (·.params)) = false) ∧
    (itemRange (.geo .dF) 2031585 ∧ running.track.records ≠ []) ∧
    (Ready empty ∧ empty.track.records = [] ∧ constraintsOk (putGeo empty.items.geo 20001 .dF).2
      empty.items.mark (empty.sheets.active.map (·.params)) = false) ∧
    (itemRange (.loop .amax .f) 1 ∧ 1 < ((withLoop { resetLoop with a := 2, n := 2 }).loop.get .f).a.natAbs) ∧
    (itemRange (.mapping .l1) 255 ∧ running.seq.f.state ≠ .off) ∧
    (Ready off ∧ (off.lane.get .l1).state = .dwell ∧ off.seq.f.state = .off ∧
      off.sheets.active = some sheet7 ∧ sheet7.spans.get .l1 ≠ []) ∧
    (Lane.l0 ≠ .l1 ∧ mappingCode (off.items.lane.get .l0).drive = 0) := by
  unfold Ready itemRange; decide +kernel

theorem witness_ConfigWriteTaken :
    let off := withSeq ⟨.off, false, none, none, .none⟩ false
    let empty := { running with track := resetTrack }
    (Ready (stoppedWeb running) ∧ itemRange (.web .encoderDirection) 1 ∧
      (stoppedWeb running).web.stopped = true) ∧
    (itemRange (.mark .printGate) 300 ∧
      constraintsOk running.items.geo (putMark running.items.mark 300 .printGate).2
        (running.sheets.active.map (·.params)) = true) ∧
    (Ready empty ∧ itemRange (.geo .dR) 50000 ∧ empty.track.records = [] ∧
      constraintsOk (putGeo empty.items.geo 50000 .dR).2 empty.items.mark
        (empty.sheets.active.map (·.params)) = true) ∧
    (itemRange (.loop .amax .f) 2 ∧
      ((withLoop { resetLoop with a := 2, n := 2 }).loop.get .f).a.natAbs ≤ 2) ∧
    (Ready off ∧ itemRange (.mapping .l2) 3 ∧ (off.lane.get .l2).state = .disabled ∧
      off.seq.f.state = .off ∧ mappingCode (off.items.lane.get .l1).drive ≠ 3) ∧
    itemRange (.lane .checkSteps .l3) 4096 := by unfold Ready itemRange; decide +kernel

theorem witness_MappingAndCurveWrite :
    let off := withSeq ⟨.off, false, none, none, .none⟩ false
    (Ready off ∧ (off.lane.get .l2).state = .disabled ∧ (off.items.lane.get .l2).drive = none ∧
      off.seq.f.state = .off ∧ (off.items.lane.get .l0).drive ≠ some .d3 ∧
      (off.items.lane.get .l1).drive ≠ some .d3 ∧ (off.items.lane.get .l3).drive ≠ some .d3) ∧
    (List.replicate 8 4095#16).all (·.toNat ≤ 4095) = true ∧ 4095 < (4096#16).toNat := by
  unfold Ready; decide

end Sys2Proof.Tests
end

section
namespace Sys2Proof.Proofs

open Sys2Proof.Machine Sys2Proof.Safety

/-- Settles O29: in each of the three cases `indexArrival` falls through to `countArrival`. -/
theorem indexArrivalOnlyCounted : Obligations.IndexArrivalOnlyCounted := by
  intro c s h
  have hcount : indexArrival c s = countArrival c s := by
    obtain h | h | h := h
    · unfold indexArrival
      rw [h]
      cases s.active? <;> rfl
    · unfold indexArrival
      rw [h]
      cases s.active? <;> cases (s.items.index.get c).source <;> rfl
    · simp [indexArrival, State.active?, h]
  exact congrArg Host.Outcome.next hcount

/-- R162: the baud rates of the strap levels, as the table lists them. -/
theorem baudOf_eq_getD (b : BitVec 2) :
    baudOf b = [115200, 230400, 460800, 921600].getD b.toNat 0 := by
  revert b; decide

/-- Settles O54: both rows run `fullReset`, which writes every field from the reset state or the pins. -/
theorem fullResetFromPins : Obligations.FullResetFromPins := by
  intro p s
  refine ⟨rfl, fullReset p s, rfl, rfl, rfl, rfl, rfl, rfl, baudOf_eq_getD p.bdr, rfl, rfl, rfl, rfl, rfl⟩

end Sys2Proof.Proofs
end

section
namespace Sys2Proof.Proofs

open Sys2Proof.Machine Sys2Proof.Safety

/-! ## The state after reset -/

/-- The reset leads are those of eight anchors at 0. -/
theorem leadSound_reset : LeadSound State.reset := by
  intro l
  have h : ∀ i, i < 64 → ((resetLane.leads.getD i 0 : Nat) : Int) =
      leadFormula (List.replicate 8 0) i ∧ resetLane.leads.getD i 0 ≤ 4095 := by
    unfold leadFormula; decide
  cases l <;> exact ⟨rfl, rfl, by decide, h⟩

theorem itemSound_reset : ItemSound State.reset := by
  intro i
  cases i with
  | web i => cases i <;> simp [itemRange, itemValue, webValue, State.reset, resetItems]
  | index i c =>
    cases i <;> cases c <;>
      simp [itemRange, itemValue, indexValue, State.reset, resetItems, PerCyl.get, PhaseSource.code]
  | mark i => cases i <;> simp [itemRange, itemValue, markValue, State.reset, resetItems]
  | geo i => cases i <;> simp [itemRange, itemValue, geoValue, State.reset, resetItems]
  | rejectMask => simp [itemRange, itemValue, State.reset, resetItems]
  | loop i c =>
    cases i <;> cases c <;>
      simp [itemRange, itemValue, loopValue, State.reset, resetItems, PerCyl.get]
  | trimInterval => simp [itemRange, itemValue, State.reset, resetItems]
  | act i =>
    rcases i with ⟨_ | _⟩ | ⟨_ | _⟩ | _ | _ | _ <;>
      simp [itemRange, itemValue, actValue, State.reset, resetItems, PerCyl.get]
  | mapping l =>
    cases l <;> simp [itemRange, itemValue, mappingCode, State.reset, resetItems, PerLane.get,
      resetItems.resetLaneItems]
  | lane i l =>
    cases i <;> cases l <;> simp [itemRange, itemValue, laneValue, State.reset, resetItems,
      PerLane.get, resetItems.resetLaneItems]
  | freezeOnFirst => simp [itemRange, itemValue, State.reset, resetItems]
  | alarmMask => simp [itemRange, itemValue, State.reset, resetItems]

/-- With nothing active, every part of a sequencer, a lane, a loop and an emitter is at rest. -/
theorem actuation_reset :
    TrimSound State.reset ∧ EmitterSound State.reset ∧ ImpressionSound State.reset ∧
      SequencerSound State.reset ∧ DwellSound State.reset := by
  refine ⟨?_, ?_, ?_, ?_, ?_⟩
  · intro c; cases c <;> decide
  · intro c; cases c <;> decide
  · intro c; cases c <;> decide
  · intro c; cases c <;> decide
  · unfold DwellSound; decide

theorem track_reset :
    TrackerSound State.reset ∧ WaitsSound State.reset ∧ TrackSound State.reset ∧
      OrderSound State.reset ∧ RejectSound State.reset := by
  refine ⟨?_, ?_, ?_, ⟨List.Pairwise.nil, fun _ h => (List.not_mem_nil h).elim⟩, ?_⟩
  · unfold TrackerSound; decide
  · unfold WaitsSound; decide
  · unfold TrackSound; decide
  · simp [RejectSound, State.reset, resetTrack]

theorem sheets_reset :
    PendingSound State.reset ∧ GeometrySound State.reset ∧ RunListSound State.reset := by
  refine ⟨?_, ?_, ?_⟩
  · simp [PendingSound, State.reset, resetSheets]
  · simp [GeometrySound, State.reset, resetSheets, resetItems]
  · simp only [RunListSound, State.reset, resetSheets]
    exact ⟨nofun, nofun, nofun, fun _ l => by cases l <;> rfl⟩

theorem lanes_reset : LaneSound State.reset ∧ DriveSound State.reset := by
  have hdrive : ∀ l, (State.reset.items.lane.get l).drive = none := fun l => by cases l <;> rfl
  refine ⟨fun l => by cases l <;> decide, ?_, fun d => ?_⟩
  · simp [hdrive]
  · have hfdir : (State.reset.drives.get d).fdir = false := by cases d <;> rfl
    simp [hdrive, hfdir]

theorem link_reset : LinkSound State.reset ∧ BufferSound State.reset := by
  unfold LinkSound BufferSound; decide

theorem web_reset :
    SpeedSound State.reset ∧ PhaseSound State.reset ∧ MissSound State.reset ∧
      CounterSound State.reset := by
  refine ⟨by unfold SpeedSound; decide, ⟨nofun, nofun, fun _ c => by cases c <;> decide⟩,
    fun c => by cases c <;> decide, by decide, fun c => by cases c <;> decide,
    fun x => by cases x <;> decide, by decide, by decide, by decide,
    fun l => by cases l <;> decide, by decide, by decide, by decide, by decide, by decide⟩

theorem alarmSound_reset : AlarmSound State.reset := by
  simp [AlarmSound, State.reset, resetFaults]

/-- Settles O25, block by block. -/
theorem resetMeetsInvariants : Obligations.ResetMeetsInvariants := by
  obtain ⟨hspeed, hphase, hmiss, hcount⟩ := web_reset
  obtain ⟨htracker, hwaits, htrack, horder, hrej⟩ := track_reset
  obtain ⟨htrim, hemit, himp, hseq, hdwell⟩ := actuation_reset
  obtain ⟨hpend, hgeo, hruns⟩ := sheets_reset
  obtain ⟨hlane, hdrive⟩ := lanes_reset
  obtain ⟨hlink, hbuf⟩ := link_reset
  exact ⟨hspeed, hphase, hmiss, htracker, hwaits, htrack, horder, hrej, htrim, hemit, himp, hseq,
    hdwell, hpend, hgeo, hlane, hdrive, leadSound_reset, hruns, alarmSound_reset, hlink, hbuf,
    hcount, itemSound_reset⟩

end Sys2Proof.Proofs
end

section
namespace Sys2Proof.Proofs

open Sys2Proof.Machine Sys2Proof.Safety

/-! ## One tick of the timebase -/

theorem mem_edgeDue {i : Instr} {c : Cyl} {x : Inputs} : i ∈ edgeDue c x ↔
    (x.edge.get c = true ∧ x.cnf.get c = true ∧ i = .confirmRise ⟨c, true⟩) ∨
    (x.edge.get c = true ∧ x.cnf.get c = false ∧ i = .confirmFall ⟨c, true⟩) := by
  unfold edgeDue; cases x.edge.get c <;> cases x.cnf.get c <;> simp

theorem mem_emitterDue {i : Instr} {now : Nat} {c : Cyl} {x : Emitter} : i ∈ emitterDue now c x ↔
    (x.state = .step ∧ stepTimeDue x ≤ now ∧ i = .stepTimeEnd c) ∨
    (x.state = .space ∧ spaceDue x ≤ now ∧ i = .spaceEnd c) := by
  unfold emitterDue; cases x.state <;> simp

theorem expired_iff {now : Nat} {t : Option Nat} :
    expired now t = true ↔ ∃ due, t = some due ∧ due ≤ now := by cases t <;> simp [expired]

theorem mem_seqDue {i : Instr} {now : Nat} {c : Cyl} {q : Sequencer} : i ∈ seqDue now c q ↔
    ((∃ due, q.engage = some due ∧ due ≤ now) ∧ i = .engageTimerExpiry c) ∨
    ((∃ due, q.release = some due ∧ due ≤ now) ∧ i = .releaseTimerExpiry c) := by
  simp [seqDue, ← expired_iff]

theorem mem_checkDue {i : Instr} {now : Nat} {l : Lane} {x : LaneCtl} : i ∈ checkDue now l x ↔
    (∃ due, x.checkTimer = some due ∧ due ≤ now) ∧ i = .checkTimerExpiry l := by
  simp [checkDue, ← expired_iff]

theorem mem_linkDue {i : Instr} {old l : Link} : i ∈ linkDue old l ↔
    ((old.quiet < 20000000 ∧ 20000000 ≤ l.quiet) ∧ i = .idleGap) ∨
    ((l.replyPending = true ∧ l.txen = false ∧ l.waitLeft ≤ 0) ∧ i = .replyWaitEnd) ∨
    ((l.txen = true ∧ l.txLeft ≤ 0) ∧ i = .replyEnd l.own (linkDue.baudCode l.baud)) := by
  simp only [linkDue, List.mem_append, List.mem_ite_nil_right, List.mem_singleton,
    Bool.and_eq_true, Bool.not_eq_true', decide_eq_true_eq, and_assoc, or_assoc]
  rfl

/-- R78: a SPACE is due once each of its two instants is. -/
theorem spaceDue_le_iff {x : Emitter} {now : Nat} : spaceDue x ≤ now ↔
    (∀ k, x.lastStep = some k → k + x.t ≤ now) ∧
      ∀ k, x.lastTurn = some k → k + (x.t - x.t / 2) ≤ now := by
  unfold spaceDue setupTime
  cases x.lastStep <;> cases x.lastTurn <;> simp

theorem forall_lane {p : Lane → Prop} : (∀ l, p l) ↔ p .l0 ∧ p .l1 ∧ p .l2 ∧ p .l3 :=
  ⟨fun h => ⟨h _, h _, h _, h _⟩, fun ⟨h0, h1, h2, h3⟩ l => by cases l <;> assumption⟩

/-- R78, R85, R87, R90, R141, R163, R171: the commands that are due, cylinder by cylinder and lane by
lane. -/
theorem mem_dueCommands {i : Instr} {old : Link} {s : State} : i ∈ dueCommands old s ↔
    (∃ c, i ∈ edgeDue c s.inputs ∨ i ∈ emitterDue s.now c (s.emit.get c) ∨
      i ∈ seqDue s.now c (s.seq.get c)) ∨
    (s.web.gateEnd ≤ s.now ∧ i = .speedGateEnd) ∨
    ((∃ due, s.stopDwell = some due ∧ due ≤ s.now) ∧ i = .stopDwellExpiry) ∨
    (∃ l, i ∈ checkDue s.now l (s.lane.get l)) ∨ i ∈ linkDue old s.link := by
  have hcyl (p : Cyl → Prop) : (∃ c, p c) ↔ p .f ∨ p .e :=
    ⟨fun ⟨c, h⟩ => by cases c <;> simp [h], fun h => h.elim (⟨_, ·⟩) (⟨_, ·⟩)⟩
  have hlane (p : Lane → Prop) : (∃ l, p l) ↔ p .l0 ∨ p .l1 ∨ p .l2 ∨ p .l3 :=
    ⟨fun ⟨l, h⟩ => by cases l <;> simp [h],
     fun h => by rcases h with h | h | h | h <;> exact ⟨_, h⟩⟩
  simp only [hcyl, hlane, dueCommands, List.mem_append, PerCyl.get, PerLane.get,
    List.mem_ite_nil_right, List.mem_singleton, expired_iff]
  grind

/-- Settles O3: a tick changes the link times and the instant, and what it puts in the queue is
`mem_dueCommands`. -/
theorem emptyQueueStepIsOneTick : Obligations.EmptyQueueStepIsOneTick := by
  intro s hq
  refine ⟨tick s, ?_, rfl, rfl, ?_, fun i => ?_, ?_⟩
  · simp [step, hq]
  · simp [tick, hq]
  · have hmem : i ∈ (tick s).pending ↔
        i ∈ dueCommands s.link { s with now := s.now + 1, link := s.link.tick } := by
      simp [tick, hq]
    rw [hmem, mem_dueCommands]
    simp only [mem_edgeDue, mem_emitterDue, mem_seqDue, mem_checkDue, mem_linkDue]
    cases i with
    | confirmRise x => obtain ⟨c, taken⟩ := x; simp [and_comm, and_assoc]
    | confirmFall x => obtain ⟨c, taken⟩ := x; simp; grind
    | replyEnd adr bdr => simp [Link.tick, linkDue.baudCode]; grind
    | replyWaitEnd => simp [Link.tick]; grind
    | spaceEnd c => simp [spaceDue_le_iff]
    | _ => simp [stepTimeDue, stepTime, tick]
  · simp [tick, ← hq]

end Sys2Proof.Proofs
end

section
/-! The reasoning rules of the sequencers, of a swap, and of a boundary at the lanes: what each writes. -/
namespace Sys2Proof.Proofs

open Sys2Proof.Machine Sys2Proof.Safety

/-! ## Sequencers: one rule per operation (5.2 to 5.4) -/

/-- R121, R129: the lanes after "F has left ON". -/
def cutLanes (p : PerLane LaneCtl) : PerLane LaneCtl :=
  p.map fun _ x => if x.state = .run then endRun x else x

@[simp] theorem cutRuns_lane (s : State) : (cutRuns s).lane = cutLanes s.lane := rfl

@[simp] theorem seqTo_seq (c : Cyl) (st : SeqState) (s : State) :
    (seqTo c st s).seq = s.seq.set c { s.seq.get c with
      state := st, imp := st == .engaging || st == .on, engage := none, release := none } := by
  unfold seqTo; dsimp only; split <;> simp

theorem seqTo_lane (c : Cyl) (st : SeqState) (s : State) :
    (seqTo c st s).lane =
      if c = .f ∧ (s.seq.get c).state = .on ∧ st ≠ .on then cutLanes s.lane else s.lane := by
  unfold seqTo; dsimp only; split <;> simp

theorem enterEngaging_seq (c : Cyl) (s : State) :
    (enterEngaging c s).seq = s.seq.set c (thrown s c) := by
  unfold enterEngaging thrown
  by_cases h : s.inputs.cnf.get c = true <;> simp [h, Config.msTicks, Nat.mul_comm]

theorem enterEngaging_lane {c : Cyl} {s : State} (h : (s.seq.get c).state ≠ .on) :
    (enterEngaging c s).lane = s.lane := by
  unfold enterEngaging; dsimp only; split <;> simp [seqTo_lane, h]

theorem throwPhaseEvent_seq (c : Cyl) (s : State) : (throwPhaseEvent c s).seq =
    if (s.seq.get c).state = .waitPhase then s.seq.set c (thrown s c) else s.seq := by
  unfold throwPhaseEvent; split <;> simp [enterEngaging_seq]

/-- R121: a throw-phase event moves no lane: F is not ON before it. -/
@[simp] theorem throwPhaseEvent_lane (c : Cyl) (s : State) : (throwPhaseEvent c s).lane = s.lane := by
  unfold throwPhaseEvent
  split
  · next h => exact enterEngaging_lane (by simp [h])
  · rfl

theorem throwPhaseEvent_get (c d : Cyl) (s : State) : (throwPhaseEvent c s).seq.get d =
    if d = c ∧ (s.seq.get c).state = .waitPhase then thrown s c else s.seq.get d := by
  rw [throwPhaseEvent_seq]
  split <;> simp [*, PerCyl.get_set]

theorem thrown_congr {s t : State} (hi : t.inputs = s.inputs) (hn : t.now = s.now)
    (hit : t.items = s.items) {c : Cyl} (hq : t.seq.get c = s.seq.get c) :
    thrown t c = thrown s c := by simp [thrown, hi, hn, hit, hq]

/-- R9, R15: a throw-phase event that fires only if a test holds. -/
def throwIf (b : Bool) (c : Cyl) (s : State) : State := if b then throwPhaseEvent c s else s

/-- What throwIf leaves. -/
@[simp] theorem throwIf_frame (b : Bool) (c : Cyl) (s : State) :
    (throwIf b c s).now = s.now ∧ (throwIf b c s).inputs = s.inputs ∧
    (throwIf b c s).web = s.web ∧ (throwIf b c s).phase = s.phase ∧
    (throwIf b c s).qual = s.qual ∧ (throwIf b c s).tracker = s.tracker ∧
    (throwIf b c s).track = s.track ∧ (throwIf b c s).loop = s.loop ∧
    (throwIf b c s).emit = s.emit ∧ (throwIf b c s).stopDwell = s.stopDwell ∧
    (throwIf b c s).resume = s.resume ∧ (throwIf b c s).sheets = s.sheets ∧
    (throwIf b c s).lane = s.lane ∧ (throwIf b c s).drives = s.drives ∧
    (throwIf b c s).faults = s.faults ∧ (throwIf b c s).link = s.link ∧
    (throwIf b c s).configDefault = s.configDefault ∧ (throwIf b c s).items = s.items ∧
    (throwIf b c s).free = s.free ∧ (throwIf b c s).pending = s.pending := by
  unfold throwIf; split <;> simp

theorem throwIf_faults (b : Bool) (c : Cyl) (s : State) : (throwIf b c s).faults = s.faults := by simp

theorem throwIf_items (b : Bool) (c : Cyl) (s : State) : (throwIf b c s).items = s.items := by simp

theorem throwIf_get (b : Bool) (c d : Cyl) (s : State) : (throwIf b c s).seq.get d =
    if d = c ∧ b = true ∧ (s.seq.get c).state = .waitPhase then thrown s c else s.seq.get d := by
  cases b <;> simp [throwIf, throwPhaseEvent_get]

theorem throwIf_both_get (b : Cyl → Bool) (c : Cyl) (s : State) :
    (throwIf (b .e) .e (throwIf (b .f) .f s)).seq.get c =
      if b c = true ∧ (s.seq.get c).state = .waitPhase then thrown s c else s.seq.get c := by
  have he : (throwIf (b .f) .f s).seq.get .e = s.seq.get .e := by simp [throwIf_get]
  have hthrown : thrown (throwIf (b .f) .f s) .e = thrown s .e :=
    thrown_congr (by simp) (by simp) (by simp) he
  rw [throwIf_get]
  cases c
  · simp [throwIf_get]
  · simp [he, hthrown]

/-- A sequencer that a throw-off acts on (R88). -/
theorem not_thrownOn_iff {s : State} {c : Cyl} :
    ¬ thrownOn s c ↔ (s.seq.get c).state = .off ∨ (s.seq.get c).state = .releasing := by
  unfold thrownOn; cases (s.seq.get c).state <;> simp

theorem enterReleasing_seq (c : Cyl) (s : State) : (enterReleasing c s).seq = s.seq.set c
    { s.seq.get c with
      state := if s.inputs.cnf.get c then .releasing else .off, imp := false, engage := none,
      release := if s.inputs.cnf.get c then some (s.now + 1000 * s.items.act.release.get c)
        else none } := by
  unfold enterReleasing
  by_cases h : s.inputs.cnf.get c = true <;> simp [h, Config.msTicks, Nat.mul_comm] <;> rfl

theorem enterReleasing_lane (c : Cyl) (s : State) : (enterReleasing c s).lane =
    if c = .f ∧ (s.seq.get c).state = .on then cutLanes s.lane else s.lane := by
  unfold enterReleasing; dsimp only; split <;> simp [seqTo_lane]

theorem setCause_seq (c : Cyl) (x : ThrowCause) (s : State) :
    (setCause c x s).seq = s.seq.set c { s.seq.get c with cause := x } := rfl

theorem throwOff_seq (c : Cyl) (x : ThrowCause) (s : State) :
    (throwOff c x s).seq = s.seq.set c (givenUp x s c (s.seq.get c)) := by
  unfold throwOff
  split <;> rename_i h
  · simp [h, givenUp, setCause_seq]; rfl
  all_goals simp [h, givenUp, enterReleasing_seq, setCause_seq]

theorem throwOff_lane (c : Cyl) (x : ThrowCause) (s : State) : (throwOff c x s).lane =
    if c = .f ∧ (s.seq.get c).state = .on then cutLanes s.lane else s.lane := by
  unfold throwOff
  split <;> rename_i h <;> simp [h, enterReleasing_lane, seqTo_lane, setCause_seq]

theorem throwOff_idle {c : Cyl} {s : State} (h : ¬ thrownOn s c) (x : ThrowCause) :
    throwOff c x s = s := by
  rcases not_thrownOn_iff.1 h with h | h <;> simp [throwOff, h]

/-- R88: a throw-off that acts, for F, stops the stop dwell timer and clears resume-pending. -/
theorem throwOff_dwell {c : Cyl} {s : State} (h : thrownOn s c) (x : ThrowCause) :
    (throwOff c x s).stopDwell = (dropDwell c s).stopDwell ∧
      (throwOff c x s).resume = (dropDwell c s).resume := by
  rcases h with h | h | h <;> simp [throwOff, h]

/-- R88: a throw-off of E leaves F's stop dwell timer and resume-pending. -/
theorem throwOff_dwell_e (x : ThrowCause) (s : State) :
    (throwOff .e x s).stopDwell = s.stopDwell ∧ (throwOff .e x s).resume = s.resume := by
  by_cases h : thrownOn s .e
  · simpa [dropDwell] using throwOff_dwell h x
  · simp [throwOff_idle h]

theorem throwOff_stopDwell_f (x : ThrowCause) (s : State) :
    (thrownOn s .f → (throwOff .f x s).stopDwell = none) ∧
      (¬ thrownOn s .f → (throwOff .f x s).stopDwell = s.stopDwell) :=
  ⟨fun h => by simpa [dropDwell] using (throwOff_dwell h x).1, fun h => by rw [throwOff_idle h]⟩

@[simp] theorem clearResume_f_resume (s : State) : (clearResume .f s).resume = false := by
  simp [clearResume]

@[simp] theorem clearResume_e (s : State) : clearResume .e s = s := by simp [clearResume]

/-! ## A throw given up: F by its swap or its lanes -/

/-- R92, R93: a throw-off of F with resume-pending cleared. -/
structure GivenUpF (x : ThrowCause) (s t : State) : Prop where
  seq_eq : t.seq = s.seq.set .f (givenUp x s .f s.seq.f)
  lane_eq : t.lane = if s.seq.f.state = .on then cutLanes s.lane else s.lane
  resume_eq : t.resume = false
  dwell_of_thrown : thrownOn s .f → t.stopDwell = none
  dwell_of_idle : ¬ thrownOn s .f → t.stopDwell = s.stopDwell

theorem clearResume_throwOff_f (x : ThrowCause) (s : State) :
    GivenUpF x s (clearResume .f (throwOff .f x s)) where
  seq_eq := by simp [throwOff_seq, PerCyl.get]
  lane_eq := by simp [throwOff_lane, PerCyl.get]
  resume_eq := by simp
  dwell_of_thrown h := by simpa using (throwOff_stopDwell_f x s).1 h
  dwell_of_idle h := by simpa using (throwOff_stopDwell_f x s).2 h

end Sys2Proof.Proofs
end

section
/-! What a swap writes (R15, R73, R93, R114, R136). -/
namespace Sys2Proof.Proofs

open Sys2Proof.Machine Sys2Proof.Safety

/-! ## The sequencers and the lanes at a swap -/

theorem mem_lanes (l : Lane) : l ∈ [Lane.l0, .l1, .l2, .l3] := by cases l <;> decide

theorem spans_of_active {s : State} {sh : Sheet} (h : s.sheets.active = some sh) (l : Lane) :
    s.spans l = sh.spans.get l := by simp [State.spans, h]

theorem faultedWithSpans_iff {s : State} : faultedWithSpans s = true ↔
    ∃ l, (s.lane.get l).state = .faulted ∧ s.spans l ≠ [] := by
  simp only [faultedWithSpans, List.any_eq_true, Bool.and_eq_true, beq_iff_eq, State.hasSpans,
    Bool.not_eq_true', List.isEmpty_eq_false_iff]
  exact ⟨fun ⟨l, _, h⟩ => ⟨l, h⟩, fun ⟨l, h⟩ => ⟨l, mem_lanes l, h⟩⟩

/-- R83, R93, R136: F stays thrown on at a swap exactly when it is used and no lane orders it off. -/
theorem keepsThrown_f_iff {s : State} {sh : Sheet} (h : s.sheets.active = some sh) :
    keepsThrown sh s .f ↔ sh.params.usesF = true ∧ faultedWithSpans s = false := by
  have hfree : (∀ l, (s.lane.get l).state = .faulted → sh.spans.get l = []) ↔
      faultedWithSpans s = false := by
    rw [← Bool.not_eq_true, faultedWithSpans_iff]
    simp [spans_of_active h]
  simp [keepsThrown, SheetParams.uses, hfree]

theorem givenUp_congr {s t : State} (hi : t.inputs = s.inputs) (hn : t.now = s.now)
    (hit : t.items = s.items) (x : ThrowCause) (c : Cyl) (q : Sequencer) :
    givenUp x t c q = givenUp x s c q := by simp [givenUp, hi, hn, hit]

/-- R93: at a swap E's throw changes E's sequencer alone. -/
theorem swapSeq_e (p : SheetParams) (s : State) :
    (swapSeq p .e s).seq =
      s.seq.set .e (if p.usesE then s.seq.e else givenUp .sheet s .e s.seq.e) ∧
    (swapSeq p .e s).lane = s.lane ∧ (swapSeq p .e s).resume = s.resume ∧
    (swapSeq p .e s).stopDwell = s.stopDwell := by
  unfold swapSeq
  cases h : p.usesE
  · simp [SheetParams.uses, h, throwOff_seq, throwOff_lane, throwOff_dwell_e, PerCyl.get]
  · simp [SheetParams.uses, h, PerCyl.set]

/-- R88, R92, R93, R136: the sequencers and lanes once both throw-offs of a swap have been taken. -/
theorem swapOrders_swapSeq {new : Sheet} {s : State} (ha : s.sheets.active = some new) :
    let u := swapOrders new.params (swapSeq new.params .e (swapSeq new.params .f s))
    u.seq.e = (if new.params.usesE then s.seq.e else givenUp .sheet s .e s.seq.e) ∧
    (keepsThrown new s .f → u.seq.f = s.seq.f ∧ u.lane = s.lane ∧ u.resume = s.resume ∧
      u.stopDwell = s.stopDwell) ∧
    (¬ keepsThrown new s .f →
      u.seq.f = givenUp (if new.params.usesF then .fault else .sheet) s .f s.seq.f ∧
      u.lane = (if s.seq.f.state = .on then cutLanes s.lane else s.lane) ∧ u.resume = false ∧
      (thrownOn s .f → u.stopDwell = none) ∧ (¬ thrownOn s .f → u.stopDwell = s.stopDwell)) := by
  intro u
  rw [keepsThrown_f_iff ha]
  cases hu : new.params.usesF
  · -- F is not used: it throws off with cause SHEET
    have hF : swapSeq new.params .f s = clearResume .f (throwOff .f .sheet s) := by
      simp [swapSeq, SheetParams.uses, hu]
    have hU : u = swapSeq new.params .e (clearResume .f (throwOff .f .sheet s)) := by
      simp [u, swapOrders, hu, hF]
    obtain ⟨hseq, hlane, hres, hdw⟩ := swapSeq_e new.params (clearResume .f (throwOff .f .sheet s))
    have g := clearResume_throwOff_f .sheet s
    rw [hU, hseq, hlane, hres, hdw, g.seq_eq, g.lane_eq, g.resume_eq]
    refine ⟨?_, by simp, fun _ => ⟨by simp [PerCyl.set], rfl, rfl, g.dwell_of_thrown, g.dwell_of_idle⟩⟩
    have he := givenUp_congr (s := s) (t := clearResume .f (throwOff .f .sheet s)) (by simp)
      (by simp) (by simp) .sheet .e
    simp [PerCyl.set, he]
  · -- F is used: a FAULTED lane with a base span may order it off
    have hF : swapSeq new.params .f s = s := by simp [swapSeq, SheetParams.uses, hu]
    obtain ⟨hseq, hlane, hres, hdw⟩ := swapSeq_e new.params s
    have hfault : faultedWithSpans (swapSeq new.params .e s) = faultedWithSpans s := by
      simp [faultedWithSpans, State.hasSpans, State.spans, hlane]
    cases hf : faultedWithSpans s
    · have hU : u = swapSeq new.params .e s := by simp [u, swapOrders, hu, hF, hfault, hf]
      rw [hU, hseq, hlane, hres, hdw]
      exact ⟨rfl, fun _ => ⟨rfl, rfl, rfl, rfl⟩, by simp⟩
    · have hU : u = clearResume .f (throwOff .f .fault (swapSeq new.params .e s)) := by
        simp [u, swapOrders, hu, hF, hfault, hf, laneOrder]
      obtain ⟨gseq, glane, gres, gth, gid⟩ := clearResume_throwOff_f .fault (swapSeq new.params .e s)
      have hthrown : thrownOn (swapSeq new.params .e s) .f ↔ thrownOn s .f := by
        simp [thrownOn, hseq, PerCyl.set, PerCyl.get]
      rw [hthrown] at gth gid
      have hgiven := givenUp_congr (s := s) (t := swapSeq new.params .e s) (by simp) (by simp)
        (by simp) .fault .f
      rw [hU, gseq, glane, gres, hseq, hlane, hgiven]
      exact ⟨by simp [PerCyl.set], by simp, fun _ => ⟨by simp [PerCyl.set], rfl, rfl, gth,
        fun h => (gid h).trans hdw⟩⟩

/-! ## The phases, the tracker and the whole swap -/

/-- R15: a swap changes the repeat length: it brings a first sheet, or one of another L_sub. -/
def newLength (new : SheetParams) (s : State) : Bool :=
  s.sheets.active.all fun a => a.params.lSub != new.lSub

/-- R15: a swap to `new` fires the throw-phase event of a cylinder. -/
def swapFires (new : SheetParams) (s : State) (c : Cyl) : Bool :=
  newLength new s && (s.phase.get c).phi % new.lSub / 256 == new.throw c

/-- R15: a cylinder's phase after a swap that changes the repeat length. -/
def swappedPhase (new : SheetParams) (c : Cyl) (p : Phase) : Phase :=
  (swapPhase new.lSub (new.throw c) p).1

/-- R15: both phases at a swap, then the throw-phase events that they fire. -/
theorem swapPhases_eq (p : SheetParams) (s : State) : swapPhases p s =
    throwIf (s.phase.e.phi % p.lSub / 256 == p.throwE) .e
      (throwIf (s.phase.f.phi % p.lSub / 256 == p.throwF) .f
        { s with phase := ⟨swappedPhase p .f s.phase.f, swappedPhase p .e s.phase.e⟩ }) := rfl

theorem swapPhases_phase (p : SheetParams) (s : State) :
    (swapPhases p s).phase = ⟨swappedPhase p .f s.phase.f, swappedPhase p .e s.phase.e⟩ := by
  simp [swapPhases_eq]

@[simp] theorem swapPhases_lane (p : SheetParams) (s : State) : (swapPhases p s).lane = s.lane := by
  simp [swapPhases_eq]

theorem swapPhases_seq (p : SheetParams) (s : State) (c : Cyl) :
    (swapPhases p s).seq.get c =
      if (s.phase.get c).phi % p.lSub / 256 == p.throw c ∧ (s.seq.get c).state = .waitPhase
      then thrown s c else s.seq.get c := by
  have h := throwIf_both_get (fun c => (s.phase.get c).phi % p.lSub / 256 == p.throw c) c
    { s with phase := ⟨swappedPhase p .f s.phase.f, swappedPhase p .e s.phase.e⟩ }
  exact h

/-- The state in which a swap's throw-offs are taken: the sheet in force, the phases and the tracker moved,
the nudges set. -/
def swapEntered (sh : Sheet) (s : State) : State :=
  let s1 := { s with sheets := { s.sheets with active := some sh, pending := none } }
  let s2 := if newLength sh.params s then swapPhases sh.params s1 else s1
  let s3 := swapTracker s.sheets.active.isNone (newLength sh.params s) s2
  { s3 with loop := ⟨swapLoop s.active? sh.params .f s3.loop.f, swapLoop s.active? sh.params .e s3.loop.e⟩ }

theorem swapTo_eq (sh : Sheet) (s : State) : swapTo sh s =
    rebuildAll (swapOrders sh.params (swapSeq sh.params .e (swapSeq sh.params .f (swapEntered sh s)))) := by
  unfold swapTo swapEntered newLength State.active?
  cases s.sheets.active <;> simp

/-- What a swap leaves as it was before its throw-offs. -/
theorem swapEntered_frame (sh : Sheet) (s : State) :
    (swapEntered sh s).now = s.now ∧ (swapEntered sh s).inputs = s.inputs ∧
    (swapEntered sh s).items = s.items ∧ (swapEntered sh s).web = s.web ∧
    (swapEntered sh s).lane = s.lane ∧ (swapEntered sh s).resume = s.resume ∧
    (swapEntered sh s).stopDwell = s.stopDwell ∧
    (swapEntered sh s).sheets = { s.sheets with active := some sh, pending := none } := by
  unfold swapEntered; dsimp only; split <;> simp

/-- R84, R15: the sequencers once a swap's throw-phase events are taken. -/
theorem swapEntered_seq (sh : Sheet) (s : State) (c : Cyl) : (swapEntered sh s).seq.get c =
    if swapFires sh.params s c = true ∧ (s.seq.get c).state = .waitPhase then thrown s c
    else s.seq.get c := by
  unfold swapEntered swapFires
  cases h : newLength sh.params s <;> simp [swapPhases_seq, thrown]

/-- R88: a throw-phase event moves a sequencer only among the states that a throw-off acts on. -/
theorem thrownOn_swapEntered (sh : Sheet) (s : State) (c : Cyl) :
    thrownOn (swapEntered sh s) c ↔ thrownOn s c := by
  unfold thrownOn
  rw [swapEntered_seq]
  split
  · next h => unfold thrown; split <;> simp [h.2]
  · rfl

theorem rebuildAll_get (s : State) (l : Lane) :
    (rebuildAll s).lane.get l = rebuilt s l (s.lane.get l) := by simp [rebuildAll]

/-- R123, R124: a run list built anew against the sheet in force. -/
theorem rebuilt_active {s : State} {sh : Sheet} (h : s.sheets.active = some sh) (l : Lane)
    (x : LaneCtl) :
    let built := buildRuns (sh.spans.get l) (x.leads.getD s.web.speed 0) (s.items.lane.get l).runOut
      (s.items.lane.get l).minDwell (sh.params.lSub / 256)
    rebuilt s l x = { x with runList := built.1, clipped := min (x.clipped + built.2) 65535 } := by
  simp [rebuilt, State.active?, h, lcOf, spans_of_active h, Config.counterMax]

/-- R114: a swap as the sequencers and the lanes take it. -/
theorem swapTo_taken (sh : Sheet) (s : State) :
    SwapTaken sh (swapFires sh.params s) s (swapTo sh s) := by
  obtain ⟨hnow, hin, hit, hweb, hlane, hres, hdw, hsheets⟩ := swapEntered_frame sh s
  have hact : (swapEntered sh s).sheets.active = some sh := by rw [hsheets]
  have hkeep (c : Cyl) : keepsThrown sh (swapEntered sh s) c ↔ keepsThrown sh s c := by
    simp [keepsThrown, hlane]
  have hgiven (x c q) : givenUp x (swapEntered sh s) c q = givenUp x s c q :=
    givenUp_congr hin hnow hit x c q
  obtain ⟨hE, hkept, hgave⟩ := swapOrders_swapSeq hact
  simp only [hkeep, thrownOn_swapEntered, hgiven, hlane, hres, hdw] at hE hkept hgave
  have hq (c : Cyl) := swapEntered_seq sh s c
  rw [swapTo_eq]
  set u := swapOrders sh.params (swapSeq sh.params .e (swapSeq sh.params .f (swapEntered sh s)))
    with hu
  have hrelist (l : Lane) (x : LaneCtl) := rebuilt_active (s := u) (sh := sh) (by simp [hu, hact]) l x
  have hitems : u.items = s.items := by simp [hu, hit]
  have hspeed : u.web = s.web := by simp [hu, hweb]
  simp only [hitems, hspeed] at hrelist
  simp only [SwapTaken, rebuildAll_frame, rebuildAll_get, hrelist, ← hq]
  refine ⟨fun c hc => ?_, fun c hc => ?_, fun h => ⟨(hkept h).2.2.1, (hkept h).2.2.2⟩,
    fun h => (hgave h).2.2, fun h l => ?_, fun h hon l => ?_⟩
  · cases c with
    | f => exact (hkept hc).1
    | e => simpa [PerCyl.get, show sh.params.usesE = true from hc.1] using hE
  · cases c with
    | f => exact (hgave hc).1
    | e =>
      have huses : sh.params.usesE = false := by simpa [keepsThrown, SheetParams.uses] using hc
      simpa [PerCyl.get, SheetParams.uses, huses] using hE
  · have hsame : u.lane = s.lane := by
      by_cases hk : keepsThrown sh s .f
      · exact (hkept hk).2.1
      · exact (hgave hk).2.1.trans (if_neg (h.resolve_left hk))
    rw [hsame]
  · have hcut : u.lane = cutLanes s.lane := (hgave h).2.1.trans (if_pos hon)
    simp [hcut, cutLanes]

@[simp] theorem swapTo_sheets (sh : Sheet) (s : State) :
    (swapTo sh s).sheets = { s.sheets with active := some sh, pending := none } := by
  simp [swapTo_eq, swapEntered_frame]

/-- R15: the phases at a swap. -/
theorem swapTo_phase (sh : Sheet) (s : State) : (swapTo sh s).phase =
    if newLength sh.params s then
      ⟨swappedPhase sh.params .f s.phase.f, swappedPhase sh.params .e s.phase.e⟩
    else s.phase := by
  simp only [swapTo_eq, rebuildAll_frame, swapOrders_frame, swapSeq_frame, swapEntered]
  cases newLength sh.params s <;> simp [swapPhases_phase]

/-- R21: the tracker follows the active sheet and the geometry. -/
theorem settleTracker_tracker (s : State) : (settleTracker s).tracker =
    if s.tracker.state = .idle then (if s.canTrack then trackerTo .search s.tracker else s.tracker)
    else if s.canTrack then s.tracker else trackerTo .idle s.tracker := by
  unfold settleTracker; (repeat' split) <;> rfl

/-- R21, R29: the tracker at a swap. -/
theorem swapTo_tracker (sh : Sheet) (s : State) : (swapTo sh s).tracker =
    if s.sheets.active = none then
      (if s.tracker.state = .idle then
        if geometrySet s.items.geo then trackerTo .search s.tracker else s.tracker
      else if geometrySet s.items.geo then s.tracker else trackerTo .idle s.tracker)
    else if newLength sh.params s then trackerNewLength s.tracker else s.tracker := by
  simp only [swapTo_eq, rebuildAll_frame, swapOrders_frame, swapSeq_frame, swapEntered]
  cases hact : s.sheets.active with
  | none =>
    cases newLength sh.params s <;> simp [swapTracker, settleTracker_tracker, State.canTrack]
  | some a => cases newLength sh.params s <;> simp [swapTracker]

/-- R73: the loops at a swap. -/
theorem swapTo_loop (sh : Sheet) (s : State) (c : Cyl) : (swapTo sh s).loop.get c =
    { s.loop.get c with
      nudge := if s.sheets.active.any (fun a => a.params.target c == sh.params.target c)
        then (s.loop.get c).nudge else 0 } := by
  have h : (swapTo sh s).loop.get c = swapLoop s.active? sh.params c (s.loop.get c) := by
    simp only [swapTo_eq, rebuildAll_frame, swapOrders_frame, swapSeq_frame, swapEntered]
    cases newLength sh.params s <;> cases c <;> simp [PerCyl.get]
  rw [h]
  cases hact : s.sheets.active with
  | none => simp [swapLoop, State.active?, hact]
  | some a => by_cases ht : a.params.target c = sh.params.target c <;>
      simp [swapLoop, State.active?, hact, ht]

theorem swapPending_some {s : State} {p : Sheet} (h : s.sheets.pending = some p) :
    swapPending s = swapTo p s := by simp [swapPending, h]

theorem swapPending_none {s : State} (h : s.sheets.pending = none) : swapPending s = s := by
  simp [swapPending, h]

end Sys2Proof.Proofs
end

section
/-! What a boundary writes at the lanes, and a forward step as it is handed on (R6 to R9, R113, R123). -/
namespace Sys2Proof.Proofs

open Sys2Proof.Machine Sys2Proof.Safety

/-! ## Flags stay set while raises go on -/

theorem raise_flags {s : State} (h : s.items.freeze = false) (r : Raise) :
    (raise r s).faults.flags = s.faults.flags ||| faultBit r.code := by
  simp [raise, raiseIn, frozen, h]

/-- R147: without freeze on first, a raise that is due sets its flag. -/
theorem raiseIf_sets {s : State} {b : Bool} {r : Raise} {n : Nat} (h : s.items.freeze = false)
    (hb : b = true) (hn : FaultCode.number r.code = n + 1) :
    (raiseIf b r s).faults.flags.getLsbD n = true := by
  have hbit (c : FaultCode) : (faultBit c).getLsbD (FaultCode.number c - 1) = true := by
    cases c <;> decide
  have hset := hbit r.code
  rw [hn, Nat.add_sub_cancel] at hset
  simp [raiseIf, hb, raise_flags h, hset]

/-- R147: a raise clears no flag. -/
theorem raise_keeps {s : State} {n : Nat} (h : s.faults.flags.getLsbD n = true) (r : Raise) :
    (raise r s).faults.flags.getLsbD n = true := by
  unfold raise raiseIn; dsimp only; split <;> simp [h]

theorem raiseIf_keeps {s : State} {n : Nat} (h : s.faults.flags.getLsbD n = true) (b : Bool)
    (r : Raise) : (raiseIf b r s).faults.flags.getLsbD n = true := by
  cases b
  · exact h
  · exact raise_keeps h r

/-! ## The lanes at a boundary of F (R123, R125, R138) -/

/-- R123, R125, R138: a lane after a boundary of F, and whether PARK_EXPIRED is due. -/
def boundaryLane (s : State) (l : Lane) : LaneCtl × Bool :=
  parkAdvance (s.items.lane.get l).parkTimeout
    (rebuilt s l { s.lane.get l with lastRev := (s.lane.get l).tally, tally := 0 })

theorem laneBoundary_eq (l : Lane) (s : State) : laneBoundary l s =
    raiseIf (boundaryLane s l).2 ⟨.parkExpired, .lane l, none, (boundaryLane s l).1.parkTimer⟩
      (s.setLane l (boundaryLane s l).1) := rfl

theorem laneBoundary_lane (l : Lane) (s : State) :
    (laneBoundary l s).lane = s.lane.set l (boundaryLane s l).1 := by
  simp [laneBoundary_eq]

/-- A boundary at one lane leaves what the others read. -/
theorem boundaryLane_laneBoundary {l m : Lane} (h : m ≠ l) (s : State) :
    boundaryLane (laneBoundary l s) m = boundaryLane s m := by
  simp [boundaryLane, rebuilt, laneBoundary_lane, PerLane.get_set_ne _ _ h, State.active?,
    State.spans]

theorem lanesBoundary_get (s : State) (l : Lane) :
    (lanesBoundary s).lane.get l = (boundaryLane s l).1 := by
  cases l <;>
    simp [lanesBoundary, laneBoundary_lane, PerLane.get_set, boundaryLane_laneBoundary]

theorem laneBoundary_keeps {s : State} {n : Nat} (h : s.faults.flags.getLsbD n = true) (l : Lane) :
    (laneBoundary l s).faults.flags.getLsbD n = true := by
  rw [laneBoundary_eq]
  exact raiseIf_keeps (s := s.setLane l _) h _ _

theorem lanesBoundary_keeps {s : State} {n : Nat} (h : s.faults.flags.getLsbD n = true) :
    (lanesBoundary s).faults.flags.getLsbD n = true := by
  unfold lanesBoundary
  iterate 4 apply laneBoundary_keeps
  exact h

theorem laneBoundary_sets {s : State} {l : Lane} (hf : s.items.freeze = false)
    (h : (boundaryLane s l).2 = true) : (laneBoundary l s).faults.flags.getLsbD 9 = true := by
  rw [laneBoundary_eq]
  exact raiseIf_sets (s := s.setLane l _) hf h rfl

/-- R138: a lane whose park runs out at the boundary raises PARK_EXPIRED. -/
theorem lanesBoundary_sets {s : State} {l : Lane} (hf : s.items.freeze = false)
    (h : (boundaryLane s l).2 = true) : (lanesBoundary s).faults.flags.getLsbD 9 = true := by
  have hset (t : State) (ht : t.items.freeze = false) (hb : boundaryLane t l = boundaryLane s l) :
      (laneBoundary l t).faults.flags.getLsbD 9 = true := laneBoundary_sets ht (hb ▸ h)
  unfold lanesBoundary
  cases l with
  | l0 =>
    iterate 3 apply laneBoundary_keeps
    exact hset s hf rfl
  | l1 =>
    iterate 2 apply laneBoundary_keeps
    exact hset _ (by simp [hf]) (by simp [boundaryLane_laneBoundary])
  | l2 =>
    apply laneBoundary_keeps
    exact hset _ (by simp [hf]) (by simp [boundaryLane_laneBoundary])
  | l3 => exact hset _ (by simp [hf]) (by simp [boundaryLane_laneBoundary])

/-- R138: the park timer of a lane in PARKED or CHECK, and of any other. -/
theorem parkAdvance_parked {x : LaneCtl} (h : x.state = .parked ∨ x.state = .check) (timeout : Nat) :
    parkAdvance timeout x = ({ x with
      parkTimer := min (x.parkTimer + 1) 250,
      parkExpired := x.parkExpired || decide (timeout ≤ min (x.parkTimer + 1) 250) },
      !x.parkExpired && decide (timeout ≤ min (x.parkTimer + 1) 250)) := by
  unfold parkAdvance
  rw [if_pos h]
  cases hx : x.parkExpired <;> by_cases ht : timeout ≤ min (x.parkTimer + 1) 250 <;>
    simp [Config.parkMax, ht]

theorem parkAdvance_other {x : LaneCtl} (h : ¬ (x.state = .parked ∨ x.state = .check))
    (timeout : Nat) : parkAdvance timeout x = (x, false) := by
  unfold parkAdvance; rw [if_neg h]

theorem lanesBoundary_atBoundary {s : State} {sh : Sheet} (h : s.sheets.active = some sh) :
    LanesAtBoundary sh s (lanesBoundary s) := by
  intro l
  have hb := rebuilt_active h l { s.lane.get l with lastRev := (s.lane.get l).tally, tally := 0 }
  dsimp only at hb
  rw [lanesBoundary_get]
  by_cases hp : (s.lane.get l).state = .parked ∨ (s.lane.get l).state = .check
  · have hadv : boundaryLane s l = _ := parkAdvance_parked (x := rebuilt s l _)
      (by rw [hb]; exact hp) _
    rw [hb] at hadv
    refine ⟨by rw [hadv], by rw [hadv], by rw [hadv], fun _ => ⟨by rw [hadv], by rw [hadv], by
      rw [hadv]; simp, fun hx ht hf => lanesBoundary_sets hf (by rw [hadv]; simp [hx, ht])⟩⟩
  · have hadv : boundaryLane s l = _ := parkAdvance_other (x := rebuilt s l _)
      (by rw [hb]; exact hp) _
    rw [hadv, hb]
    exact ⟨rfl, rfl, rfl, fun h => absurd h hp⟩

/-- What the boundary reads of a lane is what it was before: it may have been cut or relisted. -/
def BoundaryAlike (x y : LaneCtl) : Prop :=
  y.tally = x.tally ∧ y.leads = x.leads ∧ (x.state = .parked ∨ x.state = .check →
    y.state = x.state ∧ y.parkTimer = x.parkTimer ∧ y.parkExpired = x.parkExpired)

theorem lanesAtBoundary_of_alike {sh : Sheet} {s u w t : State} (h : LanesAtBoundary sh u w)
    (halike : ∀ l, BoundaryAlike (s.lane.get l) (u.lane.get l)) (hitems : u.items = s.items)
    (hweb : u.web = s.web) (hlane : t.lane = w.lane)
    (hflag : w.faults.flags.getLsbD 9 = true → t.faults.flags.getLsbD 9 = true) :
    LanesAtBoundary sh s t := by
  intro l
  obtain ⟨hrev, htally, hlist, hpark⟩ := h l
  obtain ⟨ht, hl, hp⟩ := halike l
  rw [hitems] at hlist hpark
  rw [ht] at hrev
  rw [hl, hweb] at hlist
  rw [hlane]
  refine ⟨hrev, htally, hlist, fun hstate => ?_⟩
  obtain ⟨hst, htimer, hexp⟩ := hp hstate
  rw [hst, htimer, hexp] at hpark
  obtain ⟨h1, h2, h3, h4⟩ := hpark hstate
  exact ⟨h1, h2, h3, fun hx hn hf => hflag (h4 hx hn hf)⟩

theorem endRun_alike {x : LaneCtl} (h : x.state = .run) : BoundaryAlike x (endRun x) := by
  unfold BoundaryAlike endRun parkBegin; dsimp only; split <;> simp [h]

/-- R114: a swap leaves a lane what a boundary reads of it. -/
theorem swapTaken_alike {new : Sheet} {fired : Cyl → Bool} {s u : State}
    (h : SwapTaken new fired s u) (l : Lane) : BoundaryAlike (s.lane.get l) (u.lane.get l) := by
  obtain ⟨_, _, _, _, hkept, hcut⟩ := h
  by_cases hk : keepsThrown new s .f ∨
      (if fired .f = true ∧ (s.seq.get .f).state = .waitPhase then thrown s .f
        else s.seq.get .f).state ≠ .on
  · rw [hkept hk]
    exact ⟨rfl, rfl, fun _ => ⟨rfl, rfl, rfl⟩⟩
  · obtain ⟨hnk, hon⟩ := not_or.1 hk
    rw [hcut hnk (not_not.1 hon)]
    by_cases hrun : (s.lane.get l).state = .run
    · rw [if_pos hrun]; exact endRun_alike hrun
    · rw [if_neg hrun]; exact ⟨rfl, rfl, fun _ => ⟨rfl, rfl, rfl⟩⟩

/-! ## A boundary of F that swaps the pending sheet in -/

/-- R88: a throw given up leaves WAIT_PHASE. -/
theorem givenUp_state_ne (x : ThrowCause) (s : State) (c : Cyl) (q : Sequencer) :
    (givenUp x s c q).state ≠ .waitPhase := by
  unfold givenUp; dsimp only; split
  · next h => rcases h with h | h <;> simp [h]
  · dsimp only; split <;> simp

theorem givenUp_idle {s : State} {c : Cyl} (h : ¬ thrownOn s c) (x : ThrowCause) :
    givenUp x s c (s.seq.get c) = s.seq.get c := by
  unfold givenUp; dsimp only; rw [if_pos (not_thrownOn_iff.1 h)]

theorem givenUp_thrown {s : State} {c : Cyl} (h : thrownOn s c) (x : ThrowCause) :
    (givenUp x s c (s.seq.get c)).cause = x ∧ (givenUp x s c (s.seq.get c)).imp = false ∧
    (givenUp x s c (s.seq.get c)).state =
      if (s.seq.get c).state ≠ .waitPhase ∧ s.inputs.cnf.get c = true then .releasing else .off := by
  have hne := not_thrownOn_iff.not.1 (not_not.2 h)
  unfold givenUp
  dsimp only
  rw [if_neg hne]
  simp

/-- R113, R114: a boundary of F with a pending sheet of the same repeat length: the swap, then what comes after
it, which moves no sequencer but one that still waits for its phase. -/
theorem swapped_of_taken {a p : Sheet} {s u t : State} (hactive : s.sheets.active = some a)
    (hu : SwapTaken p (fun _ => false) s u)
    (hseq : ∀ c, (u.seq.get c).state ≠ .waitPhase → t.seq.get c = u.seq.get c)
    (hres : t.resume = u.resume) (hdw : t.stopDwell = u.stopDwell)
    (hsheets : t.sheets = { s.sheets with active := some p, pending := none })
    (hloop : ∀ c, t.loop.get c = { s.loop.get c with
      nudge := if s.sheets.active.any (fun a => a.params.target c == p.params.target c)
        then (s.loop.get c).nudge else 0 })
    (hlanes : LanesAtBoundary p s t) : Swapped a p s t := by
  obtain ⟨hkeep, hgive, hdwKeep, hdwGive, -, -⟩ := hu
  simp only [Bool.false_eq_true, false_and, if_false] at hkeep hgive
  have hgave {c : Cyl} (h : ¬ keepsThrown p s c) : t.seq.get c =
      givenUp (if p.params.uses c then .fault else .sheet) s c (s.seq.get c) := by
    rw [hseq c (by rw [hgive c h]; exact givenUp_state_ne _ _ _ _), hgive c h]
  refine ⟨hsheets, fun c => ?_, fun c huses hon => ?_, fun c hidle => ?_, fun huses => ?_,
    fun hk => ?_, fun huses hk => ?_, hlanes⟩
  · simp [hloop c, hactive]
  · have hk : ¬ keepsThrown p s c := fun h => absurd h.1 (by simp [huses])
    obtain ⟨h1, h2, h3⟩ := givenUp_thrown hon .sheet
    rw [hgave hk, huses]
    exact ⟨h1, h2, h3⟩
  · by_cases hk : keepsThrown p s c
    · rw [hseq c, hkeep c hk]
      rw [hkeep c hk]
      rcases not_thrownOn_iff.1 hidle with h | h <;> simp [h]
    · rw [hgave hk, givenUp_idle hidle]
  · have hk : ¬ keepsThrown p s .f := fun h => by simp [keepsThrown, SheetParams.uses, huses] at h
    exact ⟨hres.trans (hdwGive hk).1, fun hon => hdw.trans ((hdwGive hk).2.1 hon)⟩
  · exact ⟨hres.trans (hdwKeep hk).1, hdw.trans (hdwKeep hk).2⟩
  · refine ⟨hres.trans (hdwGive hk).1, fun hon => ?_⟩
    obtain ⟨h1, h2, -⟩ := givenUp_thrown hon .fault
    have hf := hgave hk
    rw [show p.params.uses .f = true from huses] at hf
    exact ⟨(congrArg Sequencer.cause hf).trans h1, (congrArg Sequencer.imp hf).trans h2,
      hdw.trans ((hdwGive hk).2.1 hon)⟩

end Sys2Proof.Proofs
end

section
/-! A forward step of the phases, and all that it hands on (R6 to R9, R12, R13). -/
namespace Sys2Proof.Proofs

open Sys2Proof.Machine Sys2Proof.Safety

/-! ## The phase generator alone -/

theorem crossing_eq (a : Sheet) (it : IndexItems) (p : Phase) : crossing a.params.lSub it p =
    ({ p with phi := phiAfter a p, hold := if crosses a p then 0 else holdAfter p,
              armed := p.armed || crosses a p, missOpen := windowOpen a it p }, crosses a p) := by
  unfold crossing windowOpen crosses phiAfter
  simp only [holdAfter, Config.holdMax]
  by_cases h : p.phi + 256 < a.params.lSub
  · simp [h, Nat.not_le.2 h]
  · by_cases hh : min (p.hold + 256) 33554431 < a.params.lSub / 2
    · simp [h, hh, Nat.not_le.2 hh]
    · simp [h, hh, Nat.not_lt.1 h, Nat.not_lt.1 hh, Bool.or_comm]

theorem nat_beq_eq_decide (m n : Nat) : (m == n) = decide (m = n) := by
  by_cases h : m = n <;> simp [h]

theorem throwTest_eq (throw : Nat) (p : Phase) : throwTest throw p =
    ({ p with armed := p.armed && !(p.armed && p.phi / 256 == throw) },
      p.armed && p.phi / 256 == throw) := by
  unfold throwTest
  split <;> rename_i h
  · simp [h]
  · simp [h]

theorem missTest_eq (lSub : Nat) (it : IndexItems) (before : Nat) (q : Phase) :
    let miss := q.missOpen && decide (before < missPoint it.gate lSub) &&
      decide (missPoint it.gate lSub ≤ q.phi)
    let count := miss && decide (q.missCount < it.limit)
    let lost := count && decide (q.missCount + 1 = it.limit)
    missTest lSub it before q =
      ({ q with missCount := q.missCount + count.toNat, missOpen := q.missOpen && !miss,
                indexLost := q.indexLost || lost }, lost) := by
  intro miss count lost
  unfold missTest
  dsimp only
  by_cases hm : miss = true
  · rw [if_pos hm]
    have hopen : q.missOpen = true := by simp [miss] at hm; exact hm.1.1
    by_cases hc : q.missCount < it.limit
    · simp [count, lost, hm, hc, nat_beq_eq_decide]
    · simp [count, lost, hm, hc]
  · rw [if_neg hm]
    simp [count, lost, hm]

/-- R6, R8, R9, R12, R13: a forward step and what it hands on. -/
theorem forwardStep_eq (a : Sheet) (it : IndexItems) (c : Cyl) (p : Phase) :
    forwardStep a.params.lSub (a.params.throw c) it p =
      { phase := phaseAfter a it c p, boundary := crosses a p, throwEv := fires a c p,
        lost := loses a it p } := by
  unfold forwardStep
  rw [crossing_eq]
  dsimp only
  rw [throwTest_eq]
  dsimp only
  rw [missTest_eq]
  simp only [nat_beq_eq_decide]
  rfl

/-- R7: a backward step. -/
theorem backwardStep_eq (a : Sheet) (p : Phase) : backwardStep a.params.lSub p =
    { phase := { p with phi := phiBefore a p }, boundary := false, throwEv := false, lost := false } :=
  rfl

/-! ## A step handed on -/

theorem handStep_eq (c : Cyl) (o : PhaseOut) (s : State) : handStep c o s =
    raiseIf o.lost ⟨.indexLost, .cyl c, none, o.phase.missCount⟩
      (throwIf o.throwEv c (if o.boundary then handBoundary c s else s)) := rfl

/-- R6, R7: the forward step of the cylinders in `on`; the others stand. -/
def stepOut (on : Cyl → Bool) (a : Sheet) (s : State) (c : Cyl) : PhaseOut :=
  { phase := if on c then phaseAfter a (s.items.index.get c) c (s.phase.get c) else s.phase.get c,
    boundary := on c && crosses a (s.phase.get c), throwEv := on c && fires a c (s.phase.get c),
    lost := on c && loses a (s.items.index.get c) (s.phase.get c) }

/-- R6: the phases stepped, and nothing handed on yet. -/
def stepped (on : Cyl → Bool) (a : Sheet) (s : State) : State :=
  { s with phase := ⟨(stepOut on a s .f).phase, (stepOut on a s .e).phase⟩ }

/-- R6, R8: the phases stepped, and a boundary of F taken by the sheet store and the lanes. -/
def bounded (on : Cyl → Bool) (a : Sheet) (s : State) : State :=
  if (stepOut on a s .f).boundary then lanesBoundary (swapPending (stepped on a s)) else stepped on a s

/-- R6: a forward step of the cylinders in `on`, handed on for F and then for E. -/
def handed (on : Cyl → Bool) (a : Sheet) (s : State) : State :=
  handStep .e (stepOut on a s .e) (handStep .f (stepOut on a s .f) (stepped on a s))

theorem stepPhase_advance {s : State} {a : Sheet} (h : s.sheets.active = some a) (c : Cyl) :
    stepPhase .advance c s = handed (fun d => decide (d = c)) a s := by
  have hstep : stepOf .advance c s = some (stepOut (fun d => decide (d = c)) a s c) := by
    simp [stepOf, State.active?, h, forwardStep_eq, stepOut]
  unfold stepPhase
  rw [hstep]
  cases c <;> rfl

theorem stepBoth_advance {s : State} {a : Sheet} (h : s.sheets.active = some a) :
    stepBoth .advance s = handed (fun _ => true) a s := by
  have hstep (c : Cyl) : stepOf .advance c s = some (stepOut (fun _ => true) a s c) := by
    simp [stepOf, State.active?, h, forwardStep_eq, stepOut]
  unfold stepBoth
  rw [hstep, hstep]
  rfl

theorem stepPhase_none {s : State} (h : s.sheets.active = none) (d : TrimDir) (c : Cyl) :
    stepPhase d c s = s := by simp [stepPhase, stepOf, State.active?, h]

theorem stepBoth_none {s : State} (h : s.sheets.active = none) (d : TrimDir) :
    stepBoth d s = s := by simp [stepBoth, stepOf, State.active?, h]

theorem stepPhase_retard {s : State} {a : Sheet} (h : s.sheets.active = some a) (c : Cyl) :
    stepPhase .retard c s = s.setPhase c { s.phase.get c with phi := phiBefore a (s.phase.get c) } := by
  have hstep : stepOf .retard c s = some (backwardStep a.params.lSub (s.phase.get c)) := by
    simp [stepOf, State.active?, h]
  unfold stepPhase
  rw [hstep]
  rfl

theorem stepBoth_retard {s : State} {a : Sheet} (h : s.sheets.active = some a) :
    stepBoth .retard s = { s with phase :=
      ⟨{ s.phase.f with phi := phiBefore a s.phase.f }, { s.phase.e with phi := phiBefore a s.phase.e }⟩ } := by
  have hstep (c : Cyl) : stepOf .retard c s = some (backwardStep a.params.lSub (s.phase.get c)) := by
    simp [stepOf, State.active?, h]
  unfold stepBoth
  rw [hstep, hstep]
  rfl

/-- What is handed on after the boundary: the throw-phase events, and the last misses. -/
theorem handed_eq (on : Cyl → Bool) (a : Sheet) (s : State) : handed on a s =
    raiseIf (stepOut on a s .e).lost ⟨.indexLost, .cyl .e, none, (stepOut on a s .e).phase.missCount⟩
      (throwIf (stepOut on a s .e).throwEv .e
        (raiseIf (stepOut on a s .f).lost
          ⟨.indexLost, .cyl .f, none, (stepOut on a s .f).phase.missCount⟩
          (throwIf (stepOut on a s .f).throwEv .f (bounded on a s)))) := by
  simp only [handed, handStep_eq, handBoundary, ite_self]
  rfl

/-- What the throw-phase events and the last misses leave of the state after the boundary. -/
theorem handed_frame (on : Cyl → Bool) (a : Sheet) (s : State) :
    (handed on a s).now = (bounded on a s).now ∧ (handed on a s).inputs = (bounded on a s).inputs ∧
    (handed on a s).web = (bounded on a s).web ∧ (handed on a s).phase = (bounded on a s).phase ∧
    (handed on a s).qual = (bounded on a s).qual ∧
    (handed on a s).tracker = (bounded on a s).tracker ∧
    (handed on a s).track = (bounded on a s).track ∧ (handed on a s).loop = (bounded on a s).loop ∧
    (handed on a s).emit = (bounded on a s).emit ∧
    (handed on a s).stopDwell = (bounded on a s).stopDwell ∧
    (handed on a s).resume = (bounded on a s).resume ∧
    (handed on a s).sheets = (bounded on a s).sheets ∧
    (handed on a s).lane = (bounded on a s).lane ∧
    (handed on a s).drives = (bounded on a s).drives ∧
    (handed on a s).link = (bounded on a s).link ∧
    (handed on a s).configDefault = (bounded on a s).configDefault ∧
    (handed on a s).items = (bounded on a s).items ∧ (handed on a s).free = (bounded on a s).free ∧
    (handed on a s).pending = (bounded on a s).pending := by
  simp [handed_eq]

theorem handed_keeps {on : Cyl → Bool} {a : Sheet} {s : State} {n : Nat}
    (h : (bounded on a s).faults.flags.getLsbD n = true) :
    (handed on a s).faults.flags.getLsbD n = true := by
  rw [handed_eq]
  apply raiseIf_keeps
  rw [throwIf_faults]
  apply raiseIf_keeps
  simpa using h

end Sys2Proof.Proofs
end

section
/-! A forward step as the statements name it: `StepsForward`. -/
namespace Sys2Proof.Proofs

open Sys2Proof.Machine Sys2Proof.Safety

/-- R84: the sequencers once the step's throw-phase events are taken. -/
theorem handed_seq (on : Cyl → Bool) (a : Sheet) (s : State) (c : Cyl) :
    (handed on a s).seq.get c =
      if (stepOut on a s c).throwEv = true ∧ ((bounded on a s).seq.get c).state = .waitPhase
      then thrown (bounded on a s) c else (bounded on a s).seq.get c := by
  rw [handed_eq]
  generalize bounded on a s = w
  simp only [raiseIf_frame]
  rw [throwIf_get]
  cases c
  · simp [throwIf_get]
  · have he : (throwIf (stepOut on a s .f).throwEv .f w).seq.get .e = w.seq.get .e := by
      simp [throwIf_get]
    rw [thrown_congr (s := w) (by simp) (by simp) (by simp) (by simpa using he)]
    simp [he]

/-- A sequencer that does not wait for its phase is as the boundary left it. -/
theorem handed_seq_of_ne {on : Cyl → Bool} {a : Sheet} {s : State} {c : Cyl}
    (h : ((bounded on a s).seq.get c).state ≠ .waitPhase) :
    (handed on a s).seq.get c = (bounded on a s).seq.get c := by
  rw [handed_seq, if_neg (fun h' => h h'.2)]

theorem bounded_views (on : Cyl → Bool) (a : Sheet) (s : State) :
    (bounded on a s).now = s.now ∧ (bounded on a s).inputs = s.inputs ∧
    (bounded on a s).items = s.items := by
  unfold bounded; split <;> simp [stepped]

/-- R13: the last miss of a step raises INDEX_LOST. -/
theorem handed_lost {on : Cyl → Bool} {a : Sheet} {s : State} {c : Cyl}
    (hf : s.items.freeze = false) (h : (stepOut on a s c).lost = true) :
    (handed on a s).faults.flags.getLsbD 6 = true := by
  have hfreeze : (bounded on a s).items.freeze = false := by rw [(bounded_views on a s).2.2]; exact hf
  rw [handed_eq]
  cases c with
  | e => exact raiseIf_sets (by simpa using hfreeze) h rfl
  | f =>
    apply raiseIf_keeps
    rw [throwIf_faults]
    exact raiseIf_sets (by simpa using hfreeze) h rfl

/-- R107: a sheet of the repeat length in force changes none. -/
theorem newLength_same {s : State} {a p : Sheet} (ha : s.sheets.active = some a)
    (h : p.params.lSub = a.params.lSub) : newLength p.params s = false := by
  simp [newLength, ha, h]

theorem swapFires_same {s : State} {a p : Sheet} (ha : s.sheets.active = some a)
    (h : p.params.lSub = a.params.lSub) : swapFires p.params s = fun _ => false := by
  funext c; simp [swapFires, newLength_same ha h]

/-- R113, R107: what a swap to the repeat length in force, and the lanes' boundary after it, leave. -/
theorem swapPending_same {s : State} {a : Sheet} (ha : s.sheets.active = some a)
    (hp : ∀ p, s.sheets.pending = some p → p.params.lSub = a.params.lSub) :
    (swapPending s).phase = s.phase ∧ (swapPending s).tracker = s.tracker := by
  unfold swapPending
  cases h : s.sheets.pending with
  | none => simp
  | some p => simp [swapTo_phase, swapTo_tracker, newLength_same ha (hp p h), ha]

/-- What a boundary of F touches: sheets, loops, sequencers, lanes, faults, and what hangs on F. -/
theorem bounded_frame {on : Cyl → Bool} {a : Sheet} {s : State} (ha : s.sheets.active = some a)
    (hp : ∀ p, s.sheets.pending = some p → p.params.lSub = a.params.lSub) :
    { bounded on a s with
      sheets := s.sheets, loop := s.loop, seq := s.seq, stopDwell := s.stopDwell,
      resume := s.resume, lane := s.lane, faults := s.faults } = stepped on a s := by
  unfold bounded
  split
  · have hsame := swapPending_same (s := stepped on a s) ha hp
    simp [hsame]; simp [stepped]
  · rfl

/-- The same after the throw-phase events and the last misses. -/
theorem handed_frame_same {on : Cyl → Bool} {a : Sheet} {s : State} (ha : s.sheets.active = some a)
    (hp : ∀ p, s.sheets.pending = some p → p.params.lSub = a.params.lSub) :
    { handed on a s with
      sheets := s.sheets, loop := s.loop, seq := s.seq, stopDwell := s.stopDwell,
      resume := s.resume, lane := s.lane, faults := s.faults } = stepped on a s := by
  rw [← bounded_frame ha hp]
  simp [handed_frame]

theorem handed_lane (on : Cyl → Bool) (a : Sheet) (s : State) :
    (handed on a s).lane = (bounded on a s).lane := by simp [handed_frame]

/-- R8, R113: a boundary of F with a pending sheet: the swap, taken by the lanes. -/
theorem bounded_pending {on : Cyl → Bool} {a p : Sheet} {s : State}
    (hp : s.sheets.pending = some p) (hb : (on .f && crosses a s.phase.f) = true) :
    bounded on a s = lanesBoundary (swapTo p (stepped on a s)) := by
  have hpend : (stepped on a s).sheets.pending = some p := hp
  unfold bounded swapPending
  rw [hpend]
  exact if_pos hb

theorem bounded_none {on : Cyl → Bool} {a : Sheet} {s : State} (hp : s.sheets.pending = none)
    (hb : (on .f && crosses a s.phase.f) = true) :
    bounded on a s = lanesBoundary (stepped on a s) := by
  have hpend : (stepped on a s).sheets.pending = none := hp
  unfold bounded swapPending
  rw [hpend]
  exact if_pos hb

theorem bounded_off {on : Cyl → Bool} {a : Sheet} {s : State}
    (hb : (on .f && crosses a s.phase.f) = false) : bounded on a s = stepped on a s := by
  have hb' : ¬ (stepOut on a s .f).boundary = true := fun h => Bool.false_ne_true (hb.symm.trans h)
  unfold bounded
  rw [if_neg hb']

/-- R93: a boundary leaves a sequencer that its swap, if it brings one, lets stay thrown on. -/
theorem bounded_seq_kept {on : Cyl → Bool} {a : Sheet} {s : State} {c : Cyl}
    (ha : s.sheets.active = some a)
    (hp : ∀ p, s.sheets.pending = some p → p.params.lSub = a.params.lSub)
    (hk : ∀ p, s.sheets.pending = some p → (on .f && crosses a s.phase.f) = true →
      keepsThrown p s c) : (bounded on a s).seq.get c = s.seq.get c := by
  cases hb : (on .f && crosses a s.phase.f) with
  | false => rw [bounded_off hb]; rfl
  | true =>
    cases hpend : s.sheets.pending with
    | none => rw [bounded_none hpend hb]; simp [stepped]
    | some p =>
      have hkeep := (swapTo_taken p (stepped on a s)).1 c (hk p hpend hb)
      rw [swapFires_same (s := stepped on a s) ha (hp p hpend)] at hkeep
      simpa [bounded_pending hpend hb, stepped] using hkeep

/-- R113, R114: the boundary's swap, as the statements name it. -/
theorem handed_swapped {on : Cyl → Bool} {a p : Sheet} {s : State} (ha : s.sheets.active = some a)
    (hp : s.sheets.pending = some p) (hl : p.params.lSub = a.params.lSub)
    (hb : (on .f && crosses a s.phase.f) = true) : Swapped a p s (handed on a s) := by
  have hw := bounded_pending hp hb
  have hactive : (stepped on a s).sheets.active = some a := ha
  have hu : SwapTaken p (fun _ => false) s (swapTo p (stepped on a s)) := by
    have h := swapTo_taken p (stepped on a s)
    rw [swapFires_same hactive hl] at h
    exact h
  have huact : (swapTo p (stepped on a s)).sheets.active = some p := by simp
  refine swapped_of_taken ha hu (fun c hc => ?_) ?_ ?_ ?_ (fun c => ?_) ?_
  · rw [handed_seq_of_ne] <;> simp [hw, hc]
  · simp [handed_frame, hw]
  · simp [handed_frame, hw]
  · simp [handed_frame, hw, stepped]
  · simp only [handed_frame, hw, lanesBoundary_frame, swapTo_loop]; rfl
  · exact lanesAtBoundary_of_alike (lanesBoundary_atBoundary huact) (swapTaken_alike hu)
      (by simp [stepped]) (by simp [stepped]) (by rw [handed_lane, hw])
      (fun h => handed_keeps (hw ▸ h))

/-- R6 to R9, R12, R13, R113, R114: a forward step with a sheet active, as the statements name it. -/
theorem handed_stepsForward {on : Cyl → Bool} {a : Sheet} {s : State} (ha : s.sheets.active = some a) :
    StepsForward on s (handed on a s) := by
  refine ⟨fun h => by simp [ha] at h, fun b hb hp => ?_⟩
  obtain rfl : a = b := Option.some.inj (ha.symm.trans hb)
  have hframe := handed_frame_same (on := on) ha hp
  have hphase : (handed on a s).phase = (stepped on a s).phase := by rw [← hframe]
  refine ⟨fun c => ?_, fun p hpend hbound => handed_swapped ha hpend (hp p hpend) hbound, fun h => ?_,
    fun hnone hbound => ?_, fun hbound => ?_, fun c hk => ?_, fun c hon hl hf => ?_, ?_⟩
  · rw [hphase]; cases c <;> rfl
  · have hw : (bounded on a s) = stepped on a s ∨ bounded on a s = lanesBoundary (stepped on a s) := by
      cases hbound : (on .f && crosses a s.phase.f)
      · exact .inl (bounded_off hbound)
      · exact .inr (bounded_none (h.resolve_right (by simp [hbound])) hbound)
    simp only [handed_frame]
    rcases hw with hw | hw <;> simp [hw] <;> exact ⟨rfl, rfl, rfl, rfl⟩
  · have hw := bounded_none hnone hbound
    have hactive : (stepped on a s).sheets.active = some a := ha
    exact lanesAtBoundary_of_alike (s := s) (lanesBoundary_atBoundary hactive)
      (fun l => ⟨rfl, rfl, fun _ => ⟨rfl, rfl, rfl⟩⟩) rfl rfl (by rw [handed_lane, hw])
      (fun h => handed_keeps (hw ▸ h))
  · rw [handed_lane, bounded_off hbound]; rfl
  · have hseq : (bounded on a s).seq.get c = s.seq.get c := bounded_seq_kept ha hp hk
    obtain ⟨hnow, hin, hitems⟩ := bounded_views on a s
    rw [handed_seq, hseq, thrown_congr (s := s) hin hnow hitems hseq]
    simp only [stepOut, Bool.and_eq_true, and_comm]
  · exact handed_lost (c := c) hf (by simp [stepOut, hon, hl])
  · have h := congrArg (fun u : State => { u with phase := s.phase }) hframe
    exact h

/-- R80: an ADVANCE pulse is a forward step of its cylinder. -/
theorem stepPhase_stepsForward (c : Cyl) (s : State) :
    StepsForward (fun d => decide (d = c)) s (stepPhase .advance c s) := by
  cases ha : s.sheets.active with
  | none => exact ⟨fun _ => stepPhase_none ha _ _, fun a h => by simp [ha] at h⟩
  | some a => rw [stepPhase_advance ha]; exact handed_stepsForward ha

/-- R2, R6: a forward count steps both cylinders. -/
theorem stepBoth_stepsForward (s : State) :
    StepsForward (fun _ => true) s (stepBoth .advance s) := by
  cases ha : s.sheets.active with
  | none => exact ⟨fun _ => stepBoth_none ha _, fun a h => by simp [ha] at h⟩
  | some a => rw [stepBoth_advance ha]; exact handed_stepsForward ha

end Sys2Proof.Proofs
end

section
/-! Trim pulses and TRIM MOVE (R66, R71, R78 to R80). -/
namespace Sys2Proof.Proofs

open Sys2Proof.Machine Sys2Proof.Safety Sys2Proof.Laws

/-! ## A trim pulse -/

/-- R66, R78: a pulse rises, and its cylinder's account moves; the phase has yet to step. -/
def pulsedAt (c : Cyl) (s : State) : State :=
  { s with
    emit := s.emit.set c (pulseEmitter s.now s.items.act.trimInterval (s.emit.get c)),
    loop := s.loop.set c (pulseAccount (s.loop.get c)) }

theorem emitPulse_eq (c : Cyl) (s : State) : emitPulse c s =
    stepPhase (trimDir (s.loop.get c).p (s.emit.get c).tdir) c (pulsedAt c s) := rfl

/-- R80: the phase's part of a pulse, by the sign of the trim pending: ADVANCE steps it forward. -/
theorem emitPulse_advance {c : Cyl} {s : State} (h : 0 < (s.loop.get c).p) :
    StepsForward (fun d => decide (d = c)) (pulsedAt c s) (emitPulse c s) := by
  rw [emitPulse_eq, trimDir, if_pos h]
  exact stepPhase_stepsForward c _

/-- R80: RETARD steps it back. -/
theorem emitPulse_retard {c : Cyl} {s : State} (h : (s.loop.get c).p < 0) :
    (s.sheets.active = none → emitPulse c s = pulsedAt c s) ∧
    ∀ sh, s.sheets.active = some sh → emitPulse c s =
      (pulsedAt c s).setPhase c { s.phase.get c with phi := phiBefore sh (s.phase.get c) } := by
  have hdir : emitPulse c s = stepPhase .retard c (pulsedAt c s) := by
    rw [emitPulse_eq, trimDir, if_neg (by omega), if_pos h]
  rw [hdir]
  exact ⟨fun ha => stepPhase_none (s := pulsedAt c s) ha _ _,
    fun sh ha => stepPhase_retard (s := pulsedAt c s) ha c⟩

theorem pulseAccount_eq {x : Loop} (h : x.p ≠ 0) :
    pulseAccount x = { x with p := x.p - (if 0 < x.p then 1 else -1),
                              n := x.n + (if 0 < x.p then 1 else -1) } := by
  unfold pulseAccount
  split
  · rfl
  · rw [if_pos (by omega)]; simp [Int.sub_eq_add_neg]

/-- Settles O39: the end of a SPACE is `emitPulse` at its instant. -/
theorem spaceEndEmitsPulse : Obligations.SpaceEndEmitsPulse := by
  intro c s hspace hp x em up now pulsed
  have hp' : ((s.reachTime (spaceDue (s.emit.get c))).loop.get c).p ≠ 0 := hp
  have hexec : exec (.spaceEnd c) s = .next (emitPulse c (s.reachTime (spaceDue (s.emit.get c)))) := by
    have h : spaceEnd c s = emitPulse c (s.reachTime (spaceDue (s.emit.get c))) := by
      unfold spaceEnd
      rw [if_pos hspace]
      exact if_neg hp'
    exact congrArg Host.Outcome.next h
  have hpulsed : pulsedAt c (s.reachTime (spaceDue (s.emit.get c))) = pulsed := by
    unfold pulsedAt
    rw [pulseAccount_eq hp']
    rfl
  refine ⟨_, hexec, fun h => ?_, fun h => ?_, fun h => ?_⟩
  · exact hpulsed ▸ emitPulse_advance (s := s.reachTime (spaceDue (s.emit.get c))) h
  · exact hpulsed ▸ (emitPulse_retard (s := s.reachTime (spaceDue (s.emit.get c))) h).1
  · exact hpulsed ▸ (emitPulse_retard (s := s.reachTime (spaceDue (s.emit.get c))) h).2

end Sys2Proof.Proofs
end

section
/-! TRIM MOVE (R71), and a request's operation taken with the Link Port it leaves. -/
namespace Sys2Proof.Proofs

open Sys2Proof.Machine Sys2Proof.Safety Sys2Proof.Laws

/-! ## A request's operation, seen without the Link Port -/

/-- R169: what an operation does to the rest of the part, with the Link Port as it was before the frame. -/
def besideLink (op : State → State × Reply) (s : State) : State :=
  { (op (heard s)).1 with link := s.link }

theorem heard_besideLink {s : State} {op : State → State × Reply}
    (hl : (op (heard s)).1.link = (heard s).link) : heard (besideLink op s) = (op (heard s)).1 := by
  unfold besideLink
  rw [show heard { (op (heard s)).1 with link := s.link } =
    { (op (heard s)).1 with link := (heard s).link } from rfl, ← hl]

/-- R169: an operation that leaves the Link Port is answered, and takes its effect beside it. -/
theorem hostRequest_besideLink {s : State} (h : Ready s) (kind : Nat) {op : State → State × Reply}
    (hl : (op (heard s)).1.link = (heard s).link) :
    hostRequest kind op s = answered kind (op (heard s)).2 (besideLink op s) := by
  refine hostRequest_answered h kind (t := besideLink op s) ?_ rfl
  rw [heard_besideLink hl]

/-- A forward step taken while a frame is being answered is one of the part beside its Link Port. -/
theorem stepsForward_relink {on : Cyl → Bool} {s t : State} (l : Link) (h : StepsForward on s t) :
    StepsForward on { s with link := l } { t with link := l } := by
  refine ⟨fun hn => by rw [h.1 hn], fun a ha hp => ?_⟩
  obtain ⟨h1, h2, h3, h4, h5, h6, h7, h8⟩ := h.2 a ha hp
  exact ⟨h1, h2, h3, h4, h5, h6, h7, congrArg (fun u : State => { u with link := l }) h8⟩

/-! ## The loops through a step -/

/-- R73: of a loop, a swap moves the nudge alone. -/
def NudgedOnly (x y : Loop) : Prop := y = { x with nudge := y.nudge }

theorem swapPending_loop (s : State) (c : Cyl) :
    NudgedOnly (s.loop.get c) ((swapPending s).loop.get c) := by
  cases h : s.sheets.pending with
  | none => rw [swapPending_none h]; rfl
  | some p => rw [swapPending_some h, swapTo_loop]; rfl

theorem handStep_loop (c d : Cyl) (o : PhaseOut) (s : State) :
    NudgedOnly (s.loop.get d) ((handStep c o s).loop.get d) := by
  rw [handStep_eq]
  cases o.boundary
  · simp; rfl
  · cases c
    · simpa [handBoundary] using swapPending_loop s d
    · simp [handBoundary]; rfl

theorem stepPhase_loop (dir : TrimDir) (c d : Cyl) (s : State) :
    NudgedOnly (s.loop.get d) ((stepPhase dir c s).loop.get d) := by
  unfold stepPhase
  cases stepOf dir c s with
  | none => rfl
  | some o => exact handStep_loop c d o (s.setPhase c o.phase)

/-! ## The emitter after P has changed (R78, R79) -/

theorem trimDir_of_ne {p : Int} (h : p ≠ 0) (old : TrimDir) :
    trimDir p old = if 0 < p then .advance else .retard := by
  unfold trimDir
  split
  · rfl
  · exact if_pos (by omega)

theorem trimChanged_rest {c : Cyl} {s : State}
    (h : (s.emit.get c).state = .step ∨ (s.loop.get c).p = 0 ∨ (s.emit.get c).state = .space ∧
      (s.emit.get c).tdir = trimDir (s.loop.get c).p (s.emit.get c).tdir) : trimChanged c s = s := by
  have hturn (hd : trimDir (s.loop.get c).p (s.emit.get c).tdir = (s.emit.get c).tdir) :
      turnIfNeeded c s = s := by simp [turnIfNeeded, hd]
  unfold trimChanged
  rcases h with h | h | ⟨h, hd⟩
  · simp [h]
  · have hd : trimDir (s.loop.get c).p (s.emit.get c).tdir = (s.emit.get c).tdir := by
      simp [trimDir, h]
    cases hst : (s.emit.get c).state <;> simp [hst, h, hturn hd]
  · simp [h, hturn hd.symm]

theorem trimChanged_turn {c : Cyl} {s : State}
    (h : (s.emit.get c).state = .space ∨ (s.emit.get c).state = .idle) (hp : (s.loop.get c).p ≠ 0)
    (hd : (s.emit.get c).tdir ≠ trimDir (s.loop.get c).p (s.emit.get c).tdir) :
    trimChanged c s = s.setEmit c { s.emit.get c with
      state := .space, tdir := trimDir (s.loop.get c).p (s.emit.get c).tdir,
      t := s.items.act.trimInterval, lastTurn := some s.now } := by
  have hturn : turnIfNeeded c s = s.setEmit c (turnEmitter s.now s.items.act.trimInterval
      (trimDir (s.loop.get c).p (s.emit.get c).tdir) (s.emit.get c)) := by
    simp [turnIfNeeded, hd.symm]
  unfold trimChanged
  rcases h with h | h
  · simp [h, hturn, turnEmitter]
  · simp [h, hp, hd.symm, hturn, turnEmitter, State.setEmit]

theorem trimChanged_pulse {c : Cyl} {s : State} (h : (s.emit.get c).state = .idle)
    (hp : (s.loop.get c).p ≠ 0)
    (hd : (s.emit.get c).tdir = trimDir (s.loop.get c).p (s.emit.get c).tdir) :
    trimChanged c s = emitPulse c s := by
  simp [trimChanged, h, hp, hd.symm]

end Sys2Proof.Proofs
end

section
/-! TRIM MOVE (R71). -/
namespace Sys2Proof.Proofs

open Sys2Proof.Machine Sys2Proof.Safety Sys2Proof.Laws

theorem ofByte_cylByte (c : Cyl) : Cyl.ofByte (cylByte c) = some c := by cases c <;> rfl

/-- R71: the move held to Amax. -/
def heldMove (c : Cyl) (m : BitVec 16) (s : State) : Int :=
  rangeStep (s.items.loop.get c).amax (s.loop.get c).a m.toInt

theorem heldMove_eq (c : Cyl) (m : BitVec 16) (s : State) :
    let top : Int := (s.items.loop.get c).amax
    let a := (s.loop.get c).a
    heldMove c m s = if top < a + m.toInt then top - a
      else if a + m.toInt < -top then -top - a else m.toInt := by
  intro top a
  have htop : 0 ≤ top := Int.natCast_nonneg _
  have hdef : heldMove c m s = max (-top) (min top (a + m.toInt)) - a := rfl
  rw [hdef]
  split
  · rw [min_eq_left (by omega), max_eq_right (by omega)]
  · split
    · rw [min_eq_right (by omega), max_eq_left (by omega)]
    · rw [min_eq_right (by omega), max_eq_right (by omega)]; omega

/-- R65, R71: A and P with the move added. -/
def trimmed (c : Cyl) (k : Int) (s : State) : State :=
  s.setLoop c { s.loop.get c with a := (s.loop.get c).a + k, p := (s.loop.get c).p + k }

theorem commitTrim_eq (c : Cyl) (k : Int) (s : State) :
    commitTrim c k s = trimChanged c (trimmed c k s) := rfl

theorem trimMoveReq_eq (c : Cyl) (m : BitVec 16) (s : State) :
    let y := (commitTrim c (heldMove c m s) s).loop.get c
    trimMoveReq (cylByte c) m s = (commitTrim c (heldMove c m s) s,
      ⟨if heldMove c m s = m.toInt then .ok else .clamped,
        intBytes 2 (heldMove c m s) ++ intBytes 2 y.a ++ intBytes 4 y.p⟩) := by
  simp only [trimMoveReq, withCyl, ofByte_cylByte]
  rfl

theorem pulseAccount_sign {x : Loop} (h : x.p ≠ 0) : pulseAccount x = { x with
    p := if 0 < x.p then x.p - 1 else x.p + 1, n := if 0 < x.p then x.n + 1 else x.n - 1 } := by
  unfold pulseAccount
  split
  · rfl
  · rw [if_pos (by omega)]

/-- R66, R67: the emitter moves N against P, and leaves A. -/
theorem trimChanged_account (c : Cyl) (s : State) :
    ((trimChanged c s).loop.get c).a = (s.loop.get c).a ∧
    ((trimChanged c s).loop.get c).n + ((trimChanged c s).loop.get c).p =
      (s.loop.get c).n + (s.loop.get c).p := by
  have hpulse : ((emitPulse c s).loop.get c).a = (s.loop.get c).a ∧
      ((emitPulse c s).loop.get c).n + ((emitPulse c s).loop.get c).p =
        (s.loop.get c).n + (s.loop.get c).p := by
    have h := stepPhase_loop (trimDir (s.loop.get c).p (s.emit.get c).tdir) c c (pulsedAt c s)
    have hloop : (pulsedAt c s).loop.get c = pulseAccount (s.loop.get c) := by simp [pulsedAt]
    rw [← emitPulse_eq, hloop] at h
    rw [h]
    unfold pulseAccount
    split
    · exact ⟨rfl, by dsimp only; omega⟩
    · split
      · exact ⟨rfl, by dsimp only; omega⟩
      · exact ⟨rfl, rfl⟩
  unfold trimChanged
  dsimp only
  (repeat' split) <;> simp [hpulse]

/-- R71: the part beside its Link Port after a TRIM MOVE. -/
theorem besideLink_trimMove (c : Cyl) (m : BitVec 16) (s : State) :
    besideLink (trimMoveReq (cylByte c) m) s =
      { trimChanged c (heard (trimmed c (heldMove c m s) s)) with link := s.link } := by
  unfold besideLink
  rw [trimMoveReq_eq]
  rfl

/-- Settles O37: the row answers `trimMoveReq`, whose effect is `trimChanged` after the held move. -/
theorem trimMoveHeldToAmax : Obligations.TrimMoveHeldToAmax := by
  intro c m s hready x top applied p sign em moved body
  have happlied : heldMove c m s = applied := heldMove_eq c m s
  have hmoved : trimmed c (heldMove c m s) s = moved := by rw [happlied]; rfl
  have hmx : (moved.loop.get c) = { x with a := x.a + applied, p := p } := by simp [moved]
  set v := besideLink (trimMoveReq (cylByte c) m) s with hv
  have hv' : v = { trimChanged c (heard moved) with link := s.link } := by
    rw [hv, besideLink_trimMove, hmoved]
  have hmx' : (heard moved).loop.get c = { x with a := x.a + applied, p := p } := hmx
  obtain ⟨ha, hnp⟩ := trimChanged_account c (heard moved)
  have hva : (v.loop.get c).a = x.a + applied := by rw [hv']; rw [hmx'] at ha; exact ha
  have hvn : (v.loop.get c).n + (v.loop.get c).p = x.n + x.p + applied := by
    rw [hv']; rw [hmx'] at hnp; exact hnp.trans (Int.add_assoc _ _ _).symm
  let r : Result := if applied = m.toInt then .ok else .clamped
  have hexec : exec (.trimMove (cylByte c) m) s =
      .next (answered 0x24 ⟨r, body (v.loop.get c).p⟩ v) := by
    have hheld : heldMove c m (heard s) = applied := happlied
    have hy : (commitTrim c applied (heard s)).loop.get c = v.loop.get c := by
      rw [hv, besideLink, trimMoveReq_eq, hheld]
    have hbody : (trimMoveReq (cylByte c) m (heard s)).2 = ⟨r, body (v.loop.get c).p⟩ := by
      rw [trimMoveReq_eq, hheld, hy, hva]
    have h := hostRequest_besideLink hready 0x24 (op := trimMoveReq (cylByte c) m)
      (by rw [trimMoveReq_eq]; simp)
    rw [hbody] at h
    exact congrArg Host.Outcome.next h
  have hsign (hp : p ≠ 0) : trimDir ((heard moved).loop.get c).p ((heard moved).emit.get c).tdir = sign := by
    rw [hmx']; exact trimDir_of_ne hp _
  have hframe : v.items = s.items ∧ v.track = s.track ∧ v.now = s.now ∧ v.web = s.web := by
    rw [hv']; simp [heard, moved]
  refine ⟨_, r, hexec, hva, hvn, ?_, ?_, rfl, hframe.1, hframe.2.1, hframe.2.2.1, hframe.2.2.2,
    fun h => ?_, fun hst hp hd => ?_, fun hst hp hd => ?_⟩
  · by_cases h : applied = m.toInt <;> simp [r, h]
  · by_cases h : applied = m.toInt <;> simp [r, h]
  · have hrest : trimChanged c (heard moved) = heard moved := trimChanged_rest <| by
      rcases h with h | h | ⟨h, hd⟩
      · exact .inl h
      · exact .inr (.inl (by rw [hmx']; exact h))
      · by_cases hp : p = 0
        · exact .inr (.inl (by rw [hmx']; exact hp))
        · exact .inr (.inr ⟨h, by rw [hsign hp]; exact hd⟩)
    have hvm : v = moved := by rw [hv', hrest]; rfl
    rw [hvm, hmx]
  · have hturn := trimChanged_turn (c := c) (s := heard moved) hst (by rw [hmx']; exact hp)
      (by rw [hsign hp]; exact hd)
    rw [hsign hp] at hturn
    have hvt : v = moved.setEmit c { em with
        state := .space, tdir := sign, t := s.items.act.trimInterval, lastTurn := some s.now } := by
      rw [hv', hturn]; rfl
    rw [hvt, show ((moved.setEmit c _).loop.get c) = _ from hmx]
  · have hpulse := trimChanged_pulse (c := c) (s := heard moved) hst (by rw [hmx']; exact hp)
      (by rw [hsign hp]; exact hd)
    rw [hpulse] at hv'
    have hneg (h : p < 0) := emitPulse_retard (c := c) (s := heard moved) (by rw [hmx']; exact h)
    have hpos (h : 0 < p) := emitPulse_advance (c := c) (s := heard moved) (by rw [hmx']; exact h)
    have hpulsed : { pulsedAt c (heard moved) with link := s.link } = { s with
          emit := s.emit.set c { em with
            state := .step, tstp := true, t := s.items.act.trimInterval, lastStep := some s.now },
          loop := s.loop.set c { x with
            a := x.a + applied, p := if 0 < p then p - 1 else p + 1,
            n := if 0 < p then x.n + 1 else x.n - 1 } } := by
      unfold pulsedAt
      rw [hmx', pulseAccount_sign hp]
      simp [heard, moved, em, pulseEmitter, State.setLoop]
    refine ⟨v, rfl, fun h => ?_, fun h hn => ?_, fun h sh hsh => ?_⟩
    · rw [← hpulsed, hv']
      exact stepsForward_relink s.link (hpos h)
    · rw [hv', (hneg h).1 hn]; exact hpulsed
    · rw [hv', (hneg h).2 sh hsh, ← hpulsed]; rfl

end Sys2Proof.Proofs
end

section
/-! An index arrival taken against the active sheet (R8, R10, R113). -/
namespace Sys2Proof.Proofs

open Sys2Proof.Machine Sys2Proof.Safety Sys2Proof.Laws

/-- R10: the deviation of an arrival, as the rule reads it. -/
def arrivalDev (sh : Sheet) (p : Phase) : Int :=
  if 2 * p.phi ≤ sh.params.lSub then p.phi else (p.phi : Int) - sh.params.lSub

/-- R8, R10: an arrival finds H at half a revolution. -/
def arrivalBound (sh : Sheet) (p : Phase) : Bool := decide (sh.params.lSub / 2 ≤ p.hold)

/-- R8, R9, R10: a cylinder's phase generator after an arrival. -/
def arrivedPhase (sh : Sheet) (c : Cyl) (p : Phase) : Phase :=
  { p with
    phi := 0, hold := if arrivalBound sh p then 0 else p.hold,
    armed := (p.armed || arrivalBound sh p) && sh.params.throw c != 0,
    missOpen := false, missCount := 0, indexLost := false, lastDev := arrivalDev sh p,
    arrivals := min (p.arrivals + 1) 65535 }

theorem indexStep_eq (sh : Sheet) (c : Cyl) (p : Phase) :
    indexStep sh.params.lSub (sh.params.throw c) p =
      { phase := arrivedPhase sh c p, boundary := arrivalBound sh p,
        throwEv := (p.armed || arrivalBound sh p) && sh.params.throw c == 0, lost := false } := by
  have harmed (x y : Bool) : (x && !(x && y)) = (x && !y) := by cases x <;> cases y <;> rfl
  unfold indexStep arrivedPhase
  dsimp only
  rw [harmed]
  rfl

/-- R8, R113: the arrival's boundary of F at the sheet store and the lanes. -/
def arrived (sh : Sheet) (c : Cyl) (s : State) : State :=
  if arrivalBound sh (s.phase.get c) then
    handBoundary c (s.setPhase c (arrivedPhase sh c (s.phase.get c)))
  else s.setPhase c (arrivedPhase sh c (s.phase.get c))

theorem indexArrival_eq {c : Cyl} {sh : Sheet} {s : State} (ha : s.sheets.active = some sh)
    (hi : (s.items.index.get c).source = .index) (hd : s.web.dir = .forward) :
    exec (.indexArrival c) s = .next
      (raiseIf (decide (256 * (s.items.index.get c).tol < (arrivalDev sh (s.phase.get c)).natAbs))
        ⟨.indexDeviation, .cyl c, none, arrivalDev sh (s.phase.get c)⟩
        (throwIf (((s.phase.get c).armed || arrivalBound sh (s.phase.get c)) &&
          sh.params.throw c == 0) c (arrived sh c s))) := by
  have h : indexArrival c s = takeIndex sh.params c s := by
    simp [indexArrival, State.active?, ha, hi, hd]
  refine congrArg Host.Outcome.next (h.trans ?_)
  unfold takeIndex
  rw [indexStep_eq]
  simp only [handStep_eq, deviates, Nat.mul_comm _ 256]
  rfl

/-- With no sheet pending an arrival's boundary touches the lanes and the faults alone, and E's neither. -/
theorem arrived_none {c : Cyl} {sh : Sheet} {s : State} (hp : s.sheets.pending = none) :
    { arrived sh c s with lane := s.lane, faults := s.faults } =
      s.setPhase c (arrivedPhase sh c (s.phase.get c)) ∧
    (c = .e → (arrived sh c s).faults = s.faults) := by
  unfold arrived
  split
  · cases c with
    | f =>
      have hnone := swapPending_none (s := s.setPhase .f (arrivedPhase sh .f (s.phase.get .f))) hp
      simp only [handBoundary, hnone]
      exact ⟨by simp; rfl, by simp⟩
    | e => exact ⟨rfl, fun _ => rfl⟩
  · exact ⟨rfl, fun _ => rfl⟩

/-- R10: an arrival with no sheet pending. -/
theorem arrival_resynchronises {c : Cyl} {sh : Sheet} {s : State} (hp : s.sheets.pending = none)
    (b b' : Bool) (r : Raise) :
    let t := raiseIf b r (throwIf b' c (arrived sh c s))
    t.phase = s.phase.set c (arrivedPhase sh c (s.phase.get c)) ∧
    (c = .e → t.faults = (raiseIf b r s).faults) ∧
    { t with phase := s.phase, faults := s.faults, seq := s.seq, lane := s.lane } = s := by
  obtain ⟨hframe, hfaults⟩ := arrived_none (c := c) (sh := sh) hp
  generalize arrived sh c s = w at hframe hfaults
  have hphase : w.phase = s.phase.set c (arrivedPhase sh c (s.phase.get c)) :=
    congrArg State.phase hframe
  have hweb : w.web = s.web := (congrArg State.web hframe :)
  have hitems : w.items = s.items := (congrArg State.items hframe :)
  refine ⟨by simp [hphase], fun hc => ?_, ?_⟩
  · cases b <;> simp [raiseIf, raise, hfaults hc, hweb, hitems]
  · have h := congrArg (fun u : State => { u with phase := s.phase, seq := s.seq }) hframe
    simp only [raiseIf_frame, throwIf_frame]
    exact h

theorem arrived_freeze (c : Cyl) (sh : Sheet) (s : State) :
    (arrived sh c s).items.freeze = s.items.freeze := by
  unfold arrived; split <;> simp

/-- R113: an arrival at a boundary of F with a sheet pending: the swap, taken by the lanes. -/
theorem arrived_pending {a p : Sheet} {s : State} (hp : s.sheets.pending = some p)
    (hb : arrivalBound a s.phase.f = true) : arrived a .f s =
      lanesBoundary (swapTo p (s.setPhase .f (arrivedPhase a .f s.phase.f))) := by
  have hpend := swapPending_some (s := s.setPhase .f (arrivedPhase a .f s.phase.f)) hp
  exact (if_pos hb).trans (congrArg lanesBoundary hpend)

/-- R10, R113, R114: an arrival at a boundary of F with a sheet of the same repeat length pending. -/
theorem arrival_swaps {a p : Sheet} {s : State} (ha : s.sheets.active = some a)
    (hp : s.sheets.pending = some p) (hl : p.params.lSub = a.params.lSub)
    (hb : arrivalBound a s.phase.f = true) (b b' : Bool) (r : Raise) :
    let t := raiseIf b r (throwIf b' .f (arrived a .f s))
    Swapped a p s t ∧ t.phase = s.phase.set .f (arrivedPhase a .f s.phase.f) ∧
    (keepsThrown p s .f → t.seq.f = if b' = true ∧ s.seq.f.state = .waitPhase then thrown s .f
      else s.seq.f) ∧
    (p.params.usesE = true → t.seq.e = s.seq.e) ∧
    { t with sheets := s.sheets, loop := s.loop, phase := s.phase, faults := s.faults,
             seq := s.seq, stopDwell := s.stopDwell, resume := s.resume, lane := s.lane } = s := by
  intro t
  have hw := arrived_pending hp hb
  set s' := s.setPhase .f (arrivedPhase a .f s.phase.f) with hs'
  have ha' : s'.sheets.active = some a := ha
  have hsame := swapPending_same (s := s') ha' fun q hq => by
    obtain rfl : p = q := Option.some.inj (hp.symm.trans hq)
    exact hl
  rw [swapPending_some (s := s') hp] at hsame
  obtain ⟨hphase, htracker⟩ := hsame
  have hu : SwapTaken p (fun _ => false) s (swapTo p s') := by
    have h := swapTo_taken p s'
    rw [swapFires_same ha' hl] at h
    exact h
  have hkeep (c : Cyl) (hk : keepsThrown p s c) : (swapTo p s').seq.get c = s.seq.get c := by
    simpa using hu.1 c hk
  have hseq (c : Cyl) : t.seq.get c = if c = .f ∧ b' = true ∧
      ((swapTo p s').seq.get .f).state = .waitPhase then thrown (arrived a .f s) .f
      else (swapTo p s').seq.get c := by
    simp [t, throwIf_get, hw]
  refine ⟨swapped_of_taken ha hu (fun c hc => ?_) ?_ ?_ ?_ (fun c => ?_) ?_, ?_, fun hk => ?_,
    fun he => ?_, ?_⟩
  · rw [hseq, if_neg]
    rintro ⟨rfl, _, h⟩
    exact hc h
  · simp [t, hw]
  · simp [t, hw]
  · simp [t, hw, hs']
  · simp only [t, raiseIf_frame, throwIf_frame, hw, lanesBoundary_frame, swapTo_loop]; rfl
  · exact lanesAtBoundary_of_alike (lanesBoundary_atBoundary (sh := p) (by simp)) (swapTaken_alike hu)
      (by simp [hs']) (by simp [hs']) (by simp [t, hw])
      (fun h => raiseIf_keeps (by simpa [hw] using h) _ _)
  · simp only [t, raiseIf_frame, throwIf_frame, hw, lanesBoundary_frame, hphase]; rfl
  · have h := hseq .f
    have hthrown : thrown (arrived a .f s) .f = thrown s .f :=
      thrown_congr (by simp [hw, hs']) (by simp [hw, hs']) (by simp [hw, hs'])
        (by simpa [hw] using hkeep .f hk)
    rw [hkeep .f hk, hthrown] at h
    simpa [PerCyl.get] using h
  · have h := (hseq .e).trans (if_neg (by simp))
    exact h.trans (hkeep .e ⟨he, fun h => by cases h⟩)
  · simp [t, hw, htracker]; simp [hs']

/-- Settles O30: both parts read the arrival off `indexArrival_eq`. -/
theorem indexArrivalResynchronises : Obligations.IndexArrivalResynchronises := by
  refine ⟨fun c sh s ha hp hi hd => ?_, fun a p s ha hp hl hi hd hb => ?_⟩
  · intro pre fires d
    obtain ⟨hphase, hfaults, hframe⟩ := arrival_resynchronises (c := c) (sh := sh) hp
      (decide (256 * (s.items.index.get c).tol < d.natAbs))
      ((pre.armed || fires) && sh.params.throw c == 0) ⟨.indexDeviation, .cyl c, none, d⟩
    refine ⟨_, indexArrival_eq ha hi hd, hphase, fun hf ht => ?_, hfaults, hframe⟩
    refine raiseIf_sets ?_ (decide_eq_true ht) rfl
    rw [throwIf_items, arrived_freeze, hf]
  · have hbound : arrivalBound a s.phase.f = true := decide_eq_true hb
    obtain ⟨hswap, hphase, hf, he, hframe⟩ := arrival_swaps ha hp hl hbound
      (decide (256 * (s.items.index.get .f).tol < (arrivalDev a (s.phase.get .f)).natAbs))
      (((s.phase.get .f).armed || arrivalBound a (s.phase.get .f)) && a.params.throw .f == 0)
      ⟨.indexDeviation, .cyl .f, none, arrivalDev a (s.phase.get .f)⟩
    refine ⟨_, indexArrival_eq ha hi hd, hswap, by rw [hphase]; rfl, by rw [hphase]; rfl, ?_, ?_,
      fun hk => ?_, he, hframe⟩
    · rw [hphase]; simp [PerCyl.set, arrivedPhase, hbound]
    · rw [hphase]; simp [PerCyl.set, arrivedPhase, hbound, SheetParams.throw]
    · rw [hf hk]; simp [PerCyl.get, hbound, SheetParams.throw, and_comm]

end Sys2Proof.Proofs
end

section
/-! What an operation that reaches no other block may change, and the predicates that every operation of the
Label Track and the Mark Trackers hands on because each trim pulse does (R2, R38, R57 to R65, R78, R80). -/
namespace Sys2Proof.Proofs

open Sys2Proof.Machine

/-- R186: a counter that stays, rises to its limit at most, or starts again. -/
def Saturates (old new : Nat) : Prop := new ≤ max old 65535

@[simp] theorem saturates_self (n : Nat) : Saturates n n := Nat.le_max_left _ _

@[simp] theorem saturates_satInc (n : Nat) : Saturates n (satInc n) := by
  simp only [Saturates, satInc, Config.counterMax]; omega

@[simp] theorem saturates_zero (n : Nat) : Saturates n 0 := Nat.zero_le _

@[simp] theorem saturates_min (n m : Nat) : Saturates n (min m 65535) := by
  simp only [Saturates]; omega

theorem saturates_trans {a b c : Nat} (h : Saturates a b) (h' : Saturates b c) : Saturates a c := by
  simp only [Saturates] at *; omega

/-- The counters of the mark sensors and of the track at most rise to their limits. -/
structure Tallied (s t : State) : Prop where
  rejects : ∀ x, Saturates (s.qual.get x).rejects (t.qual.get x).rejects
  strays : ∀ x, Saturates (s.qual.get x).strays (t.qual.get x).strays
  good : Saturates s.track.good t.track.good
  bad : Saturates s.track.bad t.track.bad
  overflow : Saturates s.track.overflow t.track.overflow

/-- Nothing of web, phases, sheets, items, lanes and link changes, and no counter passes its limit. -/
structure Aside (s t : State) : Prop extends Tallied s t where
  web : t.web = s.web
  phase : t.phase = s.phase
  sheets : t.sheets = s.sheets
  items : t.items = s.items
  lane : t.lane = s.lane
  link : t.link = s.link

theorem tallied_of_eq {s t : State} (hq : t.qual = s.qual) (ht : t.track = s.track) : Tallied s t := by
  constructor <;> simp [hq, ht]

theorem tallied_trans {s t u : State} (h : Tallied s t) (h' : Tallied t u) : Tallied s u where
  rejects x := saturates_trans (h.rejects x) (h'.rejects x)
  strays x := saturates_trans (h.strays x) (h'.strays x)
  good := saturates_trans h.good h'.good
  bad := saturates_trans h.bad h'.bad
  overflow := saturates_trans h.overflow h'.overflow

theorem aside_refl (s : State) : Aside s s := ⟨tallied_of_eq rfl rfl, rfl, rfl, rfl, rfl, rfl, rfl⟩

theorem aside_trans {s t u : State} (h : Aside s t) (h' : Aside t u) : Aside s u where
  toTallied := tallied_trans h.toTallied h'.toTallied
  web := h'.web.trans h.web
  phase := h'.phase.trans h.phase
  sheets := h'.sheets.trans h.sheets
  items := h'.items.trans h.items
  lane := h'.lane.trans h.lane
  link := h'.link.trans h.link

theorem aside_track {s : State} {x : Track} (hg : Saturates s.track.good x.good)
    (hb : Saturates s.track.bad x.bad) (ho : Saturates s.track.overflow x.overflow) :
    Aside s { s with track := x } :=
  ⟨⟨fun _ => saturates_self _, fun _ => saturates_self _, hg, hb, ho⟩, rfl, rfl, rfl, rfl, rfl, rfl⟩

theorem aside_qual {s : State} {x : Sensor} {q : Qual}
    (hr : Saturates (s.qual.get x).rejects q.rejects) (hs : Saturates (s.qual.get x).strays q.strays) :
    Aside s (s.setQual x q) := by
  refine ⟨⟨fun y => ?_, fun y => ?_, ?_, ?_, ?_⟩, ?_, ?_, ?_, ?_, ?_, ?_⟩ <;> try simp
  all_goals rw [PerSensor.get_set]; split
  · next h => exact h ▸ hr
  · exact saturates_self _
  · next h => exact h ▸ hs
  · exact saturates_self _

/-! ## The operations of the track and the trackers that reach no other block -/

@[simp] theorem dropOldest_counts (t : Track) : (dropOldest t).good = t.good ∧
    (dropOldest t).bad = t.bad ∧ (dropOldest t).overflow = t.overflow := ⟨rfl, rfl, rfl⟩

@[simp] theorem dropNewest_counts (t : Track) : (dropNewest t).good = t.good ∧
    (dropNewest t).bad = t.bad ∧ (dropNewest t).overflow = t.overflow := ⟨rfl, rfl, rfl⟩

theorem aside_changeRecord (k : Nat) (g : LabelRecord → LabelRecord) (s : State) :
    Aside s (s.changeRecord k g) := aside_track (by simp) (by simp) (by simp)

theorem aside_createRecord (o : Origin) (r : Pos) (w : Option Nat) (s : State) :
    Aside s (createRecord o r w s) := by
  unfold createRecord createIn makeRoom
  refine aside_track ?_ ?_ ?_ <;> split <;> simp

theorem aside_loop (s : State) (c : Cyl) (x : Loop) : Aside s (s.setLoop c x) :=
  ⟨tallied_of_eq rfl rfl, rfl, rfl, rfl, rfl, rfl, rfl⟩

theorem aside_emit (s : State) (c : Cyl) (x : Emitter) : Aside s (s.setEmit c x) :=
  ⟨tallied_of_eq rfl rfl, rfl, rfl, rfl, rfl, rfl, rfl⟩

theorem aside_tracker (s : State) (x : Tracker) : Aside s { s with tracker := x } :=
  ⟨tallied_of_eq rfl rfl, rfl, rfl, rfl, rfl, rfl, rfl⟩

theorem aside_raiseIf (b : Bool) (r : Raise) (s : State) : Aside s (raiseIf b r s) := by
  refine ⟨tallied_of_eq ?_ ?_, ?_, ?_, ?_, ?_, ?_, ?_⟩ <;> simp

theorem aside_turnIfNeeded (c : Cyl) (s : State) : Aside s (turnIfNeeded c s) := by
  refine ⟨tallied_of_eq ?_ ?_, ?_, ?_, ?_, ?_, ?_, ?_⟩ <;> simp

theorem aside_gateTaken (s : State) : Aside s (gateTaken s) := aside_track (by simp) (by simp) (by simp)

theorem aside_serveGate (n : Nat) (s : State) : Aside s (serveGate n s) := by
  induction n generalizing s with
  | zero => exact aside_refl s
  | succ n ih =>
    unfold serveGate
    (repeat' split) <;> try exact aside_refl s
    · exact aside_track (by simp) (by simp) (by simp)
    · exact aside_trans (aside_gateTaken s) (ih _)

theorem aside_verdictIn (mask : Reasons) (k : Nat) (f : Track → Nat) (s : State) :
    Aside s { s with track := { verdictIn mask k s.track with marker := f s.track } } := by
  unfold verdictIn
  refine aside_track ?_ ?_ ?_ <;> (repeat' split) <;> simp [reevalRej]

theorem aside_serveRemoval (n : Nat) (s : State) : Aside s (serveRemoval n s) := by
  induction n generalizing s with
  | zero => exact aside_refl s
  | succ n ih =>
    unfold serveRemoval
    (repeat' split) <;> try exact aside_refl s
    exact aside_trans (aside_track (by simp) (by simp) (by simp)) (ih _)

theorem aside_reverseRemoval (n : Nat) (s : State) : Aside s (reverseRemoval n s) := by
  induction n generalizing s with
  | zero => exact aside_refl s
  | succ n ih =>
    unfold reverseRemoval
    (repeat' split) <;> try exact aside_refl s
    refine aside_trans ?_ (ih _)
    exact ⟨⟨by simp, by simp, by simp, by simp, by simp⟩, rfl, rfl, rfl, rfl, rfl, rfl⟩

theorem aside_coast (s : State) : Aside s (coast s) := by
  have hcreate := aside_createRecord .predicted (roundSub s.tracker.eSub) none s
  unfold coast
  dsimp only
  (repeat' split)
  · exact aside_trans hcreate (aside_tracker _ _)
  · exact aside_trans (aside_trans hcreate (aside_tracker _ _)) (aside_raiseIf true _ _)
  · exact aside_trans hcreate (aside_tracker _ _)

theorem aside_coastTest (s : State) : Aside s (coastTest s) := by
  unfold coastTest
  (repeat' split)
  all_goals first | exact aside_refl s | exact aside_tracker s _ | exact aside_coast s

theorem aside_acceptMark (x : Pos) (w : Nat) (s : State) : Aside s (acceptMark x w s) :=
  aside_trans (aside_createRecord _ _ _ s) (aside_tracker _ _)

theorem aside_acquire (x : Pos) (w : Nat) (s : State) : Aside s (acquire x w s) := by
  unfold acquire
  dsimp only
  (repeat' split)
  · exact aside_tracker s _
  · exact aside_trans (aside_tracker s _) (aside_trans (aside_acceptMark x w _) (aside_tracker _ _))
  · exact aside_tracker s _

theorem aside_countStray (x : Sensor) (s : State) : Aside s (countStray x s) :=
  aside_qual (by simp) (by simp)

theorem aside_qualified (x : Sensor) (p : Pos) (w : Nat) (s : State) : Aside s (qualified x p w s) := by
  cases x with
  | print =>
    unfold qualified printMark
    dsimp only
    (repeat' split)
    · exact aside_refl s
    · exact aside_acquire p w s
    · exact aside_acquire p w s
    all_goals first | exact aside_acceptMark p w s | exact aside_countStray .print s
  | foil =>
    unfold qualified foilMark
    dsimp only
    split
    · exact aside_changeRecord _ _ s
    · exact aside_countStray .foil s

theorem aside_leadingEdge (x : Sensor) (s : State) : Aside s (leadingEdge x s) := by
  unfold leadingEdge
  dsimp only
  (repeat' split)
  · exact aside_qual (by simp) (by simp)
  · exact aside_qual (by simp) (by simp)
  all_goals exact aside_refl s

/-! ## What a trim pulse hands on, the stations and the trackers hand on -/

/-- `P` holds on across what reaches no other block, and across the trim pulses of the cylinders in `on`. -/
structure Carries (on : Cyl → Prop) (P : State → Prop) : Prop where
  aside : ∀ {s t}, Aside s t → P s → P t
  pulse : ∀ {s} d c, on c → P s → P (stepPhase d c s)

section
variable {on : Cyl → Prop} {P : State → Prop} {s : State}

theorem carries_emitPulse (h : Carries on P) {c : Cyl} (hc : on c) (hs : P s) : P (emitPulse c s) :=
  h.pulse _ c hc (h.aside (aside_trans (aside_emit s c _) (aside_loop _ c _)) hs)

theorem carries_trimChanged (h : Carries on P) {c : Cyl} (hc : on c) (hs : P s) :
    P (trimChanged c s) := by
  unfold trimChanged
  dsimp only
  (repeat' split)
  · exact hs
  · exact carries_emitPulse h hc hs
  · exact h.aside (aside_trans (aside_turnIfNeeded c s) (aside_emit _ c _)) hs
  · exact h.aside (aside_turnIfNeeded c s) hs
  · exact hs

theorem carries_commitTrim (h : Carries on P) {c : Cyl} (hc : on c) (x : Int) (hs : P s) :
    P (commitTrim c x s) := carries_trimChanged h hc (h.aside (aside_loop s c _) hs)

theorem carries_correct (h : Carries on P) {c : Cyl} (hc : on c) (k : Nat) (n : BitVec 16) (e : Int)
    (hs : P s) : P (correct c k n e s) :=
  carries_commitTrim h hc _ (h.aside (aside_trans (aside_trans (aside_raiseIf _ _ s)
    (aside_changeRecord k _ _)) (aside_loop _ c _)) hs)

theorem carries_judge (h : Carries on P) {c : Cyl} (hc : on c) (k : Nat) (n : BitVec 16) (e : Int)
    (hs : P s) : P (judge c k n e s) := by
  have hput := h.aside (aside_changeRecord k (putError c e) s) hs
  unfold judge
  dsimp only
  have hreason : P (if (s.items.loop.get c).tol < e.natAbs then
      (s.changeRecord k (putError c e)).changeRecord k (withReason (outOfRegister c))
      else s.changeRecord k (putError c e)) := by
    split
    · exact h.aside (aside_changeRecord k _ _) hput
    · exact hput
  have hraised (b : Bool) (r : Raise) (t : State) (x : Loop) (ht : P t) :
      P (raiseIf b r (t.setLoop c x)) :=
    h.aside (aside_trans (aside_loop t c x) (aside_raiseIf b r _)) ht
  split
  · exact carries_correct h hc k n e (hraised _ _ _ _ hreason)
  · exact hraised _ _ _ _ hreason

theorem carries_measure (h : Carries on P) {c : Cyl} (hc : on c) (k : Nat) (r : LabelRecord) (b : Bool)
    (due : Pos) (hs : P s) : P (Machine.measure c k r b due s) := by
  unfold Machine.measure
  dsimp only
  (repeat' split)
  · exact hs
  · exact hs
  · exact h.aside (aside_changeRecord k _ s) hs
  · exact carries_judge h hc k _ _ hs

theorem carries_serveNip (h : Carries on P) (hf : on .f) (n : Nat) (hs : P s) : P (serveNip n s) := by
  induction n generalizing s with
  | zero => exact hs
  | succ n ih =>
    unfold serveNip
    (repeat' split)
    · exact hs
    · refine ih (carries_measure h hf _ _ _ _ (h.aside ?_ hs))
      exact aside_trans (aside_changeRecord _ _ s) (aside_track (by simp) (by simp) (by simp))
    · exact hs

theorem carries_serveEmboss (h : Carries on P) (he : on .e) (n : Nat) (hs : P s) :
    P (serveEmboss n s) := by
  induction n generalizing s with
  | zero => exact hs
  | succ n ih =>
    unfold serveEmboss
    (repeat' split)
    · exact hs
    · refine ih (carries_measure h he _ _ _ _ (h.aside ?_ hs))
      exact aside_trans (aside_changeRecord _ _ s) (aside_track (by simp) (by simp) (by simp))
    · exact hs

theorem carries_markerEvent (h : Carries on P) (he : on .e) (r : LabelRecord) (hs : P s) :
    P (markerEvent r s) := by
  have hemboss : P (if s.track.emboss ≤ s.track.marker then embossByMarker s.track.marker r s
      else s) := by
    split
    · refine carries_serveEmboss h he _ (h.aside ?_ hs)
      exact aside_trans (aside_changeRecord _ _ s) (aside_track (by simp) (by simp) (by simp))
    · exact hs
  exact h.aside (aside_verdictIn _ _ (fun _ => s.track.marker + 1) _) hemboss

theorem carries_serveMarker (h : Carries on P) (he : on .e) (n : Nat) (hs : P s) :
    P (serveMarker n s) := by
  induction n generalizing s with
  | zero => exact hs
  | succ n ih =>
    unfold serveMarker
    (repeat' split)
    · exact hs
    · exact ih (carries_markerEvent h he _ hs)
    · exact hs

/-- R38: the five stations. -/
theorem carries_serveStations (h : Carries on P) (hf : on .f) (he : on .e) (hs : P s) :
    P (serveStations s) :=
  h.aside (aside_serveRemoval _ _) (carries_serveMarker h he _ (carries_serveEmboss h he _
    (h.aside (aside_serveGate _ _) (carries_serveNip h hf _ hs))))

/-- R20: a measurement has ended: at most emboss nip events follow. -/
theorem carries_measurementEnded (h : Carries on P) (he : on .e) (x : Sensor) (hs : P s) :
    P (measurementEnded x s) := by
  unfold measurementEnded releaseGate
  dsimp only
  (repeat' split)
  · exact h.aside (aside_trans (aside_tracker s _) (aside_coast _)) hs
  · exact hs
  · exact carries_serveEmboss h he _
      (h.aside (aside_trans (aside_gateTaken s) (aside_serveGate _ _)) hs)
  · exact hs

theorem carries_rejectMark (h : Carries on P) (he : on .e) (x : Sensor) (st : QualState) (hs : P s) :
    P (rejectMark x st s) :=
  carries_measurementEnded h he x (h.aside (aside_qual (by simp) (by simp)) hs)

theorem carries_trailingEdge (h : Carries on P) (he : on .e) (x : Sensor) (hs : P s) :
    P (trailingEdge x s) := by
  unfold trailingEdge
  dsimp only
  (repeat' split)
  · exact hs
  · exact h.aside (aside_qual (by simp) (by simp)) hs
  · refine carries_measurementEnded h he x (h.aside ?_ hs)
    exact aside_trans (aside_qual (by simp) (by simp)) (aside_qualified x _ _ _)
  · exact carries_rejectMark h he x _ hs

theorem carries_qualForward (h : Carries on P) (he : on .e) (x : Sensor) (hs : P s) :
    P (qualForward x s) := by
  unfold qualForward
  dsimp only
  split
  · exact carries_rejectMark h he x _ hs
  · exact hs

theorem carries_qualReverse (h : Carries on P) (he : on .e) (x : Sensor) (hs : P s) :
    P (qualReverse x s) := by
  unfold qualReverse
  split
  · exact carries_rejectMark h he x _ hs
  · exact hs

end

end Sys2Proof.Proofs
end

section
/-! What the sequencers' orders and a lane's steps leave of every lane: its run list, its last revolution and
its count of clamped leads (R121, R123, R125 to R129, R135). -/
namespace Sys2Proof.Proofs

open Sys2Proof.Machine

/-- What a lane keeps outside boundaries, rebuilds and resets. -/
def KeptLane (x y : LaneCtl) : Prop :=
  y.clipped = x.clipped ∧ y.lastRev = x.lastRev ∧ y.runList = x.runList

/-- Every lane keeps it. -/
def LanesKept (s t : State) : Prop := ∀ l, KeptLane (s.lane.get l) (t.lane.get l)

theorem keptLane_refl (x : LaneCtl) : KeptLane x x := ⟨rfl, rfl, rfl⟩

theorem lanesKept_refl (s : State) : LanesKept s s := fun _ => keptLane_refl _

theorem lanesKept_trans {s t u : State} (h : LanesKept s t) (h' : LanesKept t u) : LanesKept s u := by
  intro l
  obtain ⟨hc, hr, hl⟩ := h l
  obtain ⟨hc', hr', hl'⟩ := h' l
  exact ⟨hc'.trans hc, hr'.trans hr, hl'.trans hl⟩

theorem lanesKept_of_eq {s t : State} (h : t.lane = s.lane) : LanesKept s t := by
  intro l; rw [h]; exact keptLane_refl _

theorem lanesKept_setLane {s : State} {l : Lane} {x : LaneCtl} (h : KeptLane (s.lane.get l) x) :
    LanesKept s (s.setLane l x) := by
  intro m
  rw [setLane_lane, PerLane.get_set]
  split
  · next hm => exact hm ▸ h
  · exact keptLane_refl _

theorem lanesKept_set {s t : State} {l : Lane} {x : LaneCtl} (ht : t.lane = s.lane.set l x)
    (h : KeptLane (s.lane.get l) x) : LanesKept s t :=
  lanesKept_trans (lanesKept_setLane h) (lanesKept_of_eq ht)

theorem keptLane_endRun (x : LaneCtl) : KeptLane x (endRun x) := by
  unfold endRun parkBegin; dsimp only; split <;> exact ⟨rfl, rfl, rfl⟩

theorem lanesKept_cut {s t : State} (h : t.lane = cutLanes s.lane) : LanesKept s t := by
  intro l
  rw [h, cutLanes, PerLane.get_map]
  split
  · exact keptLane_endRun _
  · exact keptLane_refl _

/-- What hands F's leaving ON to the lanes keeps them: it cuts their runs or leaves them. -/
theorem lanesKept_of_cutIf {s t : State} {p : Prop} [Decidable p]
    (h : t.lane = if p then cutLanes s.lane else s.lane) : LanesKept s t := by
  split at h
  · exact lanesKept_cut h
  · exact lanesKept_of_eq h

theorem lanesKept_seqTo (c : Cyl) (st : SeqState) (s : State) : LanesKept s (seqTo c st s) :=
  lanesKept_of_cutIf (seqTo_lane c st s)

theorem lanesKept_enterEngaging (c : Cyl) (s : State) : LanesKept s (enterEngaging c s) := by
  unfold enterEngaging
  dsimp only
  split
  · exact lanesKept_trans (lanesKept_seqTo c .engaging s) (lanesKept_seqTo c .on _)
  · exact lanesKept_seqTo c .engaging s

theorem lanesKept_throwOff (c : Cyl) (x : ThrowCause) (s : State) : LanesKept s (throwOff c x s) :=
  lanesKept_of_cutIf (throwOff_lane c x s)

theorem lanesKept_laneOrder (s : State) : LanesKept s (laneOrder s) := by
  unfold laneOrder
  exact lanesKept_trans (lanesKept_throwOff .f .fault s) (lanesKept_of_eq (by simp))

/-! ## The steps of a lane -/

/-- R135: the lane itself as it enters FAULTED. -/
def faultedLane (x : LaneCtl) : LaneCtl :=
  { x with
    state := .faulted, run := none, acc := 0, parkPending := false, parkTimer := 0,
    parkExpired := false, checkTimer := none,
    check := if x.state = .check then { x.check with done := true, result := .fail } else x.check }

/-- R135: a lane enters FAULTED and raises its faults, before its throw-off order. -/
def faultRaised (l : Lane) (broke low out : Bool) (s : State) : State :=
  raiseIf out ⟨.foilOut, .lane l, none, 0⟩
    (raiseIf low ⟨.foilLow, .lane l, none, (s.lane.get l).foil⟩
      (raiseIf broke ⟨.foilBreak, .lane l, none, (s.lane.get l).motion⟩
        (s.setLane l (faultedLane (s.lane.get l)))))

theorem enterFaulted_eq (l : Lane) (broke low out : Bool) (s : State) :
    enterFaulted l broke low out s =
      if (faultRaised l broke low out s).hasSpans l then laneOrder (faultRaised l broke low out s)
      else faultRaised l broke low out s := rfl

theorem faultRaised_lane (l : Lane) (broke low out : Bool) (s : State) :
    (faultRaised l broke low out s).lane = s.lane.set l (faultedLane (s.lane.get l)) := by
  simp [faultRaised]

theorem lanesKept_enterFaulted (l : Lane) (b low out : Bool) (s : State) :
    LanesKept s (enterFaulted l b low out s) := by
  have hraised : LanesKept s (faultRaised l b low out s) :=
    lanesKept_set (faultRaised_lane l b low out s) ⟨rfl, rfl, rfl⟩
  rw [enterFaulted_eq]
  split
  · exact lanesKept_trans hraised (lanesKept_laneOrder _)
  · exact hraised

/-- R128: a step emitted: the pulse and the counts, before the tests. -/
def laneStepped (l : Lane) (s : State) : State :=
  pulseOut l { s.setLane l (stepCounts s.free (s.lane.get l)) with free := s.free + 1 }

/-- R128, R132, R134: one step of a lane, by its foil and its tests. -/
theorem laneStep_eq (l : Lane) (s : State) :
    let y := stepCounts s.free (s.lane.get l)
    let broke := decide ((s.items.lane.get l).window < y.motion)
    let low := lowNext (s.items.lane.get l) (s.lane.get l)
    laneStep l s =
      if (s.lane.get l).foil = 0 then enterFaulted l false false true s
      else if broke || y.foil == 0 then enterFaulted l broke low (y.foil == 0) (laneStepped l s)
      else raiseIf low ⟨.foilLow, .lane l, none, y.foil⟩ (laneStepped l s) := rfl

theorem laneStepped_lane (l : Lane) (s : State) :
    (laneStepped l s).lane = s.lane.set l (stepCounts s.free (s.lane.get l)) := by
  simp [laneStepped]

theorem lanesKept_laneStep (l : Lane) (s : State) : LanesKept s (laneStep l s) := by
  have hstep : LanesKept s (laneStepped l s) :=
    lanesKept_set (laneStepped_lane l s) ⟨rfl, rfl, rfl⟩
  rw [laneStep_eq]
  (repeat' split)
  · exact lanesKept_enterFaulted l _ _ _ s
  · exact lanesKept_trans hstep (lanesKept_enterFaulted l _ _ _ _)
  · exact lanesKept_trans hstep (lanesKept_of_eq (by simp))

theorem lanesKept_laneSteps (l : Lane) (n : Nat) (s : State) : LanesKept s (laneSteps l n s) := by
  induction n generalizing s with
  | zero => exact lanesKept_refl s
  | succ n ih =>
    unfold laneSteps
    (repeat' split)
    · exact lanesKept_laneStep l s
    · exact lanesKept_trans (lanesKept_laneStep l s) (ih _)
    · exact lanesKept_refl s

theorem lanesKept_runCount (l : Lane) (s : State) : LanesKept s (runCount l s) := by
  refine lanesKept_trans ?_ (lanesKept_laneSteps l _ _)
  exact lanesKept_setLane ⟨rfl, rfl, rfl⟩

theorem lanesKept_laneRun (l : Lane) (p : Nat) (s : State) : LanesKept s (laneRun l p s) := by
  unfold laneRun
  dsimp only
  split
  · exact lanesKept_trans (lanesKept_runCount l s) (lanesKept_setLane (keptLane_endRun _))
  · exact lanesKept_runCount l s

theorem keptLane_startRun (n : Nat) (r : Span) (x : LaneCtl) : KeptLane x (startRun n r x) :=
  ⟨rfl, rfl, rfl⟩

theorem lanesKept_laneCount (l : Lane) (p : Nat) (s : State) : LanesKept s (laneCount l p s) := by
  unfold laneCount
  dsimp only
  (repeat' split)
  · exact lanesKept_laneRun l p s
  · exact lanesKept_refl s
  · exact lanesKept_setLane ⟨rfl, rfl, rfl⟩
  · exact lanesKept_trans (lanesKept_setLane (keptLane_startRun _ _ _)) (lanesKept_laneRun l p _)
  all_goals exact lanesKept_refl s

/-- R126 to R129: a forward count at the lanes. -/
theorem lanesKept_lanesCount (s : State) : LanesKept s (lanesCount s) := by
  unfold lanesCount
  exact lanesKept_trans (lanesKept_trans (lanesKept_trans (lanesKept_laneCount .l0 _ s)
    (lanesKept_laneCount .l1 _ _)) (lanesKept_laneCount .l2 _ _)) (lanesKept_laneCount .l3 _ _)

end Sys2Proof.Proofs
end

section
/-! Everything a step can do to the web, the phases, the sheets, the items and the counters, said once: `Moves`.
What the rest of the state does is `Beside` it. -/
namespace Sys2Proof.Proofs

open Sys2Proof.Machine Sys2Proof.Safety

/-- R186: the counters of the Link Port at most rise to their limits. -/
structure LinkTallied (l m : Link) : Prop where
  good : Saturates l.good m.good
  checkErrors : Saturates l.checkErrors m.checkErrors
  charErrors : Saturates l.charErrors m.charErrors
  overlaps : Saturates l.overlaps m.overlaps
  ignored : Saturates l.ignored m.ignored

/-- Nothing of web, phases, sheets and items changes, and no counter passes its limit. -/
structure Beside (s t : State) : Prop extends Tallied s t where
  web : t.web = s.web
  phase : t.phase = s.phase
  sheets : t.sheets = s.sheets
  items : t.items = s.items
  clipped : ∀ l, Saturates (s.lane.get l).clipped (t.lane.get l).clipped
  link : LinkTallied s.link t.link

/-- R3: the speed values stay, or are values that a gate end or a reset may publish. -/
def SpeedMove (w x : Web) : Prop :=
  (x.v = w.v ∧ x.stopped = w.stopped ∧ x.speed = w.speed) ∨
  (-32768 ≤ x.v ∧ x.v ≤ 32767 ∧ x.speed ≤ 63 ∧ (x.v ≤ 0 → x.stopped = true ∧ x.speed = 0))

/-- What can happen to the phase of a cylinder while sheets and items stand. -/
inductive PhaseMove (s : State) (c : Cyl) : Phase → Prop
  /-- R6, R7: a forward or a backward step against the active sheet. -/
  | step {d : TrimDir} {o : PhaseOut} : stepOf d c s = some o → PhaseMove s c o.phase
  /-- R10: an index arrival taken. -/
  | index {sh : Sheet} : s.sheets.active = some sh → PhaseMove s c (arrivedPhase sh c (s.phase.get c))
  /-- R2, R11, R186: the count published, an arrival counted, the counters cleared. -/
  | aside {p : Phase} : p.phi = (s.phase.get c).phi → p.hold = (s.phase.get c).hold →
      p.missCount = (s.phase.get c).missCount → p.missOpen = (s.phase.get c).missOpen →
      p.indexLost = (s.phase.get c).indexLost →
      Saturates (s.phase.get c).arrivals p.arrivals → PhaseMove s c p
  /-- R18: a RUNTIME reset. -/
  | runtime : PhaseMove s c (runtimePhase (s.phase.get c))

/-- R14: the miss account of a cylinder when its index items are written. -/
structure MissWrite (old new : IndexItems) (p q : Phase) : Prop where
  phi : q.phi = p.phi
  hold : q.hold = p.hold
  arrivals : q.arrivals = p.arrivals
  count : q.missCount = 0 ∨ (q.missCount = p.missCount ∧ new.limit = old.limit)
  open_of : q.missOpen = true → p.missOpen = true ∧ new.source = old.source ∧ q.indexLost = p.indexLost

/-- R179: the items stay but for values in range, and the misses follow the index items. -/
structure ItemsWrite (s : State) (x : Items) (p : PerCyl Phase) : Prop where
  range : ∀ i, itemValue x i = itemValue s.items i ∨ itemRange i (itemValue x i)
  misses : ∀ c, MissWrite (s.items.index.get c) (x.index.get c) (s.phase.get c) (p.get c)

/-- R15, R114: the sheets and the phases as a sheet comes into force. -/
def inForce (sh : Sheet) (s : State) : State :=
  { s with
    sheets := { s.sheets with active := some sh, pending := none },
    phase := if newLength sh.params s then
        ⟨swappedPhase sh.params .f s.phase.f, swappedPhase sh.params .e s.phase.e⟩ else s.phase }

/-- What a command or a tick can do to a state. -/
inductive Moves : State → State → Prop
  | beside {s t : State} : Beside s t → Moves s t
  | trans {s t u : State} : Moves s t → Moves t u → Moves s u
  /-- R1 to R3: counts, encoder errors and gate ends. -/
  | web {s : State} {x : Web} : Saturates s.web.encErrors x.encErrors → SpeedMove s.web x →
      Moves s { s with web := x }
  | phase {s : State} {c : Cyl} {p : Phase} : PhaseMove s c p → Moves s (s.setPhase c p)
  /-- R97 to R113: the staged sheet edited, a sheet put to wait or dropped, a COMMIT noted. -/
  | sheets {s : State} {x : Sheets} : x.active = s.sheets.active →
      (x.pending = s.sheets.pending ∨ x.pending = none ∨ ∃ sh, x.pending = some sh ∧ lengthSound sh) →
      Moves s { s with sheets := x }
  | swap {s : State} {sh : Sheet} : s.sheets.pending = some sh ∨ lengthSound sh → Moves s (inForce sh s)
  | items {s : State} {x : Items} {p : PerCyl Phase} : ItemsWrite s x p →
      Moves s { s with items := x, phase := p }
  | reset {s : State} (p : PinLevels) : Moves s (fullReset p s)

/-! ## What is beside -/

theorem linkTallied_refl (l : Link) : LinkTallied l l := by constructor <;> simp

theorem linkTallied_trans {l m n : Link} (h : LinkTallied l m) (h' : LinkTallied m n) :
    LinkTallied l n where
  good := saturates_trans h.good h'.good
  checkErrors := saturates_trans h.checkErrors h'.checkErrors
  charErrors := saturates_trans h.charErrors h'.charErrors
  overlaps := saturates_trans h.overlaps h'.overlaps
  ignored := saturates_trans h.ignored h'.ignored

theorem beside_trans {s t u : State} (h : Beside s t) (h' : Beside t u) : Beside s u where
  toTallied := tallied_trans h.toTallied h'.toTallied
  web := h'.web.trans h.web
  phase := h'.phase.trans h.phase
  sheets := h'.sheets.trans h.sheets
  items := h'.items.trans h.items
  clipped l := saturates_trans (h.clipped l) (h'.clipped l)
  link := linkTallied_trans h.link h'.link

theorem beside_of_aside {s t : State} (h : Aside s t) : Beside s t where
  toTallied := h.toTallied
  web := h.web
  phase := h.phase
  sheets := h.sheets
  items := h.items
  clipped l := by rw [h.lane]; exact saturates_self _
  link := by rw [h.link]; exact linkTallied_refl _

/-- An operation of the sequencers or the lanes, by what its frame lemma says of the rest. -/
theorem beside_of_frame {s t : State}
    (h : t.web = s.web ∧ t.phase = s.phase ∧ t.sheets = s.sheets ∧ t.items = s.items ∧
      t.qual = s.qual ∧ t.track = s.track ∧ t.link = s.link)
    (hl : ∀ l, Saturates (s.lane.get l).clipped (t.lane.get l).clipped) : Beside s t := by
  obtain ⟨hweb, hphase, hsheets, hitems, hqual, htrack, hlink⟩ := h
  exact ⟨tallied_of_eq hqual htrack, hweb, hphase, hsheets, hitems, hl, hlink ▸ linkTallied_refl _⟩

theorem saturates_of_lanesKept {s t : State} (h : LanesKept s t) (l : Lane) :
    Saturates (s.lane.get l).clipped (t.lane.get l).clipped := by
  rw [(h l).1]; exact saturates_self _

theorem beside_of_kept {s t : State}
    (h : t.web = s.web ∧ t.phase = s.phase ∧ t.sheets = s.sheets ∧ t.items = s.items ∧
      t.qual = s.qual ∧ t.track = s.track ∧ t.link = s.link)
    (hl : LanesKept s t) : Beside s t := beside_of_frame h (saturates_of_lanesKept hl)

theorem beside_refl (s : State) : Beside s s := beside_of_aside (aside_refl s)

theorem moves_refl (s : State) : Moves s s := .beside (beside_refl s)

theorem beside_link {s : State} {x : Link} (h : LinkTallied s.link x) :
    Beside s { s with link := x } :=
  ⟨tallied_of_eq rfl rfl, rfl, rfl, rfl, rfl, fun _ => saturates_self _, h⟩

theorem beside_setLane {s : State} {l : Lane} {x : LaneCtl}
    (h : Saturates (s.lane.get l).clipped x.clipped) : Beside s (s.setLane l x) := by
  refine beside_of_frame (by simp) fun m => ?_
  rw [setLane_lane, PerLane.get_set]
  split
  · next hm => exact hm ▸ h
  · exact saturates_self _

/-! ## The sequencers and the lanes -/

theorem beside_seqTo (c : Cyl) (st : SeqState) (s : State) : Beside s (seqTo c st s) :=
  beside_of_kept (by simp) (lanesKept_seqTo c st s)

theorem beside_enterEngaging (c : Cyl) (s : State) : Beside s (enterEngaging c s) :=
  beside_of_kept (by simp) (lanesKept_enterEngaging c s)

theorem beside_throwOff (c : Cyl) (x : ThrowCause) (s : State) : Beside s (throwOff c x s) :=
  beside_of_kept (by simp) (lanesKept_throwOff c x s)

theorem beside_clearResume (c : Cyl) (s : State) : Beside s (clearResume c s) :=
  beside_of_kept (by simp) (lanesKept_of_eq (by simp))

theorem beside_throwPhaseEvent (c : Cyl) (s : State) : Beside s (throwPhaseEvent c s) :=
  beside_of_kept (by simp) (lanesKept_of_eq (by simp))

theorem beside_raiseIf (b : Bool) (r : Raise) (s : State) : Beside s (raiseIf b r s) :=
  beside_of_aside (aside_raiseIf b r s)

theorem beside_engageCyl (c : Cyl) (s : State) : Beside s (engageCyl c s).1 := by
  unfold engageCyl
  dsimp only
  (repeat' split)
  · exact beside_refl s
  · exact beside_refl s
  · exact beside_trans (beside_clearResume c s) (beside_enterEngaging c _)
  · exact beside_trans (beside_clearResume c s) (beside_seqTo c .waitPhase _)
  all_goals first | exact beside_clearResume c s | exact beside_refl s

theorem beside_stopDwell (s : State) (d : Option Nat) : Beside s { s with stopDwell := d } :=
  beside_of_kept ⟨rfl, rfl, rfl, rfl, rfl, rfl, rfl⟩ (lanesKept_of_eq rfl)

theorem beside_resume (s : State) (b : Bool) : Beside s { s with resume := b } :=
  beside_of_kept ⟨rfl, rfl, rfl, rfl, rfl, rfl, rfl⟩ (lanesKept_of_eq rfl)

theorem beside_stopThrowOff (s : State) : Beside s (stopThrowOff s) := by
  have hoff : Beside s (throwOff .f .stop { s with stopDwell := none }) :=
    beside_trans (beside_stopDwell s none) (beside_throwOff .f .stop _)
  unfold stopThrowOff
  dsimp only
  split
  · exact beside_trans hoff (beside_resume _ true)
  · exact hoff

theorem beside_startDwell (was : SeqState) (s : State) : Beside s (startDwell was s) := by
  unfold startDwell
  (repeat' split)
  · exact beside_stopThrowOff s
  · exact beside_stopDwell s _
  · exact beside_refl s

theorem beside_resumeEngage (s : State) : Beside s (resumeEngage s) := by
  unfold resumeEngage
  split
  · exact beside_trans (beside_engageCyl .f s) (beside_resume _ false)
  · exact beside_refl s

theorem beside_gateEndSeqs (b : Bool) (s : State) : Beside s (gateEndSeqs b s) := by
  unfold gateEndSeqs
  (repeat' split)
  · exact beside_trans (beside_throwPhaseEvent .f s)
      (beside_trans (beside_throwPhaseEvent .e _) (beside_startDwell _ _))
  · exact beside_refl s
  · exact beside_trans (beside_stopDwell s none) (beside_resumeEngage _)
  · exact beside_resumeEngage s

theorem saturates_rebuilt (s : State) (l : Lane) (x : LaneCtl) :
    Saturates x.clipped (rebuilt s l x).clipped := saturates_min _ _

theorem parkAdvance_clipped (n : Nat) (x : LaneCtl) : (parkAdvance n x).1.clipped = x.clipped := by
  unfold parkAdvance; dsimp only; (repeat' split) <;> rfl

theorem beside_lanesBoundary (s : State) : Beside s (lanesBoundary s) := by
  refine beside_of_frame (by simp) fun l => ?_
  rw [lanesBoundary_get, boundaryLane, parkAdvance_clipped]
  exact saturates_rebuilt s l _

theorem beside_rebuildLane (l : Lane) (s : State) : Beside s (rebuildLane l s) :=
  beside_setLane (saturates_rebuilt s l _)

theorem beside_rebuildAll (s : State) : Beside s (rebuildAll s) := by
  refine beside_of_frame (by simp) fun l => ?_
  rw [rebuildAll_get]
  exact saturates_rebuilt s l _

theorem beside_lanesCount (s : State) : Beside s (lanesCount s) :=
  beside_of_kept (by simp) (lanesKept_lanesCount s)

/-! ## Swaps, phase steps and counts -/

/-- R114: a swap is the sheet in force, and throws and lists beside it. -/
theorem moves_swapTo {sh : Sheet} {s : State} (h : s.sheets.pending = some sh ∨ lengthSound sh) :
    Moves s (swapTo sh s) := by
  refine .trans (.swap h) (.beside (beside_of_frame ?_ fun l => ?_))
  · simp [swapTo_phase, inForce]
  · obtain ⟨-, -, -, -, hkept, hcut⟩ := swapTo_taken sh s
    dsimp only at hkept hcut
    by_cases hl : keepsThrown sh s .f ∨ (if swapFires sh.params s .f = true ∧
        (s.seq.get .f).state = .waitPhase then thrown s .f else s.seq.get .f).state ≠ .on
    · rw [hkept hl l]; exact saturates_min _ _
    · obtain ⟨hk, hon⟩ := not_or.1 hl
      rw [hcut hk (not_not.1 hon) l]
      split <;> exact saturates_min _ _

theorem moves_swapPending (s : State) : Moves s (swapPending s) := by
  unfold swapPending
  split
  · next h => exact moves_swapTo (.inl h)
  · exact moves_refl s

theorem moves_handBoundary (c : Cyl) (s : State) : Moves s (handBoundary c s) := by
  cases c with
  | f => exact .trans (moves_swapPending s) (.beside (beside_lanesBoundary _))
  | e => exact moves_refl s

theorem moves_handStep (c : Cyl) (o : PhaseOut) (s : State) : Moves s (handStep c o s) := by
  have hbound : Moves s (if o.boundary then handBoundary c s else s) := by
    split
    · exact moves_handBoundary c s
    · exact moves_refl s
  have hthrow (t : State) : Beside t (if o.throwEv then throwPhaseEvent c t else t) := by
    split
    · exact beside_throwPhaseEvent c t
    · exact beside_refl t
  exact .trans hbound (.beside (beside_trans (hthrow _) (beside_raiseIf _ _ _)))

theorem moves_stepPhase (d : TrimDir) (c : Cyl) (s : State) : Moves s (stepPhase d c s) := by
  unfold stepPhase
  split
  · next h => exact .trans (.phase (.step h)) (moves_handStep c _ _)
  · exact moves_refl s

theorem moves_stepBoth (d : TrimDir) (s : State) : Moves s (stepBoth d s) := by
  unfold stepBoth
  split
  · next a b ha hb =>
    have hboth : Moves s { s with phase := ⟨a.phase, b.phase⟩ } :=
      .trans (.phase (.step ha)) (.phase (c := .e) (.step (s := s.setPhase .f a.phase) hb))
    exact .trans hboth (.trans (moves_handStep .f a _) (moves_handStep .e b _))
  · exact moves_refl s

/-- R2: the phases published. -/
theorem moves_publish (s : State) : Moves s (publish s) := by
  have hf : Moves s (s.setPhase .f { s.phase.f with pub := s.phase.f.phi }) :=
    .phase (.aside rfl rfl rfl rfl rfl (saturates_self _))
  exact .trans hf (.phase (c := .e) (p := { s.phase.e with pub := s.phase.e.phi })
    (.aside rfl rfl rfl rfl rfl (saturates_self _)))

/-- What a step has moved so far goes on along the stations and the trackers. -/
theorem moves_carries (s : State) : Carries (fun _ => True) (Moves s) where
  aside h hs := .trans hs (.beside (beside_of_aside h))
  pulse d c _ hs := .trans hs (moves_stepPhase d c _)

theorem moves_moveWeb (d : Direction) (s : State) : Moves s { s with web := moveWeb d s.web } := by
  cases d <;> exact .web (saturates_self _) (.inl ⟨rfl, rfl, rfl⟩)

theorem moves_forwardCount (s : State) : Moves s (forwardCount s) := by
  have hs := moves_carries s
  have hpub : Moves s (publish (stepBoth .advance { s with web := moveWeb .forward s.web })) :=
    .trans (moves_moveWeb .forward s) (.trans (moves_stepBoth .advance _) (moves_publish _))
  have hqual := carries_qualForward hs trivial .foil (carries_qualForward hs trivial .print
    (carries_serveStations hs trivial trivial hpub))
  exact .trans (hs.aside (aside_coastTest _) hqual) (.beside (beside_lanesCount _))

theorem moves_reverseCount (s : State) : Moves s (reverseCount s) := by
  have hs := moves_carries s
  have hpub : Moves s (publish (stepBoth .retard { s with web := moveWeb .reverse s.web })) :=
    .trans (moves_moveWeb .reverse s) (.trans (moves_stepBoth .retard _) (moves_publish _))
  exact hs.aside (aside_reverseRemoval _ _) (carries_qualReverse hs trivial .foil
    (carries_qualReverse hs trivial .print hpub))

end Sys2Proof.Proofs
end

section
/-! Every command and every tick moves a state only as `Moves` says. -/
namespace Sys2Proof.Proofs

open Sys2Proof.Machine Sys2Proof.Safety

/-! ## The events of the web, the marks, the emitters, the sequencers and the lanes -/

theorem moves_encoderTransition (a b : Bool) (s : State) : Moves s (encoderTransition a b s) := by
  have href : Moves s (setReference a b s) := .web (saturates_self _) (.inl ⟨rfl, rfl, rfl⟩)
  unfold encoderTransition
  dsimp only
  split
  · exact href
  · exact .trans href (moves_forwardCount _)
  · exact .trans href (moves_reverseCount _)
  · exact .trans href (.web (saturates_satInc _) (.inl ⟨rfl, rfl, rfl⟩))

theorem beside_now (s : State) (n : Nat) : Beside s { s with now := n } :=
  beside_of_kept ⟨rfl, rfl, rfl, rfl, rfl, rfl, rfl⟩ (lanesKept_of_eq rfl)

/-- R3: the values that a gate end publishes are in their ranges. -/
theorem speedMove_gateWeb (it : WebItems) (x : Web) : SpeedMove x (gateWeb it x) := by
  refine .inr ⟨?_, ?_, ?_, fun hv => ⟨?_, ?_⟩⟩
  · simp only [gateWeb, gateSpeed, clamp]; omega
  · simp only [gateWeb, gateSpeed, clamp]; omega
  · exact Nat.min_le_left _ _
  · have hle : gateSpeed x.tally ≤ (it.threshold : Int) := hv.trans (Int.natCast_nonneg _)
    exact decide_eq_true hle
  · have hzero : (gateSpeed x.tally).toNat = 0 := Int.toNat_of_nonpos hv
    simp [gateWeb, speedIndex, hzero]

theorem moves_gateEnd (s : State) : Moves s (gateEnd s) := by
  have hweb : Moves s { s.reachTime s.web.gateEnd with web := gateWeb s.items.web s.web } :=
    .trans (.beside (beside_now s _)) (.web (saturates_self _) (speedMove_gateWeb _ _))
  have hstore (b : Bool) (t : State) : Moves t (gateEndStore b t) := by
    unfold gateEndStore
    split
    · exact moves_swapPending t
    · exact moves_refl t
  exact .trans hweb (.trans (.beside (beside_gateEndSeqs _ _)) (hstore _ _))

theorem moves_indexArrival (c : Cyl) (s : State) : Moves s (indexArrival c s) := by
  unfold indexArrival
  split
  · next p hp _ _ =>
    obtain ⟨sh, hsh, rfl⟩ := Option.map_eq_some_iff.1 hp
    have hphase : Moves s (s.setPhase c (indexStep sh.params.lSub (sh.params.throw c)
        (s.phase.get c)).phase) := by
      rw [indexStep_eq]
      exact .phase (.index hsh)
    exact .trans hphase (.trans (moves_handStep c _ _) (.beside (beside_raiseIf _ _ _)))
  · exact .phase (.aside rfl rfl rfl rfl rfl (saturates_satInc _))

theorem beside_inputs (s : State) (x : Inputs) : Beside s { s with inputs := x } :=
  beside_of_kept ⟨rfl, rfl, rfl, rfl, rfl, rfl, rfl⟩ (lanesKept_of_eq rfl)

theorem beside_setLevel (x : Sensor) (high : Bool) (s : State) : Beside s (setLevel x high s) := by
  cases x <;> exact beside_inputs s _

theorem moves_markRise (x : Sensor) (s : State) : Moves s (markRise x s) := by
  unfold markRise
  split
  · exact moves_refl s
  · exact .beside (beside_trans (beside_setLevel x true s) (beside_of_aside (aside_leadingEdge x _)))

theorem moves_markFall (x : Sensor) (s : State) : Moves s (markFall x s) := by
  unfold markFall
  split
  · exact carries_trailingEdge (moves_carries s) trivial x (.beside (beside_setLevel x false s))
  · exact moves_refl s

theorem moves_spaceEnd (c : Cyl) (s : State) : Moves s (spaceEnd c s) := by
  have hnow : Moves s (s.reachTime (spaceDue (s.emit.get c))) := .beside (beside_now s _)
  unfold spaceEnd
  dsimp only
  (repeat' split)
  · exact .trans hnow (.beside (beside_of_aside (aside_emit _ c _)))
  · exact carries_emitPulse (moves_carries s) trivial hnow
  · exact moves_refl s

theorem beside_stepTimeEnd (c : Cyl) (s : State) : Beside s (stepTimeEnd c s) := by
  unfold stepTimeEnd
  dsimp only
  split
  · exact beside_trans (beside_now s _)
      (beside_of_aside (aside_trans (aside_emit _ c _) (aside_turnIfNeeded c _)))
  · exact beside_refl s

theorem beside_enterReleasing (c : Cyl) (s : State) : Beside s (enterReleasing c s) :=
  beside_of_kept (by simp) (lanesKept_of_cutIf (enterReleasing_lane c s))

theorem beside_setCause (c : Cyl) (x : ThrowCause) (s : State) : Beside s (setCause c x s) :=
  beside_of_kept (by simp) (lanesKept_of_eq (by simp))

theorem beside_dropDwell (c : Cyl) (s : State) : Beside s (dropDwell c s) :=
  beside_of_kept (by simp) (lanesKept_of_eq (by simp))

theorem beside_takeEdge (c : Cyl) (s : State) : Beside s (takeEdge c s) := by
  have hlost : Beside s (confirmLost c s) :=
    beside_trans (beside_trans (beside_raiseIf true _ s) (beside_dropDwell c _))
      (beside_trans (beside_setCause c .confirmLost _) (beside_seqTo c .off _))
  unfold takeEdge takeRise takeFall
  (repeat' split)
  · exact beside_seqTo c .on s
  all_goals first | exact beside_refl s | exact hlost | exact beside_seqTo c .off s

theorem beside_confirmEdge (high : Bool) (x : ConfirmEdge) (s : State) :
    Beside s (confirmEdge high x s) := by
  have hif (b : Bool) (t : State) : Beside t (if b then takeEdge x.cyl t else t) := by
    split
    · exact beside_takeEdge x.cyl t
    · exact beside_refl t
  exact beside_trans (hif _ s) (beside_trans (beside_inputs _ _) (hif x.taken _))

theorem beside_engageExpiry (c : Cyl) (s : State) : Beside s (engageExpiry c s) := by
  have hdwell (t : State) : Beside t (stopDwellOf c t) := by
    unfold stopDwellOf
    split
    · exact beside_stopDwell t none
    · exact beside_refl t
  unfold engageExpiry
  split
  · exact beside_trans (beside_now s _) (beside_trans (beside_raiseIf true _ _)
      (beside_trans (hdwell _) (beside_trans (beside_setCause c _ _) (beside_enterReleasing c _))))
  · exact beside_refl s

theorem beside_releaseExpiry (c : Cyl) (s : State) : Beside s (releaseExpiry c s) := by
  unfold releaseExpiry
  split
  · exact beside_trans (beside_now s _) (beside_trans (beside_raiseIf true _ _)
      (beside_trans (beside_seqTo c .off _) (beside_clearResume c _)))
  · exact beside_refl s

theorem beside_stopDwellExpiry (s : State) : Beside s (stopDwellExpiry s) := by
  unfold stopDwellExpiry
  split
  · exact beside_trans (beside_now s _) (beside_stopThrowOff _)
  · exact beside_refl s

theorem beside_laneStep (l : Lane) (s : State) : Beside s (laneStep l s) :=
  beside_of_kept (by simp) (lanesKept_laneStep l s)

theorem beside_checkStep (l : Lane) (due : Nat) (s : State) : Beside s (checkStep l due s) := by
  unfold checkStep
  dsimp only
  split
  · refine beside_trans (beside_setLane ?_) (beside_laneStep l _)
    exact saturates_self _
  · refine beside_setLane ?_
    exact saturates_self _

theorem beside_checkExpiry (l : Lane) (s : State) : Beside s (checkExpiry l s) := by
  unfold checkExpiry
  split
  · split
    · exact beside_trans (beside_now s _) (beside_checkStep l _ _)
    · exact beside_refl s
  · exact beside_refl s

end Sys2Proof.Proofs
end

section
/-! CONFIG WRITE (R4, R14, R32, R49, R51, R75, R81, R94, R120, R144, R154, R159): what a write that is taken
does, and that any other changes nothing. -/
namespace Sys2Proof.Proofs

open Sys2Proof.Machine Sys2Proof.Safety

/-! ## The items (R179) -/

/-- R179: an item takes a value, and every other item keeps its own. -/
def ItemPut (i : Item) (v : Nat) (x y : Items) : Prop :=
  itemValue y i = v ∧ ∀ j, j ≠ i → itemValue y j = itemValue x j

theorem itemPut_mark (x : Items) (v : Nat) (m : MarkItem) :
    ItemPut (.mark m) v x { x with mark := (putMark x.mark v m).2 } := by
  refine ⟨by cases m <;> rfl, fun j hj => ?_⟩
  cases j with
  | mark k => cases m <;> cases k <;> simp_all [itemValue, markValue, putMark]
  | _ => rfl

theorem itemPut_geo (x : Items) (v : Nat) (g : GeoItem) :
    ItemPut (.geo g) v x { x with geo := (putGeo x.geo v g).2 } := by
  refine ⟨by cases g <;> rfl, fun j hj => ?_⟩
  cases j with
  | geo k => cases g <;> cases k <;> simp_all [itemValue, geoValue, putGeo]
  | _ => rfl

theorem itemPut_loop (x : Items) (v : Nat) (i : LoopItem) (c : Cyl) :
    ItemPut (.loop i c) v x { x with loop := x.loop.set c (putLoop (x.loop.get c) v i).2 } := by
  refine ⟨by cases i <;> simp [itemValue, loopValue, putLoop], fun j hj => ?_⟩
  cases j with
  | loop k d =>
    by_cases hd : d = c
    · subst hd
      cases i <;> cases k <;> simp_all [itemValue, loopValue, putLoop]
    · simp [itemValue, PerCyl.get_set_ne _ _ hd]
  | _ => rfl

theorem itemPut_lane (x : Items) (v : Nat) (i : LaneItem) (l : Lane) :
    ItemPut (.lane i l) v x { x with lane := x.lane.set l (putLane (x.lane.get l) v i).2 } := by
  refine ⟨by cases i <;> simp [itemValue, laneValue, putLane], fun j hj => ?_⟩
  cases j with
  | lane k m =>
    by_cases hm : m = l
    · subst hm
      cases i <;> cases k <;> simp_all [itemValue, laneValue, putLane]
    · simp [itemValue, PerLane.get_set_ne _ _ hm]
  | mapping m =>
    by_cases hm : m = l
    · subst hm; cases i <;> simp [itemValue, putLane]
    · simp [itemValue, PerLane.get_set_ne _ _ hm]
  | _ => rfl

theorem itemPut_mapping (x : Items) (l : Lane) (d : Option Drive) :
    ItemPut (.mapping l) (mappingCode d) x
      { x with lane := x.lane.set l { x.lane.get l with drive := d } } := by
  refine ⟨by simp [itemValue], fun j hj => ?_⟩
  cases j with
  | lane k m =>
    by_cases hm : m = l
    · subst hm; cases k <;> simp [itemValue, laneValue]
    · simp [itemValue, PerLane.get_set_ne _ _ hm]
  | mapping m =>
    have hm : m ≠ l := fun h => hj (h ▸ rfl)
    simp [itemValue, PerLane.get_set_ne _ _ hm]
  | _ => rfl

/-- An index item of one cylinder: what the others of that cylinder read decides. -/
theorem itemPut_index {x : Items} {v : Nat} {i : IndexItem} {c : Cyl} {y : IndexItems}
    (hv : indexValue y i = v) (hk : ∀ k, k ≠ i → indexValue y k = indexValue (x.index.get c) k) :
    ItemPut (.index i c) v x { x with index := x.index.set c y } := by
  refine ⟨by simpa [itemValue] using hv, fun j hj => ?_⟩
  cases j with
  | index k d =>
    by_cases hd : d = c
    · subst hd
      simpa [itemValue] using hk k fun h => hj (h ▸ rfl)
    · simp [itemValue, PerCyl.get_set_ne _ _ hd]
  | _ => rfl

theorem itemPut_web {x : Items} {v : Nat} {i : WebItem} {y : WebItems} (hv : webValue y i = v)
    (hk : ∀ k, k ≠ i → webValue y k = webValue x.web k) :
    ItemPut (.web i) v x { x with web := y } := by
  refine ⟨hv, fun j hj => ?_⟩
  cases j with
  | web k => exact hk k fun h => hj (h ▸ rfl)
  | _ => rfl

theorem itemPut_act {x : Items} {v : Nat} {i : ActItem} {y : ActItems} (hv : actValue y i = v)
    (hk : ∀ k, k ≠ i → actValue y k = actValue x.act k) (ht : y.trimInterval = x.act.trimInterval) :
    ItemPut (.act i) v x { x with act := y } := by
  refine ⟨hv, fun j hj => ?_⟩
  cases j with
  | act k => exact hk k fun h => hj (h ▸ rfl)
  | trimInterval => exact ht
  | _ => rfl

/-! ## The blocks -/

/-- What the rule of an item asks of the state besides the range. -/
def WriteAdmitted (i : Item) (v : Nat) (s : State) : Prop :=
  match i with
  | .web .encoderDirection => s.web.stopped = true
  | .mark .acquireCount | .mark .coastLimit => True
  | .mark m =>
    let it := (putMark s.items.mark v m).2
    it.pwMin ≤ it.pwMax ∧ it.fwMin ≤ it.fwMax ∧
      constraintsOk s.items.geo it (s.sheets.active.map (·.params)) = true
  | .geo .markerWidth => s.track.records = []
  | .geo g => s.track.records = [] ∧ constraintsOk (putGeo s.items.geo v g).2 s.items.mark
      (s.sheets.active.map (·.params)) = true
  | .loop .amax c => (s.loop.get c).a.natAbs ≤ v ∧ (s.loop.get c).n.natAbs ≤ v
  | .mapping l => ((s.lane.get l).state = .disabled ∨ (s.lane.get l).state = .dwell) ∧
      s.seq.f.state = .off ∧ (v = 255 → spansAnywhere s l = false) ∧
      ∀ m, m ≠ l → v ≠ 255 → mappingCode (s.items.lane.get m).drive ≠ v
  | _ => True

/-- R14: the phases after a write of an item. -/
def PhaseWritten (i : Item) (s t : State) : Prop :=
  match i with
  | .index .phaseSource c => t.phase = s.phase.set c { s.phase.get c with
      missCount := 0, indexLost := false, missOpen := false }
  | .index .indexGate c => t.phase = s.phase.set c { s.phase.get c with missOpen := false }
  | .index .missLimit c => t.phase = s.phase.set c { s.phase.get c with missCount := 0 }
  | _ => t.phase = s.phase

/-- R21, R32: the tracker after a write of an item. -/
def TrackerWritten (i : Item) (s t : State) : Prop :=
  match i with
  | .mark .acquireCount => t.tracker = { s.tracker with k := 0 }
  | .geo _ => t.tracker.eSub = s.tracker.eSub
  | _ => t.tracker = s.tracker

/-- R75: the loops after a write of an item. -/
def LoopWritten (i : Item) (s t : State) : Prop :=
  match i with
  | .loop .runLength c => t.loop = s.loop.set c { s.loop.get c with run := 0 }
  | _ => t.loop = s.loop

/-- R120, R124: the lanes and the drives after a write of an item; a mapping has a rule of its own. -/
def LaneWritten (i : Item) (s t : State) : Prop :=
  match i with
  | .lane .runOut l | .lane .minDwell l => (t.lane.get l).runList =
      (buildRuns (s.spans l) ((s.lane.get l).leads.getD s.web.speed 0)
        (t.items.lane.get l).runOut (t.items.lane.get l).minDwell
        ((s.sheets.active.map (·.params.lSub / 256)).getD 0)).1
  | .mapping _ => True
  | _ => t.lane = s.lane ∧ t.drives = s.drives

/-- What a write that is taken does to the block of its item. -/
structure BlockEffect (i : Item) (v : Nat) (s t : State) : Prop where
  phase : PhaseWritten i s t
  tracker : TrackerWritten i s t
  loop : LoopWritten i s t
  dwell : t.stopDwell = (if i = .act .throwOffOnStop ∧ v = 0 then none else s.stopDwell)
  resume : t.resume = (s.resume && !(decide (i = .act .autoResume) && decide (v = 0)))
  faults : t.faults = (if i = .alarmMask then
    { s.faults with alm := s.faults.flags &&& BitVec.ofNat 12 v != 0 } else s.faults)
  lane : LaneWritten i s t
  clipped : ∀ l, Saturates (s.lane.get l).clipped (t.lane.get l).clipped
  rest : t.web = s.web ∧ t.track = s.track ∧ t.sheets = s.sheets ∧ t.emit = s.emit ∧
    t.seq = s.seq ∧ t.now = s.now ∧ t.link = s.link ∧ t.qual = s.qual

/-- What a write that is taken does. -/
structure WriteTaken (i : Item) (v : Nat) (s t : State) : Prop where
  put : ItemPut i v s.items t.items
  block : BlockEffect i v s t

/-- The items whose write touches its item alone. -/
def plainItem : Item → Bool
  | .index .indexTolerance _ => true
  | .index _ _ | .geo _ | .mapping _ | .alarmMask => false
  | .mark m => m != .acquireCount
  | .loop i _ => i != .runLength
  | .act .throwOffOnStop | .act .autoResume => false
  | .lane .runOut _ | .lane .minDwell _ => false
  | _ => true

/-- A write that touches its item alone. -/
theorem writeTaken_plain {i : Item} {v : Nat} {s : State} {x : Items} (hput : ItemPut i v s.items x)
    (hplain : plainItem i = true) : WriteTaken i v s { s with items := x } := by
  refine ⟨hput, ?_, ?_, ?_, ?_, ?_, ?_, ?_, fun _ => saturates_self _,
    rfl, rfl, rfl, rfl, rfl, rfl, rfl, rfl⟩
  · unfold PhaseWritten; split <;> simp_all [plainItem]
  · unfold TrackerWritten; split <;> simp_all [plainItem]
  · unfold LoopWritten; split <;> simp_all [plainItem]
  · rw [if_neg]; rintro ⟨rfl, -⟩; simp [plainItem] at hplain
  · have hi : i ≠ .act .autoResume := by rintro rfl; simp [plainItem] at hplain
    simp [hi]
  · rw [if_neg]; rintro rfl; simp [plainItem] at hplain
  · unfold LaneWritten; split <;> simp_all [plainItem]

end Sys2Proof.Proofs
end

section
/-! The writes, owner by owner: taken within range and with the state the rule asks for, else without effect. -/
namespace Sys2Proof.Proofs

open Sys2Proof.Machine Sys2Proof.Safety

/-- A write is taken, and does what its rule says. -/
def Takes (i : Item) (v : Nat) (s : State) (r : Written) : Prop :=
  ∃ t, r = (t, .ok) ∧ WriteTaken i v s t

/-- What a write may come to: refused with BAD_VALUE out of range, taken in range and admitted, and without
effect in any case that its rule refuses. -/
structure WriteRule (i : Item) (v : Nat) (s : State) (r : Written) : Prop where
  out_of_range : ¬ itemRange i v → r = (s, .badValue)
  taken : itemRange i v → WriteAdmitted i v s → Takes i v s r
  refused : ¬ WriteAdmitted i v s → r.1 = s

@[simp] theorem inRange_iff (lo hi v : Nat) : inRange lo hi v = true ↔ lo ≤ v ∧ v ≤ hi := by
  simp [inRange]

theorem flagOf_isSome {v : Nat} (h : v ≤ 1) : flagOf v = some (decide (v = 1)) := by
  interval_cases v <;> rfl

theorem flagOf_none {v : Nat} (h : ¬ v ≤ 1) : flagOf v = none := by
  unfold flagOf
  split
  · omega
  · omega
  · rfl

/-- A write of an item that the rest of its block's state does not bear on. -/
theorem writeRule_of_range {i : Item} {v : Nat} {s : State} {r : Written}
    (hadm : WriteAdmitted i v s) (hout : ¬ itemRange i v → r = (s, .badValue))
    (hin : itemRange i v → Takes i v s r) : WriteRule i v s r :=
  ⟨hout, fun h _ => hin h, fun h => absurd hadm h⟩

theorem writeRule_web (i : WebItem) (v : Nat) (s : State) :
    WriteRule (.web i) v s (writeWeb i v s) := by
  cases i with
  | encoderDirection =>
    refine ⟨fun h => ?_, fun h ha => ?_, fun h => ?_⟩
    · simp [writeWeb, flagOf_none h, refuse]
    · have hstop : s.web.stopped = true := ha
      refine ⟨_, by simp [writeWeb, flagOf_isSome h, hstop]; rfl, ?_⟩
      refine writeTaken_plain (itemPut_web ?_ fun k hk => by cases k <;> simp_all [webValue]) rfl
      have hv : v ≤ 1 := h
      interval_cases v <;> rfl
    · have hstop : s.web.stopped = false := Bool.eq_false_iff.2 h
      unfold writeWeb; dsimp only; split <;> simp [refuse, hstop]
  | stopThreshold =>
    refine writeRule_of_range trivial (fun h => if_neg h) fun h => ⟨_, if_pos h, ?_⟩
    exact writeTaken_plain (itemPut_web rfl fun k hk => by cases k <;> simp_all [webValue]) rfl
  | speedScale =>
    refine writeRule_of_range trivial (fun h => if_neg h) fun h => ⟨_, if_pos h, ?_⟩
    exact writeTaken_plain (itemPut_web rfl fun k hk => by cases k <;> simp_all [webValue]) rfl

/-- R14: a write of an index item moves the misses of its own cylinder alone. -/
theorem writeTaken_index {i : IndexItem} {c : Cyl} {v : Nat} {s : State} {x : IndexItems} {q : Phase}
    (hv : indexValue x i = v)
    (hk : ∀ k, k ≠ i → indexValue x k = indexValue (s.items.index.get c) k)
    (hq : match i with
      | .phaseSource => q = { s.phase.get c with missCount := 0, indexLost := false, missOpen := false }
      | .indexGate => q = { s.phase.get c with missOpen := false }
      | .missLimit => q = { s.phase.get c with missCount := 0 }
      | .indexTolerance => q = s.phase.get c) :
    WriteTaken (.index i c) v s
      { s with items := { s.items with index := s.items.index.set c x },
               phase := s.phase.set c q } := by
  refine ⟨itemPut_index hv hk, ?_, rfl, rfl, by simp, by simp, by simp, ⟨rfl, rfl⟩,
    fun _ => saturates_self _, rfl, rfl, rfl, rfl, rfl, rfl, rfl, rfl⟩
  cases i <;> simp_all [PhaseWritten]

theorem writeRule_index (i : IndexItem) (c : Cyl) (v : Nat) (s : State) :
    WriteRule (.index i c) v s (writeIndex i c v s) := by
  cases i with
  | phaseSource =>
    refine writeRule_of_range trivial (fun h => ?_) fun h => ?_
    · have hv : ¬ v ≤ 1 := h
      unfold writeIndex; dsimp only
      split
      · omega
      · omega
      · rfl
    · have hv : v ≤ 1 := h
      interval_cases v
      · exact ⟨_, rfl, writeTaken_index rfl (fun k hk => by cases k <;> simp_all [indexValue]) rfl⟩
      · exact ⟨_, rfl, writeTaken_index rfl (fun k hk => by cases k <;> simp_all [indexValue]) rfl⟩
  | indexGate =>
    refine writeRule_of_range trivial (fun h => if_neg (mt (inRange_iff _ _ _).1 h)) fun h =>
      ⟨_, if_pos ((inRange_iff _ _ _).2 h), ?_⟩
    exact writeTaken_index rfl (fun k hk => by cases k <;> simp_all [indexValue]) rfl
  | indexTolerance =>
    refine writeRule_of_range trivial (fun h => if_neg h) fun h => ⟨_, if_pos h, ?_⟩
    exact writeTaken_index rfl (fun k hk => by cases k <;> simp_all [indexValue]) rfl
  | missLimit =>
    refine writeRule_of_range trivial (fun h => if_neg (mt (inRange_iff _ _ _).1 h)) fun h =>
      ⟨_, if_pos ((inRange_iff _ _ _).2 h), ?_⟩
    exact writeTaken_index rfl (fun k hk => by cases k <;> simp_all [indexValue]) rfl

/-! ## Marks and geometry (R32, R49, R50) -/

theorem putMark_ranged (it : MarkItems) (v : Nat) (m : MarkItem) :
    (putMark it v m).1 = true ↔ itemRange (.mark m) v := by
  cases m <;> simp [putMark, itemRange]

/-- R32: the widths in order and the constraints met, with the value in place. -/
def markFits (s : State) (it : MarkItems) : Bool :=
  it.pwMin ≤ it.pwMax && it.fwMin ≤ it.fwMax && constraintsOk s.items.geo it s.active?

theorem writeMark_eq (m : MarkItem) (v : Nat) (s : State) :
    writeMark m v s =
      if (putMark s.items.mark v m).1 &&
          (!MarkItem.geometric m || markFits s (putMark s.items.mark v m).2) then
        (if m = .acquireCount then
          { s with
            items := { s.items with mark := (putMark s.items.mark v m).2 },
            tracker := { s.tracker with k := 0 } }
        else { s with items := { s.items with mark := (putMark s.items.mark v m).2 } }, .ok)
      else (s, .badValue) := by
  unfold writeMark; rfl

theorem markAdmitted_iff (m : MarkItem) (v : Nat) (s : State) : WriteAdmitted (.mark m) v s ↔
    (!MarkItem.geometric m || markFits s (putMark s.items.mark v m).2) = true := by
  cases m <;> simp [WriteAdmitted, MarkItem.geometric, markFits, State.active?, and_assoc]

theorem writeRule_mark (m : MarkItem) (v : Nat) (s : State) :
    WriteRule (.mark m) v s (writeMark m v s) := by
  rw [writeMark_eq]
  refine ⟨fun h => ?_, fun h ha => ?_, fun h => ?_⟩
  · rw [← putMark_ranged s.items.mark, Bool.not_eq_true] at h
    simp [h]
  · rw [← putMark_ranged s.items.mark] at h
    rw [markAdmitted_iff] at ha
    rw [h, ha]
    refine ⟨_, rfl, ?_⟩
    split
    · next hm =>
      subst hm
      exact ⟨itemPut_mark _ _ _, rfl, rfl, rfl, by simp, by simp, by simp, ⟨rfl, rfl⟩,
        fun _ => saturates_self _, rfl, rfl, rfl, rfl, rfl, rfl, rfl, rfl⟩
    · next hm => exact writeTaken_plain (itemPut_mark _ _ _) (by simpa [plainItem] using hm)
  · rw [markAdmitted_iff, Bool.not_eq_true] at h
    simp [h]

theorem putGeo_ranged (it : GeoItems) (v : Nat) (g : GeoItem) :
    (putGeo it v g).1 = true ↔ itemRange (.geo g) v := by
  cases g <;> simp [putGeo, itemRange]

theorem writeGeo_eq (g : GeoItem) (v : Nat) (s : State) :
    writeGeo g v s =
      if !(putGeo s.items.geo v g).1 then (s, .badValue)
      else if !s.track.records.isEmpty then (s, .busy)
      else if g != .markerWidth &&
          !constraintsOk (putGeo s.items.geo v g).2 s.items.mark s.active? then (s, .badValue)
      else (settleTracker { s with items := { s.items with geo := (putGeo s.items.geo v g).2 } }, .ok) := by
  unfold writeGeo; rfl

theorem geoAdmitted_iff (g : GeoItem) (v : Nat) (s : State) : WriteAdmitted (.geo g) v s ↔
    s.track.records = [] ∧ (g != .markerWidth &&
      !constraintsOk (putGeo s.items.geo v g).2 s.items.mark s.active?) = false := by
  cases g <;> simp [WriteAdmitted, State.active?]

theorem settleTracker_eSub (s : State) : (settleTracker s).tracker.eSub = s.tracker.eSub := by
  rw [settleTracker_tracker]; (repeat' split) <;> rfl

theorem writeRule_geo (g : GeoItem) (v : Nat) (s : State) :
    WriteRule (.geo g) v s (writeGeo g v s) := by
  rw [writeGeo_eq]
  refine ⟨fun h => ?_, fun h ha => ?_, fun h => ?_⟩
  · rw [← putGeo_ranged s.items.geo, Bool.not_eq_true] at h
    simp [h]
  · rw [← putGeo_ranged s.items.geo] at h
    obtain ⟨hempty, hok⟩ := (geoAdmitted_iff g v s).1 ha
    rw [h, hok, hempty]
    refine ⟨_, rfl, ?_, ?_, settleTracker_eSub _, ?_, ?_, ?_, ?_, ?_, ?_, ?_⟩ <;>
      simp [PhaseWritten, LoopWritten, LaneWritten]
    exact itemPut_geo _ _ _
  · rw [geoAdmitted_iff, not_and_or] at h
    (repeat' split) <;> try rfl
    simp_all

/-! ## Loops, actuation and the single items (R51, R75, R81, R94, R154, R159) -/

theorem writeRule_rejectMask (v : Nat) (s : State) :
    WriteRule .rejectMask v s (writeRejectMask v s) := by
  have hr : itemRange .rejectMask v ↔ v < 512 := Nat.lt_succ_iff.symm
  refine writeRule_of_range trivial (fun h => if_neg (mt hr.2 h)) fun h => ⟨_, if_pos (hr.1 h), ?_⟩
  refine writeTaken_plain ⟨?_, fun j hj => by cases j <;> simp_all [itemValue]⟩ rfl
  simpa [itemValue] using hr.1 h

theorem putLoop_ranged (it : LoopItems) (v : Nat) (i : LoopItem) (c : Cyl) :
    (putLoop it v i).1 = true ↔ itemRange (.loop i c) v := by
  cases i <;> simp [putLoop, itemRange]

theorem writeLoop_eq (i : LoopItem) (c : Cyl) (v : Nat) (s : State) :
    writeLoop i c v s =
      if !(putLoop (s.items.loop.get c) v i).1 then (s, .badValue)
      else if i = .amax ∧ (v < (s.loop.get c).a.natAbs ∨ v < (s.loop.get c).n.natAbs) then
        (s, .badState)
      else (if i = .runLength then
          { s with
            items := { s.items with
              loop := s.items.loop.set c (putLoop (s.items.loop.get c) v i).2 },
            loop := s.loop.set c { s.loop.get c with run := 0 } }
        else { s with items := { s.items with
          loop := s.items.loop.set c (putLoop (s.items.loop.get c) v i).2 } }, .ok) := by
  unfold writeLoop; rfl

theorem loopAdmitted_iff (i : LoopItem) (c : Cyl) (v : Nat) (s : State) :
    WriteAdmitted (.loop i c) v s ↔
      ¬ (i = .amax ∧ (v < (s.loop.get c).a.natAbs ∨ v < (s.loop.get c).n.natAbs)) := by
  cases i <;> simp [WriteAdmitted]

theorem writeRule_loop (i : LoopItem) (c : Cyl) (v : Nat) (s : State) :
    WriteRule (.loop i c) v s (writeLoop i c v s) := by
  rw [writeLoop_eq]
  refine ⟨fun h => ?_, fun h ha => ?_, fun h => ?_⟩
  · rw [← putLoop_ranged (s.items.loop.get c), Bool.not_eq_true] at h
    simp [h]
  · rw [← putLoop_ranged (s.items.loop.get c)] at h
    rw [loopAdmitted_iff] at ha
    rw [h, if_neg ha]
    refine ⟨_, rfl, ?_⟩
    split
    · next hi =>
      subst hi
      exact ⟨itemPut_loop _ _ _ _, rfl, rfl, rfl, by simp, by simp, by simp, ⟨rfl, rfl⟩,
        fun _ => saturates_self _, rfl, rfl, rfl, rfl, rfl, rfl, rfl, rfl⟩
    · next hi => exact writeTaken_plain (itemPut_loop _ _ _ _) (by simpa [plainItem] using hi)
  · rw [loopAdmitted_iff, not_not] at h
    rw [if_pos h]
    split <;> rfl

theorem writeRule_trimInterval (v : Nat) (s : State) :
    WriteRule .trimInterval v s (writeTrimInterval v s) := by
  refine writeRule_of_range trivial (fun h => if_neg (mt (inRange_iff _ _ _).1 h)) fun h =>
    ⟨_, if_pos ((inRange_iff _ _ _).2 h), ?_⟩
  refine writeTaken_plain ⟨rfl, fun j hj => ?_⟩ rfl
  cases j with
  | act k => cases k <;> rfl
  | trimInterval => exact absurd rfl hj
  | _ => rfl

/-- R94: a write of a flag that, cleared, ends what waits on it. -/
theorem writeTaken_flag {i : ActItem} {b : Bool} {s : State} {x : ActItems} {d : Option Nat} {r : Bool}
    (hv : actValue x i = b.toNat) (hk : ∀ k, k ≠ i → actValue x k = actValue s.items.act k)
    (ht : x.trimInterval = s.items.act.trimInterval)
    (hd : d = if i = .throwOffOnStop ∧ b.toNat = 0 then none else s.stopDwell)
    (hr : r = (s.resume && !(decide (i = .autoResume) && decide (b.toNat = 0)))) :
    WriteTaken (.act i) b.toNat s
      { s with items := { s.items with act := x }, stopDwell := d, resume := r } := by
  refine ⟨itemPut_act hv hk ht, rfl, rfl, rfl, ?_, ?_, by simp, ⟨rfl, rfl⟩,
    fun _ => saturates_self _, rfl, rfl, rfl, rfl, rfl, rfl, rfl, rfl⟩
  · simpa using hd
  · simpa using hr

theorem writeRule_act (i : ActItem) (v : Nat) (s : State) :
    WriteRule (.act i) v s (writeAct i v s) := by
  refine writeRule_of_range trivial (fun h => ?_) fun h => ?_
  · cases i with
    | engageTimeout c => exact if_neg (mt (inRange_iff _ _ _).1 h)
    | releaseTimeout c => exact if_neg (mt (inRange_iff _ _ _).1 h)
    | stopDwell => exact if_neg h
    | throwOffOnStop => simp [writeAct, flagOf_none h, refuse]
    | autoResume => simp [writeAct, flagOf_none h, refuse]
  · cases i with
    | engageTimeout c =>
      refine ⟨_, if_pos ((inRange_iff _ _ _).2 h), writeTaken_plain (itemPut_act ?_ ?_ rfl) rfl⟩
      · simp [actValue]
      · intro k hk
        cases k with
        | engageTimeout d =>
          have hd : d ≠ c := fun h' => hk (h' ▸ rfl)
          simp [actValue, PerCyl.get_set_ne _ _ hd]
        | _ => rfl
    | releaseTimeout c =>
      refine ⟨_, if_pos ((inRange_iff _ _ _).2 h), writeTaken_plain (itemPut_act ?_ ?_ rfl) rfl⟩
      · simp [actValue]
      · intro k hk
        cases k with
        | releaseTimeout d =>
          have hd : d ≠ c := fun h' => hk (h' ▸ rfl)
          simp [actValue, PerCyl.get_set_ne _ _ hd]
        | _ => rfl
    | stopDwell =>
      refine ⟨_, if_pos h, writeTaken_plain (itemPut_act rfl (fun k hk => ?_) rfl) rfl⟩
      cases k <;> simp_all [actValue]
    | throwOffOnStop =>
      have hv : v ≤ 1 := h
      interval_cases v
      · exact ⟨_, rfl, writeTaken_flag (b := false) rfl
          (fun k hk => by cases k <;> simp_all [actValue]) rfl (by simp) (by simp)⟩
      · exact ⟨_, rfl, writeTaken_flag (b := true) rfl
          (fun k hk => by cases k <;> simp_all [actValue]) rfl (by simp) (by simp)⟩
    | autoResume =>
      have hv : v ≤ 1 := h
      interval_cases v
      · exact ⟨_, rfl, writeTaken_flag (b := false) rfl
          (fun k hk => by cases k <;> simp_all [actValue]) rfl (by simp) (by simp)⟩
      · exact ⟨_, rfl, writeTaken_flag (b := true) rfl
          (fun k hk => by cases k <;> simp_all [actValue]) rfl (by simp) (by simp)⟩

theorem writeRule_freeze (v : Nat) (s : State) : WriteRule .freezeOnFirst v s (writeFreeze v s) := by
  refine writeRule_of_range trivial (fun h => ?_) fun h => ?_
  · simp [writeFreeze, flagOf_none h, refuse]
  · have hv : v ≤ 1 := h
    refine ⟨_, by simp [writeFreeze, flagOf_isSome hv]; rfl, writeTaken_plain ⟨?_, fun j hj => ?_⟩ rfl⟩
    · interval_cases v <;> rfl
    · cases j <;> simp_all [itemValue]

theorem writeRule_alarmMask (v : Nat) (s : State) :
    WriteRule .alarmMask v s (writeAlarmMask v s) := by
  have hr : itemRange .alarmMask v ↔ v < 4096 := Nat.lt_succ_iff.symm
  refine writeRule_of_range trivial (fun h => if_neg (mt hr.2 h)) fun h => ⟨_, if_pos (hr.1 h), ?_⟩
  refine ⟨⟨?_, fun j hj => by cases j <;> simp_all [itemValue]⟩, rfl, rfl, rfl, by simp, by simp, rfl,
    ⟨rfl, rfl⟩, fun _ => saturates_self _, rfl, rfl, rfl, rfl, rfl, rfl, rfl, rfl⟩
  simpa [itemValue] using hr.1 h

end Sys2Proof.Proofs
end

section
/-! The writes of mappings and lane items, and of any item (R120, R124, R144, R179). -/
namespace Sys2Proof.Proofs

open Sys2Proof.Machine Sys2Proof.Safety

/-! ## Mappings (R120) -/

theorem mappingOf_some {v : Nat} (h : v ≤ 3 ∨ v = 255) :
    ∃ d, mappingOf v = some d ∧ mappingCode d = v := by
  rcases h with h | rfl
  · interval_cases v <;> exact ⟨_, rfl, rfl⟩
  · exact ⟨none, rfl, rfl⟩

theorem mappingOf_none {v : Nat} (h : ¬ (v ≤ 3 ∨ v = 255)) : mappingOf v = none := by
  unfold mappingOf
  split
  · omega
  · omega
  · omega
  · omega
  · omega
  · rfl

theorem mappingCode_injective {d e : Option Drive} (h : mappingCode d = mappingCode e) : d = e := by
  have hcode (a b : Drive) (hab : Drive.code a = Drive.code b) : a = b := by
    cases a <;> cases b <;> simp_all [Drive.code]
  have hnone (a : Drive) : Drive.code a ≠ 255 := by cases a <;> decide
  cases d with
  | none => cases e with
    | none => rfl
    | some b => exact absurd h.symm (hnone b)
  | some a => cases e with
    | none => exact absurd h (hnone a)
    | some b => rw [hcode a b h]

theorem mappingCode_eq_255 {d : Option Drive} : mappingCode d = 255 ↔ d = none :=
  ⟨fun h => mappingCode_injective (e := none) h, fun h => h ▸ rfl⟩

theorem mappedElsewhere_iff {s : State} {l : Lane} {d : Drive} :
    mappedElsewhere s l d = true ↔ ∃ m, m ≠ l ∧ (s.items.lane.get m).drive = some d := by
  simp only [mappedElsewhere, List.any_eq_true, Bool.and_eq_true, bne_iff_ne, beq_iff_eq]
  exact ⟨fun ⟨m, _, h⟩ => ⟨m, h⟩, fun ⟨m, h⟩ => ⟨m, mem_lanes m, h⟩⟩

/-- R120: the first test: the lane neither DISABLED nor in DWELL, or F not in OFF. -/
def mappingBusy (s : State) (l : Lane) : Bool :=
  ((s.lane.get l).state != .disabled && (s.lane.get l).state != .dwell) || s.seq.f.state != .off

theorem mappingBusy_iff {s : State} {l : Lane} : mappingBusy s l = true ↔
    ((s.lane.get l).state ≠ .disabled ∧ (s.lane.get l).state ≠ .dwell) ∨ s.seq.f.state ≠ .off := by
  simp [mappingBusy]

/-- R120: the four tests, for a value that is a mapping. -/
theorem writeMapping_eq {v : Nat} {d : Option Drive} (h : mappingOf v = some d) (l : Lane)
    (s : State) : writeMapping l v s =
      if mappingBusy s l then (s, .busy)
      else if d.isNone && spansAnywhere s l then (s, .badState)
      else if d.any (mappedElsewhere s l) then (s, .duplicate)
      else (remap l d s, .ok) := by
  simp only [writeMapping, h]; rfl

theorem mappingAdmitted_iff (l : Lane) (d : Option Drive) (s : State) :
    WriteAdmitted (.mapping l) (mappingCode d) s ↔ mappingBusy s l = false ∧
      (d.isNone && spansAnywhere s l) = false ∧ d.any (mappedElsewhere s l) = false := by
  have hbusy : mappingBusy s l = false ↔ ((s.lane.get l).state = .disabled ∨
      (s.lane.get l).state = .dwell) ∧ s.seq.f.state = .off := by
    rw [← Bool.not_eq_true, mappingBusy_iff]
    simp only [not_or, not_and_or, not_not, ne_eq]
  cases d with
  | none => simp [WriteAdmitted, hbusy, and_assoc, mappingCode]
  | some e =>
    have hset : mappingCode (some e) ≠ 255 := mt mappingCode_eq_255.1 (by simp)
    have hcode (m : Lane) : mappingCode (s.items.lane.get m).drive ≠ mappingCode (some e) ↔
        (s.items.lane.get m).drive ≠ some e :=
      not_congr ⟨mappingCode_injective, fun h => h ▸ rfl⟩
    simp [WriteAdmitted, hbusy, and_assoc, hset, hcode, ← Bool.not_eq_true, mappedElsewhere_iff]

theorem setDir_frame (d : Option Drive) (b : Bool) (s : State) :
    setDir d b s = { s with drives := (setDir d b s).drives } := by
  cases d <;> rfl

/-- R120: a mapping that changes: the items of the lane, its state, and the drives. -/
theorem writeTaken_remap (l : Lane) (d : Option Drive) (s : State) :
    WriteTaken (.mapping l) (mappingCode d) s (remap l d s) := by
  unfold remap
  dsimp only
  split
  · next h =>
    refine ⟨⟨by rw [← h]; rfl, fun _ _ => rfl⟩, rfl, rfl, rfl, by simp, by simp, by simp, trivial,
      fun _ => saturates_self _, rfl, rfl, rfl, rfl, rfl, rfl, rfl, rfl⟩
  · rw [setDir_frame, setDir_frame]
    refine ⟨itemPut_mapping _ _ _, rfl, rfl, rfl, by simp, by simp, by simp, trivial, fun m => ?_,
      rfl, rfl, rfl, rfl, rfl, rfl, rfl, rfl⟩
    refine (beside_setLane (s := s) ?_).clipped m
    split <;> exact saturates_self _

theorem writeRule_mapping (l : Lane) (v : Nat) (s : State) :
    WriteRule (.mapping l) v s (writeMapping l v s) := by
  by_cases hr : v ≤ 3 ∨ v = 255
  · obtain ⟨d, hd, rfl⟩ := mappingOf_some hr
    rw [writeMapping_eq hd]
    refine ⟨fun h => absurd hr h, fun _ ha => ?_, fun h => ?_⟩
    · obtain ⟨hbusy, hspans, helse⟩ := (mappingAdmitted_iff l d s).1 ha
      rw [hbusy, hspans, helse]
      exact ⟨_, rfl, writeTaken_remap l d s⟩
    · rw [mappingAdmitted_iff] at h
      (repeat' split) <;> simp_all
  · have hnone : writeMapping l v s = (s, .badValue) := by
      simp only [writeMapping, mappingOf_none hr]; rfl
    exact ⟨fun _ => hnone, fun h => absurd h hr, fun _ => congrArg Prod.fst hnone⟩

/-! ## Lane items (R124, R144) -/

theorem putLane_ranged (it : LaneItems) (v : Nat) (i : LaneItem) (l : Lane) :
    (putLane it v i).1 = true ↔ itemRange (.lane i l) v := by
  cases i <;> simp [putLane, itemRange, and_assoc]

theorem writeLane_eq (i : LaneItem) (l : Lane) (v : Nat) (s : State) :
    writeLane i l v s =
      if !(putLane (s.items.lane.get l) v i).1 then (s, .badValue)
      else (if i = .runOut ∨ i = .minDwell then
          rebuildLane l { s with items := { s.items with
            lane := s.items.lane.set l (putLane (s.items.lane.get l) v i).2 } }
        else { s with items := { s.items with
          lane := s.items.lane.set l (putLane (s.items.lane.get l) v i).2 } }, .ok) := by
  unfold writeLane; rfl

/-- R123: a lane's list rebuilt, whether or not a sheet is active. -/
theorem rebuildLane_runList (l : Lane) (s : State) : ((rebuildLane l s).lane.get l).runList =
    (buildRuns (s.spans l) ((s.lane.get l).leads.getD s.web.speed 0) (s.items.lane.get l).runOut
      (s.items.lane.get l).minDwell ((s.sheets.active.map (·.params.lSub / 256)).getD 0)).1 := by
  unfold rebuildLane rebuilt State.active?
  cases s.sheets.active <;> simp [lcOf]

/-- R124: run-out and min dwell rebuild the run list at once. -/
theorem writeTaken_rebuild {i : LaneItem} {l : Lane} {v : Nat} {s u : State}
    (hi : i = .runOut ∨ i = .minDwell) (hu : u = { s with items := { s.items with
      lane := s.items.lane.set l (putLane (s.items.lane.get l) v i).2 } }) :
    WriteTaken (.lane i l) v s (rebuildLane l u) := by
  have hput : ItemPut (.lane i l) v s.items u.items := by rw [hu]; exact itemPut_lane _ _ _ _
  have hlist := rebuildLane_runList l u
  have hclip := (beside_rebuildLane l u).clipped
  have hitems : (rebuildLane l u).items = u.items := by simp
  rw [← hitems] at hput hlist
  subst hu
  refine ⟨hput, ?_, ?_, ?_, by simp, by simp, by simp, ?_, hclip, by simp⟩
  · rcases hi with rfl | rfl <;> simp [PhaseWritten]
  · rcases hi with rfl | rfl <;> simp [TrackerWritten]
  · rcases hi with rfl | rfl <;> simp [LoopWritten]
  · rcases hi with rfl | rfl <;> exact hlist

theorem writeRule_lane (i : LaneItem) (l : Lane) (v : Nat) (s : State) :
    WriteRule (.lane i l) v s (writeLane i l v s) := by
  rw [writeLane_eq]
  refine writeRule_of_range trivial (fun h => ?_) fun h => ?_
  · rw [← putLane_ranged (s.items.lane.get l), Bool.not_eq_true] at h
    simp [h]
  · rw [← putLane_ranged (s.items.lane.get l)] at h
    rw [h]
    refine ⟨_, rfl, ?_⟩
    split
    · next hi => exact writeTaken_rebuild hi rfl
    · next hi =>
      refine writeTaken_plain (itemPut_lane _ _ _ _) ?_
      cases i <;> simp_all [plainItem]

/-- R179: every write keeps its owner's rule. -/
theorem writeRule_item (i : Item) (v : Nat) (s : State) : WriteRule i v s (writeItem i v s) :=
  match i with
  | .web i => writeRule_web i v s
  | .index i c => writeRule_index i c v s
  | .mark i => writeRule_mark i v s
  | .geo i => writeRule_geo i v s
  | .rejectMask => writeRule_rejectMask v s
  | .loop i c => writeRule_loop i c v s
  | .trimInterval => writeRule_trimInterval v s
  | .act i => writeRule_act i v s
  | .mapping l => writeRule_mapping l v s
  | .lane i l => writeRule_lane i l v s
  | .freezeOnFirst => writeRule_freeze v s
  | .alarmMask => writeRule_alarmMask v s

/-- R179: a write is taken in range, or changes nothing. -/
theorem writeItem_taken_or_same (i : Item) (v : Nat) (s : State) :
    (itemRange i v ∧ WriteTaken i v s (writeItem i v s).1) ∨ (writeItem i v s).1 = s := by
  obtain ⟨hout, htaken, hrefused⟩ := writeRule_item i v s
  by_cases hr : itemRange i v
  · by_cases ha : WriteAdmitted i v s
    · obtain ⟨t, ht, hw⟩ := htaken hr ha
      exact .inl ⟨hr, by rw [ht]; exact hw⟩
    · exact .inr (hrefused ha)
  · exact .inr (by rw [hout hr])

end Sys2Proof.Proofs
end

section
/-! CONFIG WRITE as a row: refused, or taken (R176, R178, R179). -/
namespace Sys2Proof.Proofs

open Sys2Proof.Machine Sys2Proof.Safety Sys2Proof.Laws

theorem exec_writeRow (i : Item) (v : BitVec 32) (s : State) : exec (writeRow i v) s =
    .next (hostRequest 0x02 (configWriteWith i (writeItem i v.toNat)) s) := by
  cases i <;> rfl

theorem itemOfNumber_itemByte (i : Item) : itemOfNumber (itemByte i) = some i := by
  cases i with
  | web j => cases j <;> decide
  | index j c => cases j <;> cases c <;> decide
  | mark j => cases j <;> decide
  | geo j => cases j <;> decide
  | loop j c => cases j <;> cases c <;> decide
  | act j =>
    cases j with
    | engageTimeout c => cases c <;> decide
    | releaseTimeout c => cases c <;> decide
    | _ => decide
  | mapping l => cases l <;> decide
  | lane j l => cases j <;> cases l <;> decide
  | _ => decide

/-- R179: CONFIG_WRITE with a known number is the write of its item. -/
theorem exec_configWrite (i : Item) (v : BitVec 32) (s : State) :
    exec (.configWrite (itemByte i) v) s = exec (writeRow i v) s := by
  have hnum : configWriteNumber (itemByte i) v = configWriteWith i (writeItem i v.toNat) := by
    funext t
    simp only [configWriteNumber, itemOfNumber_itemByte]
  rw [exec_writeRow, ← hnum]
  rfl

theorem itemBody_itemNumber (i : Item) (n : Nat) :
    itemBody (itemNumber i) n = itemByte i :: natBytes 4 n := by
  simp [itemBody, natBytes, itemByte]

/-! ## Refused -/

/-- R176: a refused write is answered with the value in force, and changes nothing. -/
theorem exec_writeRow_refused {i : Item} {v : BitVec 32} {s : State} {r : Result} (h : Ready s)
    (hr : r ≠ .ok) (hw : writeItem i v.toNat (heard s) = (heard s, r)) :
    exec (writeRow i v) s =
      .next (answered 0x02 ⟨r, itemByte i :: natBytes 4 (itemValue s.items i)⟩ s) := by
  rw [exec_writeRow, hostRequest_answered h 0x02 (t := s) ?_ rfl]
  simp only [configWriteWith, hw, noteWrite, if_neg hr, itemBody_itemNumber]
  rfl

/-- R179: a write of a number outside the table. -/
theorem exec_configWrite_unknown {n : Byte} {v : BitVec 32} {s : State} (h : Ready s)
    (hn : itemOfNat n.toNat = none) :
    exec (.configWrite n v) s = .next (answered 0x02 ⟨.badValue, [n, 0, 0, 0, 0]⟩ s) := by
  refine congrArg Host.Outcome.next (hostRequest_answered h 0x02 (t := s) ?_ rfl)
  have hbody : itemBody n.toNat 0 = [n, 0, 0, 0, 0] := by
    simp [itemBody, natBytes]
  simp only [configWriteNumber, itemOfNumber, hn, hbody]

theorem writeMark_refused {m : MarkItem} {v : Nat} {s : State} (hm : MarkItem.geometric m = true)
    (h : markFits s (putMark s.items.mark v m).2 = false) : writeMark m v s = (s, .badValue) := by
  simp [writeMark_eq, hm, h]

theorem geometric_of_ne {m : MarkItem} (ha : m ≠ .acquireCount) (hc : m ≠ .coastLimit) :
    MarkItem.geometric m = true := by
  cases m <;> simp_all [MarkItem.geometric]

theorem writeGeo_busy {g : GeoItem} {v : Nat} {s : State} (hr : itemRange (.geo g) v)
    (h : s.track.records ≠ []) : writeGeo g v s = (s, .busy) := by
  rw [← putGeo_ranged s.items.geo] at hr
  simp [writeGeo_eq, hr, h]

theorem writeGeo_badValue {g : GeoItem} {v : Nat} {s : State} (hg : g ≠ .markerWidth)
    (h : s.track.records = [])
    (hc : constraintsOk (putGeo s.items.geo v g).2 s.items.mark s.active? = false) :
    writeGeo g v s = (s, .badValue) := by
  cases hr : (putGeo s.items.geo v g).1 <;> simp [writeGeo_eq, hr, h, hg, hc]

theorem writeLoop_badState {c : Cyl} {v : Nat} {s : State} (hr : itemRange (.loop .amax c) v)
    (h : v < (s.loop.get c).a.natAbs ∨ v < (s.loop.get c).n.natAbs) :
    writeLoop .amax c v s = (s, .badState) := by
  rw [← putLoop_ranged (s.items.loop.get c)] at hr
  simp [writeLoop_eq, hr, h]

theorem writeMapping_busy {l : Lane} {v : Nat} {s : State} (hr : itemRange (.mapping l) v)
    (h : mappingBusy s l = true) : writeMapping l v s = (s, .busy) := by
  obtain ⟨d, hd, -⟩ := mappingOf_some hr
  rw [writeMapping_eq hd, if_pos h]

theorem mappingBusy_false {s : State} {l : Lane}
    (hl : (s.lane.get l).state = .disabled ∨ (s.lane.get l).state = .dwell)
    (hf : s.seq.f.state = .off) : mappingBusy s l = false := by
  rcases hl with hl | hl <;> simp [mappingBusy, hl, hf]

theorem writeMapping_badState {l : Lane} {s : State} (hb : mappingBusy s l = false)
    (h : spansAnywhere s l = true) : writeMapping l 255 s = (s, .badState) := by
  simp [writeMapping_eq (v := 255) rfl, hb, h]

theorem writeMapping_duplicate {l m : Lane} {v : Nat} {s : State} (hb : mappingBusy s l = false)
    (hv : v ≤ 3) (hm : m ≠ l) (h : mappingCode (s.items.lane.get m).drive = v) :
    writeMapping l v s = (s, .duplicate) := by
  obtain ⟨d, hd, hcode⟩ := mappingOf_some (.inl hv)
  have hdrive : (s.items.lane.get m).drive = d := mappingCode_injective (h.trans hcode.symm)
  cases d with
  | none => exact absurd hcode (by simp only [mappingCode]; omega)
  | some e =>
    have helse : mappedElsewhere s l e = true := mappedElsewhere_iff.2 ⟨m, hm, hdrive⟩
    simp [writeMapping_eq hd, hb, helse]

theorem spansAnywhere_of {s : State} {l : Lane} {sh : Sheet}
    (h : s.sheets.active = some sh ∨ s.sheets.pending = some sh) (hs : sh.spans.get l ≠ []) :
    spansAnywhere s l = true := by
  rcases h with h | h <;> simp [spansAnywhere, State.hasSpans, State.spans, h, hs]

/-- Settles O58: each refusal by the rule of its owner. -/
theorem configWriteRefused : Obligations.ConfigWriteRefused := by
  refine ⟨⟨fun i v s h hr => ?_, fun n v s h hn => exec_configWrite_unknown h hn⟩, fun v s h => ?_⟩
  · exact exec_writeRow_refused h (by simp) ((writeRule_item i v.toNat (heard s)).out_of_range hr)
  · refine ⟨fun hv hmove => ?_, fun m ha hc hfit => ?_, fun g hr hrec => ?_, fun g hg hrec hc => ?_,
      fun c hr hlow => ?_, fun l hr hbusy => ?_, fun l hv hl hf hspans => ?_,
      fun l m hm hv hl hf hdrive => ?_⟩
    · refine exec_writeRow_refused h (by simp) ?_
      simp [writeItem, writeWeb, flagOf_isSome hv, hmove, heard, refuse]
    · refine exec_writeRow_refused h (by simp)
        (writeMark_refused (s := heard s) (geometric_of_ne ha hc) ?_)
      rw [← Bool.not_eq_true, markFits, Bool.and_eq_true, Bool.and_eq_true, decide_eq_true_iff,
        decide_eq_true_iff]
      rintro ⟨⟨hp, hw⟩, hok⟩
      rcases hfit with hfit | hfit | hfit
      · exact absurd hp (Nat.not_le.2 hfit)
      · exact absurd hw (Nat.not_le.2 hfit)
      · exact Bool.false_ne_true (hfit.symm.trans hok)
    · exact exec_writeRow_refused h (by simp) (writeGeo_busy (s := heard s) hr hrec)
    · exact exec_writeRow_refused h (by simp) (writeGeo_badValue (s := heard s) hg hrec hc)
    · exact exec_writeRow_refused h (by simp) (writeLoop_badState (s := heard s) hr hlow)
    · exact exec_writeRow_refused h (by simp)
        (writeMapping_busy (s := heard s) hr (mappingBusy_iff.2 hbusy))
    · obtain ⟨sh, hsh, hne⟩ := hspans
      have hw := writeMapping_badState (s := heard s) (l := l) (mappingBusy_false hl hf)
        (spansAnywhere_of hsh hne)
      exact exec_writeRow_refused h (by simp) (hv ▸ hw)
    · exact exec_writeRow_refused h (by simp)
        (writeMapping_duplicate (s := heard s) (mappingBusy_false hl hf) hv hm hdrive)

/-! ## Taken -/

/-- R178, R179: a write that is taken is answered OK with the value written. -/
theorem exec_writeRow_taken {i : Item} {v : BitVec 32} {s : State} (h : Ready s)
    (hr : itemRange i v.toNat) (ha : WriteAdmitted i v.toNat s) :
    ∃ t, exec (writeRow i v) s = .next t ∧ WriteTaken i v.toNat s { t with link := s.link } ∧
      t.configDefault = false ∧
      t.link = afterRequest 0x02 ⟨.ok, itemByte i :: natBytes 4 v.toNat⟩ s.link := by
  obtain ⟨u, hu, hput, hblock⟩ := (writeRule_item i v.toNat (heard s)).taken hr ha
  obtain ⟨-, -, -, -, -, -, hheard, -⟩ := hblock.rest
  have hlink : u.link = afterFrame s.link := hheard
  refine ⟨_, exec_writeRow i v s, ?_⟩
  rw [hostRequest_ready h]
  simp only [configWriteWith, hu, noteWrite, if_pos, itemBody_itemNumber, hput.1, formReply, hlink]
  refine ⟨⟨hput, ?_⟩, trivial, ?_⟩
  · obtain ⟨hphase, htracker, hloop, hdwell, hresume, hfaults, hlane, hclip, hweb, htrack, hsheets,
      hemit, hseq, hnow, -, hqual⟩ := hblock
    exact ⟨hphase, htracker, hloop, hdwell, hresume, hfaults, hlane, hclip, hweb, htrack, hsheets,
      hemit, hseq, hnow, rfl, hqual⟩
  · simp [afterRequest, afterFrame, Config.waitUnits, Config.halfBit]

/-- Settles O59: the write as its owner's rule has it, answered OK. -/
theorem configWriteTaken : Obligations.ConfigWriteTaken := by
  intro i v s h hr ha
  obtain ⟨t, ht, ⟨hput, hblock⟩, hdef, hlink⟩ := exec_writeRow_taken h hr ha
  obtain ⟨hphase, htracker, hloop, hdwell, hresume, hfaults, hlane, -, hweb, htrack, hsheets,
    hemit, hseq, hnow, -, -⟩ := hblock
  exact ⟨t, ht, (exec_configWrite i v s).trans ht, hput.1, hput.2, hdef, hlink, hphase, htracker,
    hloop, hdwell, hresume, hfaults, hlane, hweb, htrack, hsheets, hemit, hseq, hnow⟩

end Sys2Proof.Proofs
end

section
/-! Every request moves a state only as `Moves` says (9.5, 10.2 to 10.7). -/
namespace Sys2Proof.Proofs

open Sys2Proof.Machine Sys2Proof.Safety

/-! ## CONFIG WRITE and CURVE WRITE -/

theorem source_kept {i : Item} {v : Nat} {x y : Items} {c : Cyl} (h : ItemPut i v x y)
    (hi : i ≠ .index .phaseSource c) : (y.index.get c).source = (x.index.get c).source := by
  have hv : PhaseSource.code (y.index.get c).source = PhaseSource.code (x.index.get c).source :=
    h.2 (.index .phaseSource c) hi.symm
  cases hx : (x.index.get c).source <;> cases hy : (y.index.get c).source <;>
    simp_all [PhaseSource.code]

theorem limit_kept {i : Item} {v : Nat} {x y : Items} {c : Cyl} (h : ItemPut i v x y)
    (hi : i ≠ .index .missLimit c) : (y.index.get c).limit = (x.index.get c).limit :=
  h.2 (.index .missLimit c) hi.symm

/-- R14: the phase of a cylinder after a write of an item. -/
theorem phaseWritten_get {i : Item} {s t : State} (h : PhaseWritten i s t) (c : Cyl) :
    t.phase.get c =
      if i = .index .phaseSource c then
        { s.phase.get c with missCount := 0, indexLost := false, missOpen := false }
      else if i = .index .indexGate c then { s.phase.get c with missOpen := false }
      else if i = .index .missLimit c then { s.phase.get c with missCount := 0 }
      else s.phase.get c := by
  unfold PhaseWritten at h
  split at h <;> rw [h]
  case h_4 hsource hgate hlimit => rw [if_neg (hsource c), if_neg (hgate c), if_neg (hlimit c)]
  all_goals
    next d =>
    by_cases hd : c = d
    · subst hd; simp
    · simp [PerCyl.get_set_ne _ _ hd, Ne.symm hd]

theorem missWrite_of_taken {i : Item} {v : Nat} {s t : State} (h : WriteTaken i v s t) (c : Cyl) :
    MissWrite (s.items.index.get c) (t.items.index.get c) (s.phase.get c) (t.phase.get c) := by
  have hphase := phaseWritten_get h.block.phase c
  by_cases hsource : i = .index .phaseSource c
  · rw [hphase, if_pos hsource]
    exact ⟨rfl, rfl, rfl, .inl rfl, fun ho => by simp at ho⟩
  rw [if_neg hsource] at hphase
  by_cases hgate : i = .index .indexGate c
  · rw [hphase, if_pos hgate]
    exact ⟨rfl, rfl, rfl, .inr ⟨rfl, limit_kept h.put (by simp [hgate])⟩, fun ho => by simp at ho⟩
  rw [if_neg hgate] at hphase
  by_cases hlimit : i = .index .missLimit c
  · rw [hphase, if_pos hlimit]
    exact ⟨rfl, rfl, rfl, .inl rfl, fun ho => ⟨ho, source_kept h.put hsource, rfl⟩⟩
  · rw [hphase, if_neg hlimit]
    exact ⟨rfl, rfl, rfl, .inr ⟨rfl, limit_kept h.put hlimit⟩,
      fun ho => ⟨ho, source_kept h.put hsource, rfl⟩⟩

theorem moves_writeItem (i : Item) (v : Nat) (s : State) : Moves s (writeItem i v s).1 := by
  rcases writeItem_taken_or_same i v s with ⟨hr, h⟩ | h
  · generalize (writeItem i v s).1 = t at h
    obtain ⟨hweb, htrack, hsheets, -, -, -, hlink, hqual⟩ := h.block.rest
    have hwrite : ItemsWrite s t.items t.phase := by
      refine ⟨fun j => ?_, missWrite_of_taken h⟩
      by_cases hj : j = i
      · exact .inr (by rw [hj, h.put.1]; exact hr)
      · exact .inl (h.put.2 j hj)
    exact .trans (.items hwrite) (.beside (beside_of_frame
      ⟨hweb, rfl, hsheets, rfl, hqual, htrack, hlink⟩ h.block.clipped))
  · rw [h]; exact moves_refl s

theorem beside_noteWrite (r : Result) (s : State) : Beside s (noteWrite r s) := by
  unfold noteWrite
  split
  · exact beside_of_kept ⟨rfl, rfl, rfl, rfl, rfl, rfl, rfl⟩ (lanesKept_of_eq rfl)
  · exact beside_refl s

/-- What an operation of a request does to the part. -/
def OpMoves (op : State → State × Reply) : Prop := ∀ s, Moves s (op s).1

theorem opMoves_configWrite (i : Item) (v : Nat) : OpMoves (configWriteWith i (writeItem i v)) :=
  fun s => .trans (moves_writeItem i v s) (.beside (beside_noteWrite _ _))

/-- A request that only reads. -/
theorem opMoves_read {f : State → Reply} : OpMoves fun s => (s, f s) := fun s => moves_refl s

theorem opMoves_configWriteNumber (n : Byte) (v : BitVec 32) : OpMoves (configWriteNumber n v) := by
  intro s
  unfold configWriteNumber
  split
  · exact opMoves_configWrite _ _ s
  · exact moves_refl s

theorem opMoves_configRead (n : Byte) : OpMoves (configReadNumber n) := by
  intro s
  unfold configReadNumber
  split <;> exact moves_refl s

theorem opMoves_withLane {b : Byte} {n : Nat} {g : Lane → State → State × Reply}
    (h : ∀ l, OpMoves (g l)) : OpMoves (withLane b n g) := by
  intro s
  unfold withLane
  split
  · exact h _ s
  · exact moves_refl s

theorem opMoves_withCyl {b : Byte} {n : Nat} {g : Cyl → State → State × Reply}
    (h : ∀ c, OpMoves (g c)) : OpMoves (withCyl b n g) := by
  intro s
  unfold withCyl
  split
  · exact h _ s
  · exact moves_refl s

/-- R122: the items with the anchors of a lane put in. -/
def anchored (x : Items) (l : Lane) (as : List Nat) : Items :=
  { x with lane := x.lane.set l { x.lane.get l with anchors := as } }

/-- R122, R179: the anchors of a lane are no item of the table. -/
theorem itemValue_anchored (x : Items) (l : Lane) (as : List Nat) (i : Item) :
    itemValue (anchored x l as) i = itemValue x i := by
  cases i with
  | lane j m =>
    by_cases hm : m = l
    · subst hm; cases j <;> simp [anchored, itemValue, laneValue]
    · simp [anchored, itemValue, PerLane.get_set_ne _ _ hm]
  | mapping m =>
    by_cases hm : m = l
    · subst hm; simp [anchored, itemValue]
    · simp [anchored, itemValue, PerLane.get_set_ne _ _ hm]
  | _ => rfl

theorem moves_storeCurve (l : Lane) (as : List Nat) (s : State) : Moves s (storeCurve l as s) := by
  have hitems : Moves s { s with items := anchored s.items l as } :=
    .items ⟨fun i => .inl (itemValue_anchored s.items l as i),
      fun c => ⟨rfl, rfl, rfl, .inr ⟨rfl, rfl⟩, fun h => ⟨h, rfl, rfl⟩⟩⟩
  have hleads (t : State) : Beside t (t.setLane l { t.lane.get l with leads := expandCurve as }) :=
    beside_setLane (saturates_self _)
  exact .trans hitems (.beside (beside_trans (hleads _) (beside_rebuildLane l _)))

theorem opMoves_curveWrite (lane : Byte) (as : List (BitVec 16)) : OpMoves (curveWriteReq lane as) := by
  intro s
  unfold curveWriteReq
  split
  · exact moves_refl s
  · refine opMoves_withLane (fun l t => ?_) s
    dsimp only
    split
    · exact .trans (moves_storeCurve l _ t) (.beside (beside_noteWrite .ok _))
    · exact moves_refl t

/-! ## The job sheet (chapter 6) -/

/-- R97 to R105: what is staged is edited, and the sheets that are pending and active stay. -/
theorem moves_staged (s : State) (x : Staged) :
    Moves s { s with sheets := { s.sheets with staged := x } } := .sheets rfl (.inl rfl)

theorem opMoves_sheetParamWrite (l f e : BitVec 24) (p q : BitVec 16) (u r : Byte) :
    OpMoves (sheetParamWrite l f e p q u r) := by
  intro s
  unfold sheetParamWrite
  split
  · exact moves_staged s _
  · exact moves_refl s

theorem opMoves_sheetParamRead (x : Byte) : OpMoves (sheetParamRead x) := by
  intro s
  unfold sheetParamRead
  (repeat' split) <;> exact moves_refl s

theorem opMoves_windowWrite (i : Byte) (es : List WindowBytes) : OpMoves (windowWrite i es) := by
  intro s
  unfold windowWrite
  (repeat' split)
  · exact moves_refl s
  · exact moves_refl s
  · exact moves_staged s _

theorem opMoves_windowRead (t i n : Byte) : OpMoves (windowRead t i n) := by
  intro s
  unfold windowRead
  dsimp only
  (repeat' split) <;> exact moves_refl s

theorem opMoves_windowEdit (lc tc ec m nl nt ne : Byte) (d : BitVec 16) :
    OpMoves (windowEdit lc tc ec m nl nt ne d) := by
  intro s
  unfold windowEdit
  split
  · exact moves_refl s
  · exact moves_staged s _

theorem opMoves_sheetCopyBack : OpMoves sheetCopyBack := by
  intro s
  unfold sheetCopyBack
  split
  · exact moves_staged s _
  · exact moves_refl s

/-- R106 check 1: a COMMIT that passes has a repeat length in range. -/
theorem lengthSound_of_check {st : Staged} {it : Items} (h : commitCheck st it = none) (g : Nat) :
    lengthSound (compile st g) := by
  unfold commitCheck at h
  dsimp only at h
  split at h
  · simp at h
  · next hl => exact ⟨by simp only [compile]; omega, by simp only [compile]; omega⟩

theorem moves_placeSheet {sh : Sheet} (h : lengthSound sh) (s : State) :
    Moves s (placeSheet sh s).1 := by
  unfold placeSheet
  split
  · exact moves_swapTo (.inr h)
  · exact .sheets rfl (.inr (.inr ⟨sh, rfl, h⟩))

theorem moves_noteCommit (r : CommitRecord) (s : State) : Moves s (noteCommit r s) :=
  .sheets rfl (.inl rfl)

theorem opMoves_commit : OpMoves commitSheet := by
  intro s
  unfold commitSheet
  split
  · exact moves_noteCommit _ s
  · next hcheck =>
    split
    · exact moves_noteCommit _ s
    · have hgen : Moves s { s with sheets := { s.sheets with
          lastGen := nextGen s.sheets.lastGen s.sheets.active } } := .sheets rfl (.inl rfl)
      exact .trans hgen (.trans (moves_placeSheet (lengthSound_of_check hcheck _) _)
        (moves_noteCommit _ _))

/-! ## Cylinders, loops and lanes -/

theorem opMoves_engage (c : Byte) : OpMoves (engageReq c) :=
  opMoves_withCyl fun c s => .beside (beside_engageCyl c s)

theorem beside_disengageCyl (c : Cyl) (s : State) : Beside s (disengageCyl c s) :=
  beside_trans (beside_throwOff c .host s) (beside_clearResume c _)

theorem beside_disengageCyls (cs : List Cyl) (s : State) :
    Beside s (cs.foldl (fun s c => disengageCyl c s) s) := by
  induction cs generalizing s with
  | nil => exact beside_refl s
  | cons c cs ih => exact beside_trans (beside_disengageCyl c s) (ih _)

theorem opMoves_disengage (b : Byte) : OpMoves (disengageReq b) := by
  intro s
  unfold disengageReq
  split
  · exact moves_refl s
  · exact .beside (beside_disengageCyls _ s)

theorem moves_loop (s : State) (c : Cyl) (x : Loop) : Moves s (s.setLoop c x) :=
  .beside (beside_of_aside (aside_loop s c x))

theorem opMoves_loopMode (c m : Byte) : OpMoves (loopModeReq c m) := by
  refine opMoves_withCyl fun c s => ?_
  dsimp only
  (repeat' split)
  · exact moves_refl s
  · exact moves_refl s
  · exact moves_loop s c _

theorem opMoves_nudge (c : Byte) (d : BitVec 16) : OpMoves (nudgeReq c d) :=
  opMoves_withCyl fun c s => moves_loop s c _

theorem opMoves_trimMove (c : Byte) (d : BitVec 16) : OpMoves (trimMoveReq c d) :=
  opMoves_withCyl fun c s => carries_commitTrim (moves_carries s) (c := c) trivial _ (moves_refl s)

theorem opMoves_trimZero (c : Byte) : OpMoves (trimZeroReq c) := by
  refine opMoves_withCyl fun c s => ?_
  dsimp only
  split
  · exact moves_loop s c _
  · exact moves_refl s

/-- A lane changed, its count of clamped leads kept. -/
theorem moves_setLane {s : State} {l : Lane} {x : LaneCtl}
    (h : x.clipped = (s.lane.get l).clipped) : Moves s (s.setLane l x) :=
  .beside (beside_setLane (h ▸ saturates_self _))

theorem parkLane_clipped (x : LaneCtl) : (parkLane x).1.clipped = x.clipped := by
  unfold parkLane; split <;> rfl

theorem releaseLane_clipped (x : LaneCtl) : (releaseLane x).1.clipped = x.clipped := by
  unfold releaseLane; (repeat' split) <;> rfl

theorem opMoves_lanePark (l : Byte) : OpMoves (lanePark l) :=
  opMoves_withLane fun l s => moves_setLane (parkLane_clipped (s.lane.get l))

theorem opMoves_laneRelease (l : Byte) : OpMoves (laneRelease l) :=
  opMoves_withLane fun l s => moves_setLane (releaseLane_clipped (s.lane.get l))

theorem opMoves_rollLoad (l : Byte) (n : BitVec 32) : OpMoves (rollLoad l n) := by
  refine opMoves_withLane fun l s => ?_
  dsimp only
  split
  all_goals first | exact moves_refl s | exact moves_setLane rfl

theorem opMoves_laneCheck (l : Byte) : OpMoves (laneCheck l) := by
  refine opMoves_withLane fun l s => ?_
  dsimp only
  split
  · exact moves_setLane rfl
  · exact moves_refl s

/-! ## Track, faults, counters and restart -/

theorem opMoves_trackFlush : OpMoves trackFlushReq := fun _ =>
  .beside (beside_of_aside ⟨⟨fun _ => saturates_self _, fun _ => saturates_self _, saturates_self _,
    saturates_self _, saturates_self _⟩, rfl, rfl, rfl, rfl, rfl, rfl⟩)

theorem opMoves_faultClear (codes : BitVec 16) (option : Byte) :
    OpMoves (faultClearReq codes option) := by
  intro s
  unfold faultClearReq
  split
  · exact moves_refl s
  · exact .beside (beside_of_kept ⟨rfl, rfl, rfl, rfl, rfl, rfl, rfl⟩ (lanesKept_of_eq rfl))

theorem opMoves_countersClear : OpMoves countersClearReq := by
  intro s
  have hweb : Moves s { s with web := { s.web with encErrors := 0 } } :=
    .web (saturates_zero _) (.inl ⟨rfl, rfl, rfl⟩)
  have hphase (t : State) (c : Cyl) : Moves t (t.setPhase c { t.phase.get c with arrivals := 0 }) :=
    .phase (.aside rfl rfl rfl rfl rfl (saturates_zero _))
  refine .trans hweb (.trans (hphase _ .f) (.trans (hphase _ .e) (.beside ?_)))
  refine ⟨⟨fun x => ?_, fun x => ?_, ?_, ?_, ?_⟩, rfl, rfl, rfl, rfl, fun l => ?_, ?_⟩
  · cases x <;> exact saturates_zero _
  · cases x <;> exact saturates_zero _
  · exact saturates_zero _
  · exact saturates_zero _
  · exact saturates_zero _
  · cases l <;> exact saturates_zero _
  · constructor <;> exact saturates_zero _

theorem opMoves_restart (l : Byte) : OpMoves (restartReq l) := by
  intro s
  have hlink (x : Option RestartLevel) : Moves s { s with link := { s.link with restart := x } } :=
    .beside (beside_link ⟨saturates_self _, saturates_self _, saturates_self _, saturates_self _,
      saturates_self _⟩)
  unfold restartReq
  (repeat' split)
  · exact hlink _
  · exact hlink _
  · exact moves_refl s

theorem opMoves_curveRead (l : Byte) : OpMoves (curveReadReq l) :=
  opMoves_withLane fun _ s => moves_refl s

theorem opMoves_loopRead (c : Byte) : OpMoves (loopReadReq c) :=
  opMoves_withCyl fun _ s => moves_refl s

theorem opMoves_laneRead (l : Byte) : OpMoves (laneReadReq l) :=
  opMoves_withLane fun _ s => moves_refl s

theorem opMoves_trackRead (x : Byte) (n : BitVec 16) (k : Byte) : OpMoves (trackReadReq x n k) := by
  intro s
  unfold trackReadReq
  split <;> exact moves_refl s

end Sys2Proof.Proofs
end

section
/-! The Link Port, the resets, and then every command and tick: `step` moves a state as `Moves` says. -/
namespace Sys2Proof.Proofs

open Sys2Proof.Machine Sys2Proof.Safety

/-- R169: a kind outside the catalogue reaches no block. -/
theorem requestOf_unknown {k : Nat} (h : requestOf.knownKind k = false) (body : List Byte) :
    requestOf k body = unknownKind := by
  by_cases hk : k < 97
  · interval_cases k
    all_goals first | rfl | exact absurd h (by decide)
  · obtain ⟨m, rfl⟩ := Nat.exists_eq_add_of_le' (Nat.not_lt.1 hk)
    rfl

/-- R169, R177: the Request Decoder hands a frame to an operation that moves as `Moves` says. A body of
another length than its kind's is answered BAD_LENGTH. -/
theorem opMoves_requestOf (kind : Nat) (body : List Byte) : OpMoves (requestOf kind body) := by
  have hlength : OpMoves badLength := opMoves_read
  cases hk : requestOf.knownKind kind with
  | false => rw [requestOf_unknown hk]; exact opMoves_read
  | true =>
    simp only [requestOf.knownKind, List.contains_eq_mem, List.mem_cons, List.not_mem_nil, or_false,
      decide_eq_true_eq] at hk
    rcases hk with rfl | rfl | rfl | rfl | rfl | rfl | rfl | rfl | rfl | rfl | rfl | rfl | rfl |
      rfl | rfl | rfl | rfl | rfl | rfl | rfl | rfl | rfl | rfl | rfl | rfl | rfl | rfl | rfl | rfl |
      rfl | rfl | rfl
    · rcases body with _ | ⟨_, _⟩; exacts [opMoves_read, hlength]
    · rcases body with _ | ⟨_, _ | ⟨_, _ | ⟨_, _ | ⟨_, _ | ⟨_, _ | ⟨_, _⟩⟩⟩⟩⟩⟩
      all_goals first | exact hlength | exact opMoves_configWriteNumber _ _
    · rcases body with _ | ⟨_, _ | ⟨_, _⟩⟩; exacts [hlength, opMoves_configRead _, hlength]
    · rcases body with _ | ⟨b, rest⟩
      · exact hlength
      · have harm : requestOf 4 (b :: rest) = (match words16 rest with
            | some x => curveWriteReq b x
            | none => badLength) := rfl
        rw [harm]
        split
        · exact opMoves_curveWrite _ _
        · exact hlength
    · rcases body with _ | ⟨_, _ | ⟨_, _⟩⟩; exacts [hlength, opMoves_curveRead _, hlength]
    · rcases body with _ | ⟨_, _ | ⟨_, _ | ⟨_, _ | ⟨_, _ | ⟨_, _ | ⟨_, _ | ⟨_, _ | ⟨_, _ | ⟨_, _ |
        ⟨_, _ | ⟨_, _ | ⟨_, _ | ⟨_, _ | ⟨_, _ | ⟨_, _ | ⟨_, _⟩⟩⟩⟩⟩⟩⟩⟩⟩⟩⟩⟩⟩⟩⟩⟩
      all_goals first | exact hlength | exact opMoves_sheetParamWrite _ _ _ _ _ _ _
    · rcases body with _ | ⟨b, rest⟩
      · exact hlength
      · have harm : requestOf 17 (b :: rest) = (match windowEntries rest with
            | some x => windowWrite b x
            | none => badLength) := rfl
        rw [harm]
        split
        · exact opMoves_windowWrite _ _
        · exact hlength
    · rcases body with _ | ⟨_, _ | ⟨_, _ | ⟨_, _ | ⟨_, _⟩⟩⟩⟩
      all_goals first | exact hlength | exact opMoves_windowRead _ _ _
    · rcases body with _ | ⟨_, _ | ⟨_, _ | ⟨_, _ | ⟨_, _ | ⟨_, _ | ⟨_, _ | ⟨_, _ | ⟨_, _ | ⟨_, _ |
        ⟨_, _⟩⟩⟩⟩⟩⟩⟩⟩⟩⟩
      all_goals first | exact hlength | exact opMoves_windowEdit _ _ _ _ _ _ _ _
    · rcases body with _ | ⟨_, _⟩; exacts [opMoves_sheetCopyBack, hlength]
    · rcases body with _ | ⟨_, _⟩; exacts [fun s => moves_staged s _, hlength]
    · rcases body with _ | ⟨_, _⟩; exacts [opMoves_commit, hlength]
    · rcases body with _ | ⟨_, _ | ⟨_, _⟩⟩; exacts [hlength, opMoves_sheetParamRead _, hlength]
    · rcases body with _ | ⟨_, _ | ⟨_, _⟩⟩; exacts [hlength, opMoves_engage _, hlength]
    · rcases body with _ | ⟨_, _ | ⟨_, _⟩⟩; exacts [hlength, opMoves_disengage _, hlength]
    · rcases body with _ | ⟨_, _ | ⟨_, _ | ⟨_, _⟩⟩⟩
      exacts [hlength, hlength, opMoves_loopMode _ _, hlength]
    · rcases body with _ | ⟨_, _ | ⟨_, _ | ⟨_, _ | ⟨_, _⟩⟩⟩⟩
      all_goals first | exact hlength | exact opMoves_nudge _ _
    · rcases body with _ | ⟨_, _ | ⟨_, _ | ⟨_, _ | ⟨_, _⟩⟩⟩⟩
      all_goals first | exact hlength | exact opMoves_trimMove _ _
    · rcases body with _ | ⟨_, _ | ⟨_, _⟩⟩; exacts [hlength, opMoves_trimZero _, hlength]
    · rcases body with _ | ⟨_, _ | ⟨_, _⟩⟩; exacts [hlength, opMoves_loopRead _, hlength]
    · rcases body with _ | ⟨_, _ | ⟨_, _⟩⟩; exacts [hlength, opMoves_lanePark _, hlength]
    · rcases body with _ | ⟨_, _ | ⟨_, _⟩⟩; exacts [hlength, opMoves_laneRelease _, hlength]
    · rcases body with _ | ⟨_, _ | ⟨_, _ | ⟨_, _ | ⟨_, _ | ⟨_, _ | ⟨_, _⟩⟩⟩⟩⟩⟩
      all_goals first | exact hlength | exact opMoves_rollLoad _ _
    · rcases body with _ | ⟨_, _ | ⟨_, _⟩⟩; exacts [hlength, opMoves_laneCheck _, hlength]
    · rcases body with _ | ⟨_, _ | ⟨_, _⟩⟩; exacts [hlength, opMoves_laneRead _, hlength]
    · rcases body with _ | ⟨_, _ | ⟨_, _ | ⟨_, _ | ⟨_, _ | ⟨_, _⟩⟩⟩⟩⟩
      all_goals first | exact hlength | exact opMoves_trackRead _ _ _
    · rcases body with _ | ⟨_, _⟩; exacts [opMoves_trackFlush, hlength]
    · rcases body with _ | ⟨_, _⟩; exacts [opMoves_read, hlength]
    · rcases body with _ | ⟨_, _ | ⟨_, _ | ⟨_, _ | ⟨_, _⟩⟩⟩⟩
      all_goals first | exact hlength | exact opMoves_faultClear _ _
    · rcases body with _ | ⟨_, _⟩; exacts [opMoves_read, hlength]
    · rcases body with _ | ⟨_, _⟩; exacts [opMoves_countersClear, hlength]
    · rcases body with _ | ⟨_, _ | ⟨_, _⟩⟩; exacts [hlength, opMoves_restart _, hlength]

/-! ## The Link Port -/

/-- What leaves every counter of the Link Port. -/
theorem linkTallied_of_eq {l m : Link} (hg : m.good = l.good) (hc : m.checkErrors = l.checkErrors)
    (hx : m.charErrors = l.charErrors) (ho : m.overlaps = l.overlaps) (hi : m.ignored = l.ignored) :
    LinkTallied l m := by
  constructor <;> simp [hg, hc, hx, ho, hi]

theorem linkTallied_clearBuffer (l : Link) (rx : RxState) : LinkTallied l (l.clearBuffer rx) :=
  linkTallied_of_eq rfl rfl rfl rfl rfl

theorem linkTallied_cutOff (l : Link) (rx : RxState) : LinkTallied l (l.cutOff rx) := by
  constructor <;> simp [Link.cutOff, Link.clearBuffer]

theorem linkTallied_noise (l : Link) (stop : Bool) : LinkTallied l (l.noise stop) :=
  linkTallied_of_eq rfl rfl rfl rfl rfl

theorem linkTallied_goodFrame (l : Link) : LinkTallied l l.goodFrame := by
  constructor <;> simp [Link.goodFrame, Link.clearBuffer]

theorem linkTallied_seeOverlap (l : Link) : LinkTallied l l.seeOverlap := by
  unfold Link.seeOverlap
  split
  · exact linkTallied_refl l
  · constructor <;> simp

theorem linkTallied_idleGap (l : Link) : LinkTallied l l.idleGap := by
  have hquiet : LinkTallied l { l with quiet := Config.gapUnits, rxBusy := false } :=
    linkTallied_of_eq rfl rfl rfl rfl rfl
  unfold Link.idleGap
  dsimp only
  (repeat' split)
  all_goals first
    | exact linkTallied_refl l
    | exact hquiet
    | exact linkTallied_trans hquiet (linkTallied_clearBuffer _ _)
    | exact linkTallied_trans hquiet (linkTallied_cutOff _ _)

theorem moves_link {s : State} {x : Link} (h : LinkTallied s.link x) : Moves s { s with link := x } :=
  .beside (beside_link h)

theorem moves_takeAddressed {op : State → State × Reply} (h : OpMoves op) (kind : Nat) (s : State) :
    Moves s (takeAddressed kind op s) :=
  .trans (moves_link (linkTallied_goodFrame s.link)) (.trans (h _)
    (moves_link (linkTallied_of_eq rfl rfl rfl rfl rfl)))

theorem moves_takeBroadcastFrame (kind : Nat) (body : List Byte) (s : State) :
    Moves s (takeBroadcastFrame kind body s) := by
  have htake {op : State → State × Reply} (h : OpMoves op) : Moves s (takeBroadcast op s) :=
    .trans (moves_link (linkTallied_goodFrame s.link)) (h _)
  have hignore : Moves s (ignoreBroadcast s) :=
    moves_link (linkTallied_trans (linkTallied_goodFrame s.link)
      ⟨saturates_self _, saturates_self _, saturates_self _, saturates_self _, saturates_satInc _⟩)
  unfold takeBroadcastFrame
  (repeat' split)
  · exact htake opMoves_commit
  · exact htake (opMoves_disengage _)
  · exact hignore
  · exact hignore

theorem moves_endFrame (lo hi : Byte) (s : State) : Moves s (endFrame lo hi s) := by
  unfold endFrame
  dsimp only
  (repeat' split)
  · exact moves_takeAddressed (opMoves_requestOf _ _) _ s
  · exact moves_takeBroadcastFrame _ _ s
  · exact moves_link (linkTallied_trans (linkTallied_clearBuffer s.link .waitIdle)
      ⟨saturates_self _, saturates_satInc _, saturates_self _, saturates_self _, saturates_self _⟩)

theorem moves_receive (b : Byte) (err : Bool) (s : State) : Moves s (receive b err s) := by
  have hdest : LinkTallied s.link (s.link.takeDest b) := by
    unfold Link.takeDest
    (repeat' split) <;> exact linkTallied_of_eq rfl rfl rfl rfl rfl
  have hlen : LinkTallied s.link (s.link.takeLen b) := by
    unfold Link.takeLen
    split
    · exact linkTallied_cutOff _ _
    · exact linkTallied_of_eq rfl rfl rfl rfl rfl
  have hcut := moves_link (linkTallied_cutOff s.link .waitIdle)
  unfold receive
  dsimp only
  split
  · exact hcut
  split
  · exact moves_refl s
  · exact moves_refl s
  · exact moves_refl s
  · split <;> exact moves_link (linkTallied_clearBuffer _ _)
  · exact moves_link hdest
  · exact moves_link hlen
  · exact moves_link (linkTallied_of_eq rfl rfl rfl rfl rfl)
  · exact moves_link (linkTallied_of_eq rfl rfl rfl rfl rfl)
  · split
    · exact moves_link (linkTallied_of_eq rfl rfl rfl rfl rfl)
    · exact moves_endFrame _ _ s

/-- R172: a character seen while a reply is pending. -/
theorem moves_overlapped (s : State) (stop : Bool) :
    Moves s { s with link := (s.link.noise stop).seeOverlap } :=
  moves_link (linkTallied_trans (linkTallied_noise s.link stop) (linkTallied_seeOverlap _))

theorem moves_takeChar (b : Byte) (parity stop : Bool) (s : State) :
    Moves s (takeChar b parity stop s) := by
  unfold takeChar
  (repeat' split)
  · exact moves_refl s
  · exact moves_overlapped s stop
  · exact .trans (moves_link (linkTallied_noise s.link stop)) (moves_receive b _ _)

theorem moves_takeFrame (dest kind : Byte) (body : List Byte) (check : BitVec 16) (s : State) :
    Moves s (takeFrame dest kind body check s) := by
  have hfold (bs : List Byte) (t : State) :
      Moves t (bs.foldl (fun s b => takeChar b (evenParity b) true s) t) := by
    induction bs generalizing t with
    | nil => exact moves_refl t
    | cons b bs ih => exact .trans (moves_takeChar b _ true t) (ih _)
  exact .trans (moves_link (linkTallied_idleGap s.link)) (hfold _ _)

theorem moves_hostRequest (kind : Nat) {op : State → State × Reply} (h : OpMoves op) (s : State) :
    Moves s (hostRequest kind op s) := by
  have hgap : LinkTallied s.link (s.link.idleGap.noise true) :=
    linkTallied_trans (linkTallied_idleGap s.link) (linkTallied_noise _ true)
  unfold hostRequest
  dsimp only
  (repeat' split)
  · exact moves_refl s
  · exact moves_overlapped s true
  · exact moves_link (linkTallied_trans hgap (linkTallied_clearBuffer _ _))
  · exact .trans (moves_link hgap) (moves_takeAddressed h kind _)

theorem moves_hostBroadcast (kind : Nat) (body : List Byte) (s : State) :
    Moves s (hostBroadcast (takeBroadcastFrame kind body) s) := by
  unfold hostBroadcast
  (repeat' split)
  · exact moves_refl s
  · exact moves_overlapped s true
  · exact .trans (moves_link (linkTallied_trans (linkTallied_idleGap s.link) (linkTallied_noise _ true)))
      (moves_takeBroadcastFrame kind body _)

theorem moves_characterReceived (d : RxData) (parity stop : Bool) (s : State) :
    Moves s (characterReceived d parity stop s) := by
  cases d with
  | startBit =>
    refine moves_link ?_
    unfold Link.startBit
    split
    · exact linkTallied_refl _
    · exact linkTallied_of_eq rfl rfl rfl rfl rfl
  | lineHigh =>
    refine moves_link ?_
    unfold Link.lineHigh
    split
    · exact linkTallied_refl _
    · exact linkTallied_of_eq rfl rfl rfl rfl rfl
  | byte b => exact moves_takeChar b parity stop s

theorem moves_frameCutOff (cause : CutCause) (s : State) : Moves s (frameCutOff cause s) := by
  have hcut (stop : Bool) : Moves s { s with link := (s.link.noise stop).cutOff .waitIdle } :=
    moves_link (linkTallied_trans (linkTallied_noise s.link stop) (linkTallied_cutOff _ _))
  unfold frameCutOff
  dsimp only
  split
  · exact moves_refl s
  · cases cause with
    | idleGap => exact moves_link (linkTallied_idleGap s.link)
    | parity => exact hcut _
    | framing => exact hcut _
    | length => exact hcut _

theorem moves_overlap (s : State) : Moves s (overlap s) := by
  unfold overlap
  split
  · exact moves_overlapped s true
  · exact moves_refl s

theorem moves_beginReply (s : State) : Moves s (beginReply s) := by
  unfold beginReply
  split
  · exact moves_link (linkTallied_of_eq rfl rfl rfl rfl rfl)
  · exact moves_refl s

/-! ## Resets -/

/-- R18, R187: a RUNTIME reset. -/
theorem moves_runtimeReset (s : State) : Moves s (runtimeReset s) := by
  have hweb : Moves s { s with web := runtimeWeb s.now s.web } :=
    .web (saturates_self _) (.inr ⟨by simp [runtimeWeb], by simp [runtimeWeb], by simp [runtimeWeb],
      fun _ => ⟨rfl, rfl⟩⟩)
  have hphase (t : State) (c : Cyl) : Moves t (t.setPhase c (runtimePhase (t.phase.get c))) :=
    .phase .runtime
  have hsheets (t : State) : Moves t { t with sheets := { t.sheets with pending := none } } :=
    .sheets rfl (.inr (.inl rfl))
  refine .trans hweb (.trans (hphase _ .f) (.trans (hphase _ .e) (.trans (hsheets _) (.beside ?_))))
  refine beside_trans ?_ (beside_rebuildAll _)
  refine ⟨⟨fun x => ?_, fun x => ?_, ?_, ?_, ?_⟩, rfl, rfl, rfl, rfl, fun l => ?_, linkTallied_refl _⟩
  · cases x <;> exact saturates_self _
  · cases x <;> exact saturates_self _
  · exact saturates_self _
  · exact saturates_self _
  · exact saturates_self _
  · rw [PerLane.get_map]; exact saturates_self _

theorem moves_replyEnd (adr : BitVec 5) (bdr : BitVec 2) (s : State) :
    Moves s (replyEnd adr bdr s) := by
  unfold replyEnd
  split
  · have hend : Moves s (endReply s) := moves_link (linkTallied_of_eq rfl rfl rfl rfl rfl)
    refine .trans hend ?_
    cases s.link.restart with
    | none => exact moves_refl _
    | some level =>
      cases level with
      | runtime => exact moves_runtimeReset _
      | full => exact .reset _
  · exact moves_refl s

/-! ## Commands and ticks -/

theorem moves_writeRow (i : Item) (v : BitVec 32) (s : State) :
    ∃ t, exec (writeRow i v) s = .next t ∧ Moves s t :=
  ⟨_, exec_writeRow i v s, moves_hostRequest _ (opMoves_configWrite i _) s⟩

theorem exec_moves (i : Instr) (s : State) : ∃ t, exec i s = .next t ∧ Moves s t := by
  cases i with
  | encoderTransition a b => exact ⟨_, rfl, moves_encoderTransition a b s⟩
  | speedGateEnd => exact ⟨_, rfl, moves_gateEnd s⟩
  | indexArrival c => exact ⟨_, rfl, moves_indexArrival c s⟩
  | markLeadingEdge x => exact ⟨_, rfl, moves_markRise x s⟩
  | markTrailingEdge x => exact ⟨_, rfl, moves_markFall x s⟩
  | spaceEnd c => exact ⟨_, rfl, moves_spaceEnd c s⟩
  | stepTimeEnd c => exact ⟨_, rfl, .beside (beside_stepTimeEnd c s)⟩
  | confirmRise x => exact ⟨_, rfl, .beside (beside_confirmEdge true x s)⟩
  | confirmFall x => exact ⟨_, rfl, .beside (beside_confirmEdge false x s)⟩
  | engageTimerExpiry c => exact ⟨_, rfl, .beside (beside_engageExpiry c s)⟩
  | releaseTimerExpiry c => exact ⟨_, rfl, .beside (beside_releaseExpiry c s)⟩
  | stopDwellExpiry => exact ⟨_, rfl, .beside (beside_stopDwellExpiry s)⟩
  | motionPulse l => exact ⟨_, rfl, moves_setLane rfl⟩
  | checkTimerExpiry l => exact ⟨_, rfl, .beside (beside_checkExpiry l s)⟩
  | idleGap => exact ⟨_, rfl, moves_link (linkTallied_idleGap s.link)⟩
  | frameReceived d k b c => exact ⟨_, rfl, moves_takeFrame d k b c s⟩
  | frameCutOff cause => exact ⟨_, rfl, moves_frameCutOff cause s⟩
  | overlap => exact ⟨_, rfl, moves_overlap s⟩
  | replyWaitEnd => exact ⟨_, rfl, moves_beginReply s⟩
  | replyEnd adr bdr => exact ⟨_, rfl, moves_replyEnd adr bdr s⟩
  | resetInput p => exact ⟨_, rfl, .reset p⟩
  | powerOn p => exact ⟨_, rfl, .reset p⟩
  | statusRead => exact ⟨_, rfl, moves_hostRequest _ opMoves_read s⟩
  | configWrite n v => exact ⟨_, rfl, moves_hostRequest _ (opMoves_configWriteNumber n v) s⟩
  | webTimingConfigWrite i v => exact moves_writeRow (.web i) v s
  | indexConfigWrite i c v => exact moves_writeRow (.index i c) v s
  | markConfigWrite i v => exact moves_writeRow (.mark i) v s
  | geometryWrite i v => exact moves_writeRow (.geo i) v s
  | rejectMaskWrite v => exact moves_writeRow .rejectMask v s
  | loopConfigWrite i c v => exact moves_writeRow (.loop i c) v s
  | trimIntervalWrite v => exact moves_writeRow .trimInterval v s
  | actuationConfigWrite i v => exact moves_writeRow (.act i) v s
  | driveMappingWrite l v => exact moves_writeRow (.mapping l) v s
  | laneConfigWrite i l v => exact moves_writeRow (.lane i l) v s
  | freezeOnFirstWrite v => exact moves_writeRow .freezeOnFirst v s
  | alarmMaskWrite v => exact moves_writeRow .alarmMask v s
  | configRead n => exact ⟨_, rfl, moves_hostRequest _ (opMoves_configRead n) s⟩
  | curveWrite l as => exact ⟨_, rfl, moves_hostRequest _ (opMoves_curveWrite l as) s⟩
  | curveRead l => exact ⟨_, rfl, moves_hostRequest _ (opMoves_curveRead l) s⟩
  | sheetParamWrite l f e p q u r =>
    exact ⟨_, rfl, moves_hostRequest _ (opMoves_sheetParamWrite l f e p q u r) s⟩
  | windowWrite i es => exact ⟨_, rfl, moves_hostRequest _ (opMoves_windowWrite i es) s⟩
  | windowRead t i n => exact ⟨_, rfl, moves_hostRequest _ (opMoves_windowRead t i n) s⟩
  | windowEdit lc tc ec m nl nt ne d =>
    exact ⟨_, rfl, moves_hostRequest _ (opMoves_windowEdit lc tc ec m nl nt ne d) s⟩
  | sheetCopyBack => exact ⟨_, rfl, moves_hostRequest _ opMoves_sheetCopyBack s⟩
  | sheetClear => exact ⟨_, rfl, moves_hostRequest _ (fun s => moves_staged s _) s⟩
  | commit broadcast =>
    cases broadcast with
    | true => exact ⟨_, rfl, moves_hostBroadcast 0x16 [] s⟩
    | false => exact ⟨_, rfl, moves_hostRequest _ opMoves_commit s⟩
  | sheetParamRead x => exact ⟨_, rfl, moves_hostRequest _ (opMoves_sheetParamRead x) s⟩
  | engage c => exact ⟨_, rfl, moves_hostRequest _ (opMoves_engage c) s⟩
  | disengage set broadcast =>
    cases broadcast with
    | true => exact ⟨_, rfl, moves_hostBroadcast 0x21 [set] s⟩
    | false => exact ⟨_, rfl, moves_hostRequest _ (opMoves_disengage set) s⟩
  | loopMode c m => exact ⟨_, rfl, moves_hostRequest _ (opMoves_loopMode c m) s⟩
  | nudge c d => exact ⟨_, rfl, moves_hostRequest _ (opMoves_nudge c d) s⟩
  | trimMove c d => exact ⟨_, rfl, moves_hostRequest _ (opMoves_trimMove c d) s⟩
  | trimZero c => exact ⟨_, rfl, moves_hostRequest _ (opMoves_trimZero c) s⟩
  | loopRead c => exact ⟨_, rfl, moves_hostRequest _ (opMoves_loopRead c) s⟩
  | lanePark l => exact ⟨_, rfl, moves_hostRequest _ (opMoves_lanePark l) s⟩
  | laneRelease l => exact ⟨_, rfl, moves_hostRequest _ (opMoves_laneRelease l) s⟩
  | rollLoad l n => exact ⟨_, rfl, moves_hostRequest _ (opMoves_rollLoad l n) s⟩
  | laneCheck l => exact ⟨_, rfl, moves_hostRequest _ (opMoves_laneCheck l) s⟩
  | laneRead l => exact ⟨_, rfl, moves_hostRequest _ (opMoves_laneRead l) s⟩
  | trackRead x n k => exact ⟨_, rfl, moves_hostRequest _ (opMoves_trackRead x n k) s⟩
  | trackFlush => exact ⟨_, rfl, moves_hostRequest _ opMoves_trackFlush s⟩
  | faultRead => exact ⟨_, rfl, moves_hostRequest _ opMoves_read s⟩
  | faultClear codes option => exact ⟨_, rfl, moves_hostRequest _ (opMoves_faultClear codes option) s⟩
  | countersRead => exact ⟨_, rfl, moves_hostRequest _ opMoves_read s⟩
  | countersClear => exact ⟨_, rfl, moves_hostRequest _ opMoves_countersClear s⟩
  | restart l => exact ⟨_, rfl, moves_hostRequest _ (opMoves_restart l) s⟩
  | characterReceived d parity stop => exact ⟨_, rfl, moves_characterReceived d parity stop s⟩

/-- A step, on a waiting command or on an empty queue, moves the state as `Moves` says. -/
theorem step_moves {s t : State} (h : step s = .next t) : Moves s t := by
  unfold step at h
  split at h
  · next i rest _ =>
    obtain ⟨u, hu, hmoves⟩ := exec_moves i { s with pending := rest }
    obtain rfl : u = t := Host.Outcome.next.inj (hu.symm.trans h)
    have hqueue : Beside s { s with pending := rest } :=
      beside_of_kept ⟨rfl, rfl, rfl, rfl, rfl, rfl, rfl⟩ (lanesKept_of_eq rfl)
    exact .trans (.beside hqueue) hmoves
  · obtain rfl : tick s = t := Host.Outcome.next.inj h
    exact .beside ⟨tallied_of_eq rfl rfl, rfl, rfl, rfl, rfl, fun _ => saturates_self _,
      linkTallied_of_eq rfl rfl rfl rfl rfl⟩

end Sys2Proof.Proofs
end

section
/-! What `Moves` keeps, and so every step: the phases in the repeat, the misses, the counters and the speed
values, the items in their ranges. -/
namespace Sys2Proof.Proofs

open Sys2Proof.Machine Sys2Proof.Safety

/-! ## Items and counters -/

theorem itemSound_of_moves {s t : State} (h : Moves s t) : ItemSound s → ItemSound t := by
  induction h with
  | beside h => intro hs; rw [ItemSound, h.items]; exact hs
  | trans _ _ ih ih' => exact fun hs => ih' (ih hs)
  | items h =>
    intro hs i
    rcases h.range i with hi | hi
    · exact hi ▸ hs i
    · exact hi
  | reset => exact fun _ => itemSound_reset
  | web => exact id
  | phase => exact id
  | sheets => exact id
  | swap => exact id

theorem saturates_le {n m : Nat} (h : Saturates n m) (hn : n ≤ 65535) : m ≤ 65535 :=
  h.trans (Nat.max_le.2 ⟨hn, Nat.le_refl _⟩)

/-- R6, R7: a step is the rule's forward or backward step against the active sheet. -/
theorem stepOf_cases {d : TrimDir} {c : Cyl} {s : State} {o : PhaseOut} (h : stepOf d c s = some o) :
    ∃ a, s.sheets.active = some a ∧
      (o.phase = phaseAfter a (s.items.index.get c) c (s.phase.get c) ∨
        o.phase = { s.phase.get c with phi := phiBefore a (s.phase.get c) }) := by
  cases ha : s.sheets.active with
  | none => simp [stepOf, State.active?, ha] at h
  | some a =>
    refine ⟨a, rfl, ?_⟩
    cases d with
    | advance =>
      simp only [stepOf, State.active?, ha, Option.map_some, forwardStep_eq, Option.some.injEq] at h
      exact .inl (h ▸ rfl)
    | retard =>
      simp only [stepOf, State.active?, ha, Option.map_some, Option.some.injEq] at h
      exact .inr (h ▸ rfl)

/-- R11: the arrival counter of a cylinder. -/
theorem arrivals_of_phaseMove {s : State} {c : Cyl} {p : Phase} (h : PhaseMove s c p) :
    Saturates (s.phase.get c).arrivals p.arrivals := by
  cases h with
  | step h =>
    obtain ⟨a, -, h | h⟩ := stepOf_cases h <;> rw [h] <;> exact saturates_self _
  | index => exact saturates_min _ _
  | aside _ _ _ _ _ ha => exact ha
  | runtime => exact saturates_self _

theorem counterSound_of_moves {s t : State} (h : Moves s t) : CounterSound s → CounterSound t := by
  induction h with
  | beside h =>
    rintro ⟨henc, harr, hqual, hgood, hbad, hover, hclip, h1, h2, h3, h4, h5⟩
    refine ⟨h.web ▸ henc, h.phase ▸ harr, fun x => ⟨saturates_le (h.rejects x) (hqual x).1,
      saturates_le (h.strays x) (hqual x).2⟩, saturates_le h.good hgood, saturates_le h.bad hbad,
      saturates_le h.overflow hover, fun l => saturates_le (h.clipped l) (hclip l),
      saturates_le h.link.good h1, saturates_le h.link.checkErrors h2,
      saturates_le h.link.charErrors h3, saturates_le h.link.overlaps h4,
      saturates_le h.link.ignored h5⟩
  | trans _ _ ih ih' => exact fun hs => ih' (ih hs)
  | web h _ => exact fun hs => ⟨saturates_le h hs.1, hs.2⟩
  | @phase s c p h =>
    rintro ⟨henc, harr, hrest⟩
    refine ⟨henc, fun d => ?_, hrest⟩
    rw [setPhase_phase, PerCyl.get_set]
    split
    · exact saturates_le (arrivals_of_phaseMove h) (harr c)
    · exact harr d
  | sheets => exact id
  | @swap s sh _ =>
    rintro ⟨henc, harr, hrest⟩
    refine ⟨henc, fun c => ?_, hrest⟩
    unfold inForce
    dsimp only
    split
    · cases c
      · exact harr .f
      · exact harr .e
    · exact harr c
  | items h => exact fun hs => ⟨hs.1, fun c => (h.misses c).arrivals ▸ hs.2.1 c, hs.2.2⟩
  | reset p =>
    intro _
    refine ⟨?_, fun c => ?_, fun x => ?_, ?_, ?_, ?_, fun l => ?_, ?_, ?_, ?_, ?_, ?_⟩
    · exact Nat.zero_le _
    · cases c <;> exact Nat.zero_le _
    · cases x <;> exact ⟨Nat.zero_le _, Nat.zero_le _⟩
    · exact Nat.zero_le _
    · exact Nat.zero_le _
    · exact Nat.zero_le _
    · cases l <;> exact Nat.zero_le _
    all_goals exact Nat.zero_le _

theorem speedSound_of_moves {s t : State} (h : Moves s t) : SpeedSound s → SpeedSound t := by
  induction h with
  | beside h => intro hs; rw [SpeedSound, h.web]; exact hs
  | trans _ _ ih ih' => exact fun hs => ih' (ih hs)
  | web _ h =>
    rcases h with ⟨hv, hstop, hspeed⟩ | h
    · intro hs; simpa [SpeedSound, hv, hstop, hspeed] using hs
    · exact fun _ => h
  | phase => exact id
  | sheets => exact id
  | swap => exact id
  | items => exact id
  | reset => exact fun _ => web_reset.1

/-! ## Phases and misses -/

theorem phiAfter_lt {a : Sheet} {p : Phase} (ha : lengthSound a) (h : p.phi < a.params.lSub) :
    phiAfter a p < a.params.lSub := by
  obtain ⟨hlow, -⟩ := ha
  unfold phiAfter
  split <;> omega

theorem phiBefore_lt {a : Sheet} {p : Phase} (ha : lengthSound a) (h : p.phi < a.params.lSub) :
    phiBefore a p < a.params.lSub := by
  obtain ⟨hlow, -⟩ := ha
  unfold phiBefore
  split <;> omega

/-- R5, R6: what a phase may move to lies in the repeat, and with no sheet active it stays at 0. -/
theorem phaseMove_sound {s : State} {c : Cyl} {p : Phase} (hs : PhaseSound s) (h : PhaseMove s c p) :
    (∀ sh, s.sheets.active = some sh → p.phi < sh.params.lSub) ∧
      (s.sheets.active = none → p.phi = 0 ∧ p.hold = 0) := by
  obtain ⟨hact, -, hnone⟩ := hs
  cases h with
  | step h =>
    obtain ⟨a, ha, h⟩ := stepOf_cases h
    refine ⟨fun sh hsh => ?_, fun hn => by simp [ha] at hn⟩
    obtain rfl : a = sh := Option.some.inj (ha.symm.trans hsh)
    obtain ⟨hlen, hphi⟩ := hact a ha
    rcases h with h | h <;> rw [h]
    · exact phiAfter_lt hlen (hphi c)
    · exact phiBefore_lt hlen (hphi c)
  | @index sh ha =>
    exact ⟨fun b hb => Nat.lt_of_lt_of_le (Nat.zero_lt_succ _) (hact b hb).1.1,
      fun hn => by simp [ha] at hn⟩
  | aside hphi hhold =>
    exact ⟨fun sh hsh => hphi ▸ (hact sh hsh).2 c, fun hn => ⟨hphi ▸ (hnone hn c).1, hhold ▸ (hnone hn c).2⟩⟩
  | runtime =>
    exact ⟨fun b hb => Nat.lt_of_lt_of_le (Nat.zero_lt_succ _) (hact b hb).1.1, fun _ => ⟨rfl, rfl⟩⟩

theorem phaseSound_of_moves {s t : State} (h : Moves s t) : PhaseSound s → PhaseSound t := by
  induction h with
  | beside h => intro hs; rw [PhaseSound, h.phase, h.sheets]; exact hs
  | trans _ _ ih ih' => exact fun hs => ih' (ih hs)
  | web => exact id
  | @phase s c p h =>
    intro hs
    obtain ⟨hmove, hmove0⟩ := phaseMove_sound hs h
    obtain ⟨hact, hpend, hnone⟩ := hs
    refine ⟨fun sh hsh => ⟨(hact sh hsh).1, fun d => ?_⟩, hpend, fun hn d => ?_⟩
    · rw [setPhase_phase, PerCyl.get_set]
      split
      · exact hmove sh hsh
      · exact (hact sh hsh).2 d
    · rw [setPhase_phase, PerCyl.get_set]
      split
      · exact hmove0 hn
      · exact hnone hn d
  | @sheets s x hactive hx =>
    rintro ⟨hact, hpend, hnone⟩
    refine ⟨fun sh hsh => hact sh (hactive ▸ hsh), fun sh hsh => ?_, fun hn => hnone (hactive ▸ hn)⟩
    have hsh' : x.pending = some sh := hsh
    rcases hx with hx | hx | ⟨q, hx, hq⟩
    · exact hpend sh (hx ▸ hsh')
    · simp [hx] at hsh'
    · obtain rfl : q = sh := Option.some.inj (hx.symm.trans hsh')
      exact hq
  | @swap s sh h =>
    rintro ⟨hact, hpend, -⟩
    have hlen : lengthSound sh := h.elim (hpend sh) id
    refine ⟨fun b hb => ?_, fun b hb => by simp [inForce] at hb, fun hn => by simp [inForce] at hn⟩
    obtain rfl : sh = b := Option.some.inj hb
    refine ⟨hlen, fun c => ?_⟩
    have hpos : 0 < sh.params.lSub := Nat.lt_of_lt_of_le (by decide) hlen.1
    unfold inForce
    cases hnew : newLength sh.params s with
    | true => cases c <;> exact Nat.mod_lt _ hpos
    | false =>
      obtain ⟨a, ha, hne⟩ : ∃ a, s.sheets.active = some a ∧ a.params.lSub = sh.params.lSub := by
        cases ha : s.sheets.active with
        | none => simp [newLength, ha] at hnew
        | some a => exact ⟨a, rfl, by simpa [newLength, ha] using hnew⟩
      exact hne ▸ (hact a ha).2 c
  | items h =>
    rintro ⟨hact, hpend, hnone⟩
    exact ⟨fun sh hsh => ⟨(hact sh hsh).1, fun c => (h.misses c).phi ▸ (hact sh hsh).2 c⟩, hpend,
      fun hn c => ⟨(h.misses c).phi ▸ (hnone hn c).1, (h.misses c).hold ▸ (hnone hn c).2⟩⟩
  | reset => exact fun _ => web_reset.2.1

/-- R6, R8, R12, R13: a forward step keeps the misses legal. -/
theorem phaseAfter_misses {a : Sheet} {it : IndexItems} {c : Cyl} {p : Phase}
    (hcount : p.missCount ≤ it.limit)
    (hopen : p.missOpen = true → it.source = .index ∧ p.indexLost = false) :
    (phaseAfter a it c p).missCount ≤ it.limit ∧ (phaseAfter a it c p).hold ≤ 33554431 ∧
      ((phaseAfter a it c p).missOpen = true →
        it.source = .index ∧ (phaseAfter a it c p).indexLost = false) := by
  refine ⟨?_, ?_, fun ho => ?_⟩
  · cases hc : counts a it p with
    | false => simpa [phaseAfter, hc] using hcount
    | true =>
      have hlt : p.missCount < it.limit := by
        simp only [counts, Bool.and_eq_true, decide_eq_true_eq] at hc
        exact hc.2
      simpa [phaseAfter, hc] using hlt
  · unfold phaseAfter holdAfter
    dsimp only
    split <;> omega
  · simp only [phaseAfter, Bool.and_eq_true, Bool.not_eq_true'] at ho
    obtain ⟨hwin, hmiss⟩ := ho
    have hlose : loses a it p = false := by simp [loses, counts, hmiss]
    have hlegal : it.source = .index ∧ p.indexLost = false := by
      simp only [windowOpen, Bool.or_eq_true, Bool.and_eq_true, beq_iff_eq, Bool.not_eq_true'] at hwin
      rcases hwin with h | ⟨⟨-, hsource⟩, hlost⟩
      · exact hopen h
      · exact ⟨hsource, hlost⟩
    exact ⟨hlegal.1, by simp [phaseAfter, hlegal.2, hlose]⟩

/-- The miss account of one cylinder is legal. -/
def MissLegal (it : IndexItems) (p : Phase) : Prop :=
  p.missCount ≤ it.limit ∧ p.hold ≤ 33554431 ∧
    (p.missOpen = true → it.source = .index ∧ p.indexLost = false)

theorem phaseMove_misses {s : State} {c : Cyl} {p : Phase} (h : PhaseMove s c p)
    (hs : MissLegal (s.items.index.get c) (s.phase.get c)) : MissLegal (s.items.index.get c) p := by
  obtain ⟨hcount, hhold, hopen⟩ := hs
  cases h with
  | step h =>
    obtain ⟨a, -, h | h⟩ := stepOf_cases h <;> rw [h]
    · exact phaseAfter_misses hcount hopen
    · exact ⟨hcount, hhold, hopen⟩
  | index =>
    refine ⟨Nat.zero_le _, ?_, fun ho => by simp [arrivedPhase] at ho⟩
    unfold arrivedPhase
    dsimp only
    split
    · exact Nat.zero_le _
    · exact hhold
  | aside _ hh hc ho hl => exact ⟨hc ▸ hcount, hh ▸ hhold, fun h => hl ▸ hopen (ho ▸ h)⟩
  | runtime => exact ⟨Nat.zero_le _, Nat.zero_le _, fun ho => by simp [runtimePhase] at ho⟩

theorem missWrite_legal {old new : IndexItems} {p q : Phase} (h : MissWrite old new p q)
    (hp : MissLegal old p) : MissLegal new q := by
  obtain ⟨hcount, hhold, hopen⟩ := hp
  refine ⟨?_, h.hold ▸ hhold, fun ho => ?_⟩
  · rcases h.count with hc | ⟨hc, hl⟩
    · exact hc ▸ Nat.zero_le _
    · rw [hc, hl]; exact hcount
  · obtain ⟨hp, hsource, hlost⟩ := h.open_of ho
    obtain ⟨hindex, hnot⟩ := hopen hp
    exact ⟨hsource.trans hindex, hlost.trans hnot⟩

theorem missSound_of_moves {s t : State} (h : Moves s t) : MissSound s → MissSound t := by
  induction h with
  | beside h => intro hs; rw [MissSound, h.phase, h.items]; exact hs
  | trans _ _ ih ih' => exact fun hs => ih' (ih hs)
  | web => exact id
  | @phase s c p h =>
    intro hs d
    rw [setPhase_phase, PerCyl.get_set]
    split
    · next hd => subst hd; exact phaseMove_misses (s := s) h (hs d)
    · exact hs d
  | sheets => exact id
  | @swap s sh _ =>
    intro hs c
    unfold inForce
    cases newLength sh.params s
    · exact hs c
    · cases c
      · exact ⟨(hs .f).1, Nat.zero_le _, nofun⟩
      · exact ⟨(hs .e).1, Nat.zero_le _, nofun⟩
  | items h => exact fun hs c => missWrite_legal (h.misses c) (hs c)
  | reset => exact fun _ => web_reset.2.2.1

/-! ## Every step -/

/-- Settles O9: no move takes a phase out of its repeat. -/
theorem stepKeepsPhaseInRepeat : Obligations.StepKeepsPhaseInRepeat :=
  fun _ _ hs h => phaseSound_of_moves (step_moves h) hs

/-- Settles O10: no move makes the misses of a cylinder illegal. -/
theorem stepKeepsMissWindow : Obligations.StepKeepsMissWindow :=
  fun _ _ hs h => missSound_of_moves (step_moves h) hs

/-- Settles O23: every counter saturates, and the speed values come from gate ends and resets. -/
theorem stepKeepsCounters : Obligations.StepKeepsCounters :=
  fun _ _ ⟨hc, hv⟩ h => ⟨counterSound_of_moves (step_moves h) hc, speedSound_of_moves (step_moves h) hv⟩

/-- Settles O24: an item changes only to a value in its range. -/
theorem stepKeepsItems : Obligations.StepKeepsItems :=
  fun _ _ hs h => itemSound_of_moves (step_moves h) hs

end Sys2Proof.Proofs
end

section
/-! The encoder (R1, R2): a transition decoded, a reverse count, and what a trim pulse leaves of the count. -/
namespace Sys2Proof.Proofs

open Sys2Proof.Machine Sys2Proof.Safety

/-! ## Decoding (R1) -/

theorem encoderTransition_forward {a b : Bool} {s : State}
    (h : (a, b) = (if s.items.web.inverted then (!s.web.encB, s.web.encA)
      else (s.web.encB, !s.web.encA))) :
    encoderTransition a b s = forwardCount (setReference a b s) := by
  have hdec : (encoderStep s.web.encA s.web.encB a b).sense s.items.web.inverted = .forward := by
    revert h
    generalize s.web.encA = x, s.web.encB = y, s.items.web.inverted = i
    revert a b x y i
    decide
  unfold encoderTransition
  rw [hdec]

theorem encoderTransition_reverse {a b : Bool} {s : State}
    (h : (a, b) = (if s.items.web.inverted then (s.web.encB, !s.web.encA)
      else (!s.web.encB, s.web.encA))) :
    encoderTransition a b s = reverseCount (setReference a b s) := by
  have hdec : (encoderStep s.web.encA s.web.encB a b).sense s.items.web.inverted = .reverse := by
    revert h
    generalize s.web.encA = x, s.web.encB = y, s.items.web.inverted = i
    revert a b x y i
    decide
  unfold encoderTransition
  rw [hdec]

theorem encoderTransition_error (s : State) :
    encoderTransition (!s.web.encA) (!s.web.encB) s =
      countEncError (setReference (!s.web.encA) (!s.web.encB) s) := by
  have hdec : (encoderStep s.web.encA s.web.encB (!s.web.encA) (!s.web.encB)).sense
      s.items.web.inverted = .error := by
    generalize s.web.encA = x, s.web.encB = y, s.items.web.inverted = i
    revert x y i
    decide
  unfold encoderTransition
  rw [hdec]

theorem encoderTransition_same (s : State) : encoderTransition s.web.encA s.web.encB s = s := by
  have hdec : (encoderStep s.web.encA s.web.encB s.web.encA s.web.encB).sense
      s.items.web.inverted = .same := by
    generalize s.web.encA = x, s.web.encB = y, s.items.web.inverted = i
    revert x y i
    decide
  unfold encoderTransition
  rw [hdec]
  rfl

/-! ## What a trim pulse leaves (R8, R80) -/

/-- R2: the phases as last published. -/
def SamePub (s t : State) : Prop := ∀ c, (t.phase.get c).pub = (s.phase.get c).pub

theorem stepOf_pub {d : TrimDir} {c : Cyl} {s : State} {o : PhaseOut} (h : stepOf d c s = some o) :
    o.phase.pub = (s.phase.get c).pub := by
  obtain ⟨a, -, h | h⟩ := stepOf_cases h
  · rw [h]; rfl
  · rw [h]

theorem samePub_setPhase {s : State} {c : Cyl} {p : Phase} (h : p.pub = (s.phase.get c).pub) :
    SamePub s (s.setPhase c p) := by
  intro d
  rw [setPhase_phase, PerCyl.get_set]
  split
  · next hd => rw [h, hd]
  · rfl

theorem samePub_swapTo (sh : Sheet) (s : State) : SamePub s (swapTo sh s) := by
  intro c
  rw [swapTo_phase]
  split
  · cases c <;> rfl
  · rfl

theorem samePub_handStep (c : Cyl) (o : PhaseOut) (s : State) : SamePub s (handStep c o s) := by
  intro d
  have hbound : ((if o.boundary then handBoundary c s else s).phase.get d).pub =
      (s.phase.get d).pub := by
    split
    · cases c with
      | f =>
        simp only [handBoundary, lanesBoundary_frame]
        unfold swapPending
        split
        · exact samePub_swapTo _ s d
        · rfl
      | e => rfl
    · rfl
  rw [handStep_eq]
  simpa using hbound

theorem samePub_stepPhase (d : TrimDir) (c : Cyl) (s : State) : SamePub s (stepPhase d c s) := by
  unfold stepPhase
  split
  · next h => exact fun d => (samePub_handStep c _ _ d).trans (samePub_setPhase (stepOf_pub h) d)
  · exact fun _ => rfl

/-- R8: a step of E's phase reaches no sheet and no lane. -/
theorem stepPhase_e (d : TrimDir) (s : State) :
    (stepPhase d .e s).sheets = s.sheets ∧ (stepPhase d .e s).lane = s.lane := by
  unfold stepPhase
  split
  · simp [handStep_eq, handBoundary]
  · exact ⟨rfl, rfl⟩

/-- What the emboss nip events of a released foil measurement keep: E's pulses alone may follow. -/
theorem carries_emboss (s : State) : Carries (fun c => c = .e)
    (fun t => SamePub s t ∧ t.sheets = s.sheets ∧ t.lane = s.lane) where
  aside h hs := ⟨fun c => h.phase ▸ hs.1 c, h.sheets.trans hs.2.1, h.lane.trans hs.2.2⟩
  pulse d c hc hs := by
    subst hc
    exact ⟨fun c => (samePub_stepPhase d .e _ c).trans (hs.1 c), (stepPhase_e d _).1.trans hs.2.1,
      (stepPhase_e d _).2.trans hs.2.2⟩

/-! ## Records taken back (R28, R47) -/

theorem reverseRemoval_none {s : State} (n : Nat)
    (h : ∀ r, s.track.records.getLast? = some r → (r.r - s.web.w).toInt ≤ 0) :
    reverseRemoval n s = s := by
  cases n with
  | zero => rfl
  | succ n =>
    unfold reverseRemoval
    split
    · rfl
    · next r hr => exact if_neg (Int.not_lt.2 (h r hr))

theorem dropNewest_append {t : Track} {older : List LabelRecord} {r : LabelRecord}
    (h : t.records = older ++ [r]) : dropNewest t = { t with
      records := older, nip := min t.nip older.length, gate := min t.gate older.length,
      emboss := min t.emboss older.length, marker := min t.marker older.length,
      gateHeld := t.gateHeld && t.gate != older.length,
      rej := older.any (·.verdict == .reject) } := by
  simp [dropNewest, reevalRej, rejectLevel, h]

/-- R28, R47: the newest record alone lies ahead of W. -/
theorem reverseRemoval_one {s : State} {older : List LabelRecord} {r : LabelRecord} {sh : Sheet}
    (ha : s.sheets.active = some sh) (h : s.track.records = older ++ [r])
    (hr : 0 < (r.r - s.web.w).toInt)
    (holder : ∀ q, older.getLast? = some q → (q.r - s.web.w).toInt ≤ 0) :
    reverseRemoval s.track.records.length s = { s with
      track := dropNewest s.track, tracker := rollback sh.params.lSub r.origin s.tracker } := by
  have hlen : s.track.records.length = older.length + 1 := by simp [h]
  have hlast : s.track.records.getLast? = some r := by simp [h]
  have hstep : reverseRemoval (older.length + 1) s = reverseRemoval older.length { s with
      track := dropNewest s.track, tracker := rollback sh.params.lSub r.origin s.tracker } := by
    conv_lhs => unfold reverseRemoval
    simp only [hlast, posDiff, hr, if_true, State.active?, ha, Option.map_some, Option.getD_some]
  rw [hlen, hstep]
  refine reverseRemoval_none _ fun q hq => holder q ?_
  rw [dropNewest_append h] at hq
  exact hq

theorem rollback_tracking {t : Tracker} (h : t.state = .locked ∨ t.state = .coast ∨ t.state = .lost)
    (n : Nat) (o : Origin) : rollback n o t = { t with
      eSub := t.eSub - BitVec.ofNat 40 n,
      coast := if t.state = .coast ∧ o = .predicted then t.coast - 1 else t.coast } := by
  rcases h with h | h | h <;> simp [rollback, h]

/-! ## A reverse count -/

/-- R7: the phases one backward step back. -/
def steppedBack (s : State) (c : Cyl) : Phase :=
  match s.sheets.active with
  | some sh => { s.phase.get c with phi := phiBefore sh (s.phase.get c) }
  | none => s.phase.get c

theorem stepBoth_back (s : State) :
    stepBoth .retard s = { s with phase := ⟨steppedBack s .f, steppedBack s .e⟩ } := by
  unfold steppedBack
  cases h : s.sheets.active with
  | none => rw [stepBoth_none h]; rfl
  | some a => rw [stepBoth_retard h]; rfl

/-- R20: with nothing held or waiting, a reverse count at a qualifier drops its measurement alone. -/
theorem qualReverse_quiet (x : Sensor) {s : State} (hw : s.tracker.waiting = false)
    (hg : s.track.gateHeld = false) : qualReverse x s = { s with qual := (qualReverse x s).qual } := by
  unfold qualReverse
  split
  · cases x
    · simp [rejectMark, measurementEnded, hw]; rfl
    · simp [rejectMark, measurementEnded, releaseGate, hg]; rfl
  · rfl

theorem qualReverse_idle {x : Sensor} {s : State} (h : (s.qual.get x).state ≠ .measuring) :
    qualReverse x s = s := if_neg h

/-- R2, R7: W and both phases moved back, and published. -/
def movedBack (a b : Bool) (s : State) : State :=
  counted { s with
    web := { s.web with w := s.web.w - 1, dir := .reverse, tally := s.web.tally - 1, encA := a, encB := b }
    phase := ⟨steppedBack s .f, steppedBack s .e⟩ }

/-- R20: both qualifiers after a reverse count. -/
def qualsBack (s : State) : State := qualReverse .foil (qualReverse .print s)

theorem encoderTransition_back {a b : Bool} {s : State}
    (h : (a, b) = (if s.items.web.inverted then (s.web.encB, !s.web.encA)
      else (!s.web.encB, s.web.encA))) :
    encoderTransition a b s = reverseRemoval (qualsBack (movedBack a b s)).track.records.length
      (qualsBack (movedBack a b s)) := by
  rw [encoderTransition_reverse h]
  unfold reverseCount
  rw [stepBoth_back]
  rfl

theorem movedBack_phase (a b : Bool) (s : State) (c : Cyl) : (movedBack a b s).phase.get c =
    { s.phase.get c with phi := (steppedBack s c).phi, pub := (steppedBack s c).phi } := by
  have hstep : steppedBack s c = { s.phase.get c with phi := (steppedBack s c).phi } := by
    unfold steppedBack
    split <;> rfl
  conv_lhs => rw [show (movedBack a b s).phase.get c =
    { steppedBack s c with pub := (steppedBack s c).phi } by cases c <;> rfl, hstep]

theorem steppedBack_none {s : State} (h : s.sheets.active = none) (c : Cyl) :
    (steppedBack s c).phi = (s.phase.get c).phi := by rw [steppedBack, h]

theorem steppedBack_some {s : State} {sh : Sheet} (h : s.sheets.active = some sh) (c : Cyl) :
    (steppedBack s c).phi = phiBefore sh (s.phase.get c) := by rw [steppedBack, h]

theorem qualsBack_carries {s : State} : SamePub s (qualsBack s) ∧ (qualsBack s).sheets = s.sheets ∧
    (qualsBack s).lane = s.lane :=
  carries_qualReverse (carries_emboss s) rfl .foil
    (carries_qualReverse (carries_emboss s) rfl .print ⟨fun _ => rfl, rfl, rfl⟩)

theorem qualsBack_quiet {s : State} (hw : s.tracker.waiting = false) (hg : s.track.gateHeld = false) :
    qualsBack s = { s with qual := (qualsBack s).qual } := by
  have hprint := qualReverse_quiet .print hw hg
  unfold qualsBack
  have hfoil := qualReverse_quiet (s := qualReverse .print s) .foil
    ((congrArg (·.tracker.waiting) hprint :).trans hw) ((congrArg (·.track.gateHeld) hprint :).trans hg)
  generalize qualReverse .print s = t at *
  rw [hfoil]
  exact (congrArg (fun u : State => { u with qual := (qualReverse .foil t).qual }) hprint :)

theorem qualsBack_idle {s : State} (hp : s.qual.print.state ≠ .measuring)
    (hf : s.qual.foil.state ≠ .measuring) : qualsBack s = s := by
  unfold qualsBack
  rw [qualReverse_idle (x := .print) hp, qualReverse_idle (x := .foil) hf]

/-- Settles O27: both phases go back, then the qualifiers and the removal of records take the count. -/
theorem encoderReverseCount : Obligations.EncoderReverseCount := by
  intro a b s h
  obtain ⟨hsame, hsheets, hlane⟩ := qualsBack_carries (s := movedBack a b s)
  have hpub (c : Cyl) : ((qualsBack (movedBack a b s)).phase.get c).pub = (steppedBack s c).phi := by
    rw [hsame c, movedBack_phase]
  refine ⟨reverseRemoval _ (qualsBack (movedBack a b s)), congrArg _ (encoderTransition_back h), by simp [qualsBack]; rfl, rfl,
    fun hnone c => ?_, fun sh c hsh => ?_, fun hg hw => ?_, ?_, by simp [qualsBack]; rfl, ?_,
    by simp [qualsBack]; rfl, by simp [qualsBack]; rfl, by simp [qualsBack]; rfl,
    by simp [qualsBack]; rfl, by simp [qualsBack]; rfl, fun hp hf hlast => ?_,
    fun older r sh hp hf hsh hrec hr hold ht => ?_⟩
  · simpa [hpub] using steppedBack_none hnone c
  · simp only [reverseRemoval_frame, hpub]
    exact steppedBack_some hsh c
  · have hquiet := qualsBack_quiet (s := movedBack a b s) hw hg
    generalize qualsBack (movedBack a b s) = u at hquiet
    refine ⟨?_, ?_, ?_, ?_, fun c => ?_⟩
    · simp only [reverseRemoval_frame]; rw [hquiet]; rfl
    · simp only [reverseRemoval_frame]; rw [hquiet]; rfl
    · simp only [reverseRemoval_frame]; rw [hquiet]; rfl
    · simp only [reverseRemoval_frame]; rw [hquiet]; rfl
    · have hphase : u.phase = (movedBack a b s).phase := (congrArg State.phase hquiet :)
      simp only [reverseRemoval_frame, hphase, movedBack_phase]
  · simp only [reverseRemoval_frame]
    exact hlane
  · simp only [reverseRemoval_frame]
    exact hsheets
  · rw [qualsBack_idle (s := movedBack a b s) hp hf, reverseRemoval_none (s := movedBack a b s) _ hlast]
    exact ⟨rfl, rfl⟩
  · rw [qualsBack_idle (s := movedBack a b s) hp hf,
      reverseRemoval_one (s := movedBack a b s) hsh hrec hr hold]
    exact ⟨dropNewest_append hrec, rollback_tracking ht _ _⟩

end Sys2Proof.Proofs
end

section
/-! A forward count at the lanes (R126 to R129): what one lane's work leaves of the other lanes, of E's
sequencer and of the fault flags. -/
namespace Sys2Proof.Proofs

open Sys2Proof.Machine Sys2Proof.Safety

/-- R147: no fault flag is cleared. -/
def FlagsKept (s t : State) : Prop :=
  ∀ n, s.faults.flags.getLsbD n = true → t.faults.flags.getLsbD n = true

theorem flagsKept_of_eq {s t : State} (h : t.faults = s.faults) : FlagsKept s t := by
  intro n hn; rw [h]; exact hn

theorem flagsKept_trans {s t u : State} (h : FlagsKept s t) (h' : FlagsKept t u) : FlagsKept s u :=
  fun n hn => h' n (h n hn)

theorem flagsKept_raiseIf (b : Bool) (r : Raise) (s : State) : FlagsKept s (raiseIf b r s) :=
  fun _ hn => raiseIf_keeps hn b r

/-- The work of lane `l` reaches another lane only by cutting its run (R121), and of the sequencers F's only
(R92). -/
structure LaneWork (l : Lane) (s t : State) : Prop where
  flags : FlagsKept s t
  emboss : t.seq.e = s.seq.e
  others : ∀ m, m ≠ l → (s.lane.get m).state ≠ .run → t.lane.get m = s.lane.get m

theorem laneWork_refl (l : Lane) (s : State) : LaneWork l s s :=
  ⟨fun _ h => h, rfl, fun _ _ _ => rfl⟩

theorem laneWork_trans {l : Lane} {s t u : State} (h : LaneWork l s t) (h' : LaneWork l t u) :
    LaneWork l s u where
  flags := flagsKept_trans h.flags h'.flags
  emboss := h'.emboss.trans h.emboss
  others m hm hs := by
    have heq := h.others m hm hs
    rw [h'.others m hm (by rw [heq]; exact hs), heq]

theorem laneWork_setLane (l : Lane) (x : LaneCtl) (s : State) : LaneWork l s (s.setLane l x) where
  flags := flagsKept_of_eq (by simp)
  emboss := by simp
  others m hm _ := by rw [setLane_lane, PerLane.get_set_ne _ _ hm]

theorem laneWork_raiseIf (l : Lane) (b : Bool) (r : Raise) (s : State) :
    LaneWork l s (raiseIf b r s) where
  flags := flagsKept_raiseIf b r s
  emboss := by simp
  others _ _ _ := by simp

theorem cutLanes_get_ne {p : PerLane LaneCtl} {m : Lane} (h : (p.get m).state ≠ .run) :
    (cutLanes p).get m = p.get m := by
  rw [cutLanes, PerLane.get_map, if_neg h]

/-- R92, R121: a lane's throw-off order. -/
theorem laneWork_laneOrder (l : Lane) (s : State) : LaneWork l s (laneOrder s) := by
  have hgiven : GivenUpF .fault s (laneOrder s) := clearResume_throwOff_f .fault s
  refine ⟨flagsKept_of_eq (by simp), by rw [hgiven.seq_eq]; rfl, fun m _ hs => ?_⟩
  rw [hgiven.lane_eq]
  split
  · exact cutLanes_get_ne hs
  · rfl

theorem laneWork_enterFaulted (l : Lane) (broke low out : Bool) (s : State) :
    LaneWork l s (enterFaulted l broke low out s) := by
  have hraised : LaneWork l s (faultRaised l broke low out s) :=
    laneWork_trans (laneWork_trans (laneWork_trans (laneWork_setLane l _ s)
      (laneWork_raiseIf l _ _ _)) (laneWork_raiseIf l _ _ _)) (laneWork_raiseIf l _ _ _)
  rw [enterFaulted_eq]
  split
  · exact laneWork_trans hraised (laneWork_laneOrder l _)
  · exact hraised

theorem laneWork_laneStepped (l : Lane) (s : State) : LaneWork l s (laneStepped l s) where
  flags := flagsKept_of_eq (by simp [laneStepped])
  emboss := by simp [laneStepped]
  others m hm _ := by rw [laneStepped_lane, PerLane.get_set_ne _ _ hm]

theorem laneWork_laneStep (l : Lane) (s : State) : LaneWork l s (laneStep l s) := by
  rw [laneStep_eq]
  (repeat' split)
  · exact laneWork_enterFaulted l _ _ _ s
  · exact laneWork_trans (laneWork_laneStepped l s) (laneWork_enterFaulted l _ _ _ _)
  · exact laneWork_trans (laneWork_laneStepped l s) (laneWork_raiseIf l _ _ _)

theorem laneWork_laneSteps (l : Lane) (n : Nat) (s : State) : LaneWork l s (laneSteps l n s) := by
  induction n generalizing s with
  | zero => exact laneWork_refl l s
  | succ n ih =>
    unfold laneSteps
    (repeat' split)
    · exact laneWork_laneStep l s
    · exact laneWork_trans (laneWork_laneStep l s) (ih _)
    · exact laneWork_refl l s

theorem laneWork_laneRun (l : Lane) (p : Nat) (s : State) : LaneWork l s (laneRun l p s) := by
  have hcount : LaneWork l s (runCount l s) :=
    laneWork_trans (laneWork_setLane l _ s) (laneWork_laneSteps l _ _)
  unfold laneRun
  dsimp only
  split
  · exact laneWork_trans hcount (laneWork_setLane l _ _)
  · exact hcount

theorem laneWork_laneCount (l : Lane) (p : Nat) (s : State) : LaneWork l s (laneCount l p s) := by
  unfold laneCount
  dsimp only
  (repeat' split)
  · exact laneWork_laneRun l p s
  · exact laneWork_refl l s
  · exact laneWork_setLane l _ s
  · exact laneWork_trans (laneWork_setLane l _ s) (laneWork_laneRun l p _)
  all_goals exact laneWork_refl l s

/-! ## All four lanes -/

/-- What holds on across each lane's count holds on across the four. -/
theorem lanesCount_induction {P : State → Prop} {s : State}
    (step : ∀ l p t, P t → P (laneCount l p t)) (h : P s) : P (lanesCount s) :=
  step .l3 _ _ (step .l2 _ _ (step .l1 _ _ (step .l0 _ _ h)))

theorem lanesCount_flags (s : State) : FlagsKept s (lanesCount s) :=
  lanesCount_induction (P := FlagsKept s)
    (fun l p _ h => flagsKept_trans h (laneWork_laneCount l p _).flags) (fun _ h => h)

theorem lanesCount_emboss (s : State) : (lanesCount s).seq.e = s.seq.e :=
  lanesCount_induction (P := fun t => t.seq.e = s.seq.e)
    (fun l p _ h => (laneWork_laneCount l p _).emboss.trans h) rfl

theorem laneCount_parked {s : State} {l : Lane}
    (h : (s.lane.get l).state = .parked ∨ (s.lane.get l).state = .check) (p : Nat) :
    laneCount l p s = s := by
  rcases h with h | h <;> simp [laneCount, h]

/-- R126, R127: a lane in PARKED or CHECK takes no count. -/
theorem lanesCount_parked {s : State} {l : Lane}
    (h : (s.lane.get l).state = .parked ∨ (s.lane.get l).state = .check) :
    (lanesCount s).lane.get l = s.lane.get l := by
  refine lanesCount_induction (P := fun t => t.lane.get l = s.lane.get l) (fun m p t ht => ?_) rfl
  by_cases hm : l = m
  · subst hm
    rw [laneCount_parked (by rw [ht]; exact h) p, ht]
  · rw [(laneWork_laneCount m p t).others l hm (by rw [ht]; rcases h with h | h <;> simp [h]), ht]

/-- R126: no lane runs, and none may start a run on this count. -/
def LanesRest (s : State) : Prop :=
  (∀ l, (s.lane.get l).state ≠ .run) ∧
    (s.seq.f.state = .on → ∀ l, (s.lane.get l).state ≠ .dwell)

theorem laneCount_rest {s : State} (h : LanesRest s) (l : Lane) (p : Nat) :
    LanesRest (laneCount l p s) ∧ (laneCount l p s).seq = s.seq := by
  obtain ⟨hrun, hdwell⟩ := h
  unfold laneCount
  dsimp only
  split
  · next hl => exact absurd hl (hrun l)
  · next hl =>
    (repeat' split)
    · exact ⟨⟨hrun, hdwell⟩, rfl⟩
    · have hstate (m : Lane) : ((s.lane.set l { s.lane.get l with hold := false }).get m).state =
          (s.lane.get m).state := by
        rw [PerLane.get_set]
        split
        · next hm => rw [hm]
        · rfl
      exact ⟨⟨fun m => (hstate m).symm ▸ hrun m, fun hon m => (hstate m).symm ▸ hdwell hon m⟩, rfl⟩
    · next hon _ _ _ => exact absurd hl (hdwell hon l)
    · exact ⟨⟨hrun, hdwell⟩, rfl⟩
    · exact ⟨⟨hrun, hdwell⟩, rfl⟩
  · exact ⟨⟨hrun, hdwell⟩, rfl⟩

/-- R126, R135: with the lanes at rest a count leaves F's sequencer too. -/
theorem lanesCount_rest {s : State} (h : LanesRest s) : (lanesCount s).seq = s.seq :=
  (lanesCount_induction (P := fun t => LanesRest t ∧ t.seq = s.seq)
    (fun l p _ ht => ⟨(laneCount_rest ht.1 l p).1, (laneCount_rest ht.1 l p).2.trans ht.2⟩)
    ⟨h, rfl⟩).2

end Sys2Proof.Proofs
end

section
/-! The forward count (R1, R2, R6, R8, R9, R12, R13, R38, R126) and the encoder error. -/
namespace Sys2Proof.Proofs

open Sys2Proof.Machine Sys2Proof.Safety

/-! ## What the stations and the trackers keep of the count -/

/-- R80, R113: with no pending sheet a trim pulse leaves the sheets. -/
theorem stepPhase_sheets {s : State} (hp : s.sheets.pending = none) (d : TrimDir) (c : Cyl) :
    (stepPhase d c s).sheets = s.sheets := by
  unfold stepPhase
  split
  · cases c with
    | f =>
      simp only [handStep_eq, handBoundary, raiseIf_frame, throwIf_frame]
      split
      · simp [swapPending_none, hp]
      · simp
    | e => simp [handStep_eq, handBoundary]
  · rfl

theorem carries_count {s : State} (hp : s.sheets.pending = none) :
    Carries (fun _ => True) (fun t => SamePub s t ∧ t.sheets = s.sheets) where
  aside h hs := ⟨fun c => h.phase ▸ hs.1 c, h.sheets.trans hs.2⟩
  pulse d c _ hs := ⟨fun x => (samePub_stepPhase d c _ x).trans (hs.1 x),
    (stepPhase_sheets (by rw [hs.2]; exact hp) d c).trans hs.2⟩

/-- R2: what follows a published forward count, in its order (log 10). -/
def countTaken (s : State) : State :=
  lanesCount (coastTest (qualForward .foil (qualForward .print (serveStations s))))

theorem countTaken_frame (s : State) :
    (countTaken s).web = s.web ∧ (countTaken s).items = s.items ∧ (countTaken s).inputs = s.inputs ∧
    (countTaken s).now = s.now ∧ (countTaken s).link = s.link ∧
    (countTaken s).configDefault = s.configDefault := by
  simp [countTaken]

theorem countTaken_kept {s : State} (hp : s.sheets.pending = none) :
    SamePub s (countTaken s) ∧ (countTaken s).sheets = s.sheets := by
  have hcarries := carries_count hp
  have hmarks := hcarries.aside (aside_coastTest _) (carries_qualForward hcarries trivial .foil
    (carries_qualForward hcarries trivial .print
      (carries_serveStations hcarries trivial trivial ⟨fun _ => rfl, rfl⟩)))
  exact ⟨fun c => by simpa [countTaken] using hmarks.1 c, by simpa [countTaken] using hmarks.2⟩

/-! ## A count with no record on the track -/

theorem serveStations_empty {s : State} (h : s.track.records = []) : serveStations s = s := by
  unfold serveStations
  rw [h]
  rfl

/-- R25, R27: what a coast decision leaves. -/
structure CoastLeaves (s t : State) : Prop where
  phase : t.phase = s.phase
  seq : t.seq = s.seq
  lane : t.lane = s.lane
  flags : FlagsKept s t
  held : s.track.gateHeld = false → t.track.gateHeld = false

theorem coastLeaves_refl (s : State) : CoastLeaves s s := ⟨rfl, rfl, rfl, fun _ h => h, id⟩

theorem coastLeaves_trans {s t u : State} (h : CoastLeaves s t) (h' : CoastLeaves t u) :
    CoastLeaves s u :=
  ⟨h'.phase.trans h.phase, h'.seq.trans h.seq, h'.lane.trans h.lane, flagsKept_trans h.flags h'.flags,
    h'.held ∘ h.held⟩

theorem createRecord_held {s : State} (h : s.track.gateHeld = false) (o : Origin) (r : Pos)
    (w : Option Nat) : (createRecord o r w s).track.gateHeld = false := by
  unfold createRecord createIn makeRoom
  split <;> simp [dropOldest, reevalRej, h]

theorem coastLeaves_coast (s : State) : CoastLeaves s (coast s) := by
  refine ⟨by simp, by simp, by simp, ?_, fun h => ?_⟩
  · unfold coast
    dsimp only
    (repeat' split)
    · exact flagsKept_of_eq (by simp)
    · exact flagsKept_trans (flagsKept_of_eq (by simp)) (flagsKept_raiseIf true _ _)
    · exact flagsKept_of_eq (by simp)
  · have hheld := createRecord_held h .predicted (roundSub s.tracker.eSub) none
    unfold coast
    dsimp only
    (repeat' split) <;> simpa using hheld

theorem coastLeaves_coastTest (s : State) : CoastLeaves s (coastTest s) := by
  have hopen : CoastLeaves s (if s.tracker.waiting then s else if coastPoint s then
      if coastWaits s then { s with tracker := { s.tracker with waiting := true } } else coast s
      else s) := by
    (repeat' split)
    · exact coastLeaves_refl s
    · exact ⟨rfl, rfl, rfl, fun _ h => h, id⟩
    · exact coastLeaves_coast s
    · exact coastLeaves_refl s
  unfold coastTest
  split
  · exact hopen
  · exact hopen
  · exact hopen
  all_goals exact coastLeaves_refl s

/-- R20, R41: with no gate-close event held, a measurement given up brings a coast decision at most. -/
theorem coastLeaves_qualForward (x : Sensor) {s : State} (h : s.track.gateHeld = false) :
    CoastLeaves s (qualForward x s) := by
  unfold qualForward
  dsimp only
  split
  · cases x with
    | print =>
      unfold rejectMark measurementEnded
      dsimp only
      split
      · refine coastLeaves_trans ?_ (coastLeaves_coast _)
        exact ⟨rfl, rfl, rfl, fun _ h => h, id⟩
      · exact ⟨rfl, rfl, rfl, fun _ h => h, id⟩
    | foil =>
      have hrest : ∀ q, releaseGate (s.setQual .foil q) = s.setQual .foil q := fun q => by
        simp [releaseGate, h]
      unfold rejectMark measurementEnded
      dsimp only
      rw [hrest]
      exact ⟨rfl, rfl, rfl, fun _ h => h, id⟩
  · exact coastLeaves_refl s

/-- R38: with no record on the track and none held, the lanes take the count as it was published. -/
theorem countTaken_empty {s : State} (hr : s.track.records = []) (hg : s.track.gateHeld = false) :
    ∃ u, CoastLeaves s u ∧ countTaken s = lanesCount u := by
  have hprint := coastLeaves_qualForward .print hg
  have hfoil := coastLeaves_qualForward .foil (hprint.held hg)
  refine ⟨_, coastLeaves_trans (coastLeaves_trans hprint hfoil) (coastLeaves_coastTest _), ?_⟩
  rw [countTaken, serveStations_empty hr]

/-! ## The lanes at the count's boundary -/

theorem parkAdvance_state (timeout : Nat) (x : LaneCtl) : (parkAdvance timeout x).1.state = x.state := by
  unfold parkAdvance
  dsimp only
  (repeat' split) <;> rfl

theorem boundaryLane_state (s : State) (l : Lane) :
    (boundaryLane s l).1.state = (s.lane.get l).state := parkAdvance_state _ _

/-- R8: with no pending sheet a forward step changes no lane's state. -/
theorem stepBoth_laneState {s : State} (hp : s.sheets.pending = none) (l : Lane) :
    ((stepBoth .advance s).lane.get l).state = (s.lane.get l).state := by
  cases ha : s.sheets.active with
  | none => rw [stepBoth_none ha]
  | some a =>
    rw [stepBoth_advance ha, handed_lane]
    by_cases hb : (true && crosses a s.phase.f) = true
    · rw [bounded_none hp hb, lanesBoundary_get, boundaryLane_state]; rfl
    · rw [bounded_off (eq_false_of_ne_true hb)]; rfl

/-! ## A whole forward count -/

/-- R2: a forward count, once W has moved. -/
def stepTaken (s : State) : State := countTaken (counted (stepBoth .advance s))

theorem counted_phase (s : State) (c : Cyl) :
    (counted s).phase.get c = { s.phase.get c with pub := (s.phase.get c).phi } := by
  cases c <;> rfl

section
variable {s : State} {sh : Sheet}

/-- R38: with no record on the track and none held, the lanes take the count as it was published. -/
theorem stepTaken_empty (hr : s.track.records = []) (hg : s.track.gateHeld = false) :
    ∃ u, CoastLeaves (counted (stepBoth .advance s)) u ∧ stepTaken s = lanesCount u := by
  have ht : (counted (stepBoth .advance s)).track = s.track := by simp [counted]
  exact countTaken_empty ((congrArg Track.records ht).trans hr) ((congrArg Track.gateHeld ht).trans hg)

/-- R6, R8, R9, R12: the phases after a count. -/
theorem stepTaken_phase (ha : s.sheets.active = some sh) (hp : s.sheets.pending = none)
    (hr : s.track.records = []) (hg : s.track.gateHeld = false) (c : Cyl) :
    (stepTaken s).phase.get c = { phaseAfter sh (s.items.index.get c) c (s.phase.get c) with
      pub := phiAfter sh (s.phase.get c) } := by
  obtain ⟨u, hu, ht⟩ := stepTaken_empty hr hg
  obtain ⟨hphase, -⟩ := (stepBoth_stepsForward s).2 sh ha (by simp [hp])
  rw [ht, show (lanesCount u).phase = u.phase by simp, hu.phase, counted_phase, hphase]
  rfl

/-- R147: what the step raised stays raised. -/
theorem stepTaken_flags (hr : s.track.records = []) (hg : s.track.gateHeld = false) :
    FlagsKept (stepBoth .advance s) (stepTaken s) := by
  obtain ⟨u, hu, ht⟩ := stepTaken_empty hr hg
  rw [ht]
  exact flagsKept_trans hu.flags (lanesCount_flags u)

theorem thrown_on_iff (s : State) (c : Cyl) :
    (thrown s c).state = .on ↔ s.inputs.cnf.get c = true := by
  unfold thrown
  split <;> simp [*]

/-- R84, R85: a waiting sequencer after a count. -/
theorem stepTaken_seq (ha : s.sheets.active = some sh) (hp : s.sheets.pending = none)
    (hr : s.track.records = []) (hg : s.track.gateHeld = false) {c : Cyl}
    (hw : (s.seq.get c).state = .waitPhase)
    (hf : c = .f → (∀ l, (s.lane.get l).state ≠ .run) ∧
      (s.inputs.cnf.f = true → fires sh .f s.phase.f = true → ∀ l, (s.lane.get l).state ≠ .dwell)) :
    (stepTaken s).seq.get c = if fires sh c (s.phase.get c) then thrown s c else s.seq.get c := by
  obtain ⟨u, hu, ht⟩ := stepTaken_empty hr hg
  obtain ⟨-, -, -, -, -, hseq, -⟩ := (stepBoth_stepsForward s).2 sh ha (by simp [hp])
  have huseq : u.seq.get c = if fires sh c (s.phase.get c) then thrown s c else s.seq.get c := by
    have hstep := hseq c (by simp [hp])
    simp only [hw, true_and] at hstep
    rw [hu.seq]
    exact hstep
  rw [ht]
  cases c with
  | e => exact (lanesCount_emboss u).trans huseq
  | f =>
    obtain ⟨hrun, hdwell⟩ := hf rfl
    have hstate (l : Lane) : (u.lane.get l).state = (s.lane.get l).state := by
      rw [hu.lane]; exact stepBoth_laneState hp l
    have hrest : LanesRest u := by
      refine ⟨fun l => hstate l ▸ hrun l, fun hon l => hstate l ▸ ?_⟩
      rw [show u.seq.f = _ from huseq] at hon
      split at hon
      · next hfires => exact hdwell ((thrown_on_iff s .f).1 hon) hfires l
      · rw [hw] at hon; cases hon
    rw [lanesCount_rest hrest]
    exact huseq

/-- R123, R125, R138: the lanes after a count that brings a boundary of F. -/
theorem stepTaken_bound (ha : s.sheets.active = some sh) (hp : s.sheets.pending = none)
    (hr : s.track.records = []) (hg : s.track.gateHeld = false) (hb : crosses sh s.phase.f = true)
    (l : Lane) : ((stepTaken s).lane.get l).lastRev = (s.lane.get l).tally ∧
      ((s.lane.get l).state = .parked ∨ (s.lane.get l).state = .check →
        (stepTaken s).lane.get l = (stepBoth .advance s).lane.get l) := by
  obtain ⟨u, hu, ht⟩ := stepTaken_empty hr hg
  obtain ⟨-, -, -, hlanes, -⟩ := (stepBoth_stepsForward s).2 sh ha (by simp [hp])
  obtain ⟨hrev, -⟩ := hlanes hp hb l
  have hlane : u.lane = (stepBoth .advance s).lane := hu.lane
  obtain ⟨-, hkept, -⟩ := lanesKept_lanesCount u l
  rw [ht, hkept, hlane]
  refine ⟨hrev, fun h => ?_⟩
  rw [lanesCount_parked (by rw [hlane, stepBoth_laneState hp]; exact h), hlane]

/-- R127: the lanes after a count that brings none. -/
theorem stepTaken_off (ha : s.sheets.active = some sh) (hp : s.sheets.pending = none)
    (hr : s.track.records = []) (hg : s.track.gateHeld = false) (hb : crosses sh s.phase.f = false)
    (l : Lane) : ((stepTaken s).lane.get l).lastRev = (s.lane.get l).lastRev ∧
      ((stepTaken s).lane.get l).runList = (s.lane.get l).runList ∧
      ((s.lane.get l).state = .parked ∨ (s.lane.get l).state = .check →
        (stepTaken s).lane.get l = s.lane.get l) := by
  obtain ⟨u, hu, ht⟩ := stepTaken_empty hr hg
  obtain ⟨-, -, -, -, hlanes, -⟩ := (stepBoth_stepsForward s).2 sh ha (by simp [hp])
  have hlane : u.lane = s.lane := hu.lane.trans (hlanes hb)
  obtain ⟨-, hrev, hlist⟩ := lanesKept_lanesCount u l
  rw [ht, hrev, hlist, hlane]
  exact ⟨rfl, rfl, fun h => by rw [lanesCount_parked (by rw [hlane]; exact h), hlane]⟩

end

/-! ## The encoder -/

/-- R2: W, direction and gate tally after a forward count, with the levels that gave it. -/
def movedForward (a b : Bool) (s : State) : State :=
  { s with web := { s.web with
      w := s.web.w + 1, dir := .forward, tally := s.web.tally + 1, encA := a, encB := b } }

theorem encoderTransition_count {a b : Bool} {s : State}
    (h : (a, b) = (if s.items.web.inverted then (!s.web.encB, s.web.encA)
      else (s.web.encB, !s.web.encA))) :
    encoderTransition a b s = stepTaken (movedForward a b s) := by
  rw [encoderTransition_forward h]; rfl

/-- R113: with no pending sheet a forward step leaves the sheets. -/
theorem stepBoth_sheets {s : State} (hp : s.sheets.pending = none) :
    (stepBoth .advance s).sheets = s.sheets := by
  obtain ⟨hnone, hsome⟩ := stepBoth_stepsForward s
  cases ha : s.sheets.active with
  | none => rw [hnone ha]
  | some sh =>
    obtain ⟨-, -, hkept, -⟩ := hsome sh ha (by simp [hp])
    exact (hkept (.inl hp)).1

/-- R2: what a count leaves, and the phase published with it. -/
theorem stepTaken_kept {s : State} (hp : s.sheets.pending = none) :
    (∀ c, ((stepTaken s).phase.get c).pub = ((stepBoth .advance s).phase.get c).phi) ∧
      (stepTaken s).sheets = s.sheets := by
  have hsheets : (counted (stepBoth .advance s)).sheets = s.sheets := stepBoth_sheets hp
  obtain ⟨hpub, hkept⟩ := countTaken_kept (s := counted (stepBoth .advance s)) (by rw [hsheets]; exact hp)
  exact ⟨fun c => by rw [stepTaken, hpub c, counted_phase], hkept.trans hsheets⟩

theorem stepTaken_frame (s : State) :
    (stepTaken s).web = s.web ∧ (stepTaken s).items = s.items ∧ (stepTaken s).inputs = s.inputs ∧
    (stepTaken s).now = s.now ∧ (stepTaken s).link = s.link ∧
    (stepTaken s).configDefault = s.configDefault := by
  have hcounted (t : State) : (counted t).web = t.web ∧ (counted t).items = t.items ∧
      (counted t).inputs = t.inputs ∧ (counted t).now = t.now ∧ (counted t).link = t.link ∧
      (counted t).configDefault = t.configDefault := ⟨rfl, rfl, rfl, rfl, rfl, rfl⟩
  simp only [stepTaken, countTaken_frame, hcounted, stepBoth_frame, and_self]

/-- Settles O26: a forward count is `stepBoth` and what `countTaken` does with it; with no record on the
track only the lanes come after, and they rest or keep to their own. -/
theorem encoderForwardCountOrError : Obligations.EncoderForwardCountOrError := by
  refine ⟨fun a b s h => ⟨_, stepBoth_stepsForward (movedForward a b s), ?_⟩, fun a b s hp h => ?_,
    fun s => ⟨?_, congrArg _ (encoderTransition_same s)⟩⟩
  · exact congrArg _ (encoderTransition_count h)
  · set m := movedForward a b s with hm
    obtain ⟨hpub, hsheets⟩ := stepTaken_kept (s := m) hp
    obtain ⟨hweb, hitems, hin, hnow, hlink, hdef⟩ := stepTaken_frame m
    obtain ⟨hnone, hsome⟩ := stepBoth_stepsForward m
    refine ⟨stepTaken m, congrArg _ (encoderTransition_count h), hweb, fun ha c => ?_,
      fun sh c ha => ?_, hsheets, hitems, hin, hnow, hlink, hdef, fun sh ha hr hg => ?_⟩
    · rw [hpub, hnone ha]; rfl
    · rw [hpub, (hsome sh ha (by simp [hm, movedForward, hp])).1 c]; rfl
    · obtain ⟨-, -, -, hbound, -, -, hlost, -⟩ := hsome sh ha (by simp [hm, movedForward, hp])
      refine ⟨stepTaken_phase (s := m) ha hp hr hg, fun c hl hf => ?_,
        fun c hw hf => stepTaken_seq (s := m) ha hp hr hg hw hf, fun hb l => ?_,
        fun hb => stepTaken_off (s := m) ha hp hr hg hb⟩
      · exact stepTaken_flags (s := m) hr hg _ (hlost c rfl hl hf)
      · obtain ⟨hrev, hsame⟩ := stepTaken_bound (s := m) ha hp hr hg hb l
        obtain ⟨-, -, -, hpark⟩ := hbound hp hb l
        refine ⟨hrev, fun hst => ?_⟩
        obtain ⟨-, htimer, hexpired, hraised⟩ := hpark hst
        rw [hsame hst]
        exact ⟨htimer, hexpired, fun he ht hf => stepTaken_flags (s := m) hr hg _ (hraised he ht hf)⟩
  · refine congrArg _ ((encoderTransition_error s).trans ?_)
    simp [countEncError, setReference, satInc, Config.counterMax]

end Sys2Proof.Proofs
end

section
/-! The speed gate's end (R3), with the sequencers and the sheet store that take it (R84, R90, R91, R113). -/
namespace Sys2Proof.Proofs

open Sys2Proof.Machine Sys2Proof.Safety

/-- R3: the time and the web side at a gate end. -/
def gated (s : State) : State :=
  { s with
    now := max s.now s.web.gateEnd
    web := { s.web with
      v := max (-32768) (min 32767 s.web.tally), tally := 0,
      stopped := decide (max (-32768) (min 32767 s.web.tally) ≤ s.items.web.threshold),
      speed := if s.web.tally ≤ 0 then 0
        else min 63 ((min 32767 s.web.tally).toNat / 2 ^ s.items.web.scale),
      gateEnd := s.web.gateEnd + 4096 } }

theorem speedIndex_gateSpeed (scale : Nat) (tally : Int) : speedIndex scale (gateSpeed tally) =
    if tally ≤ 0 then 0 else min 63 ((min 32767 tally).toNat / 2 ^ scale) := by
  simp only [speedIndex, gateSpeed, clamp, Config.speedMax]
  split
  · rw [show (max (-32768) (min 32767 tally)).toNat = 0 by omega]; simp
  · rw [max_eq_right (by omega : (-32768 : Int) ≤ min 32767 tally)]

/-- R3, R113: a gate end: the web side, the sequencers, then the sheet store (log 12). -/
theorem gateEnd_eq (s : State) : gateEnd s =
    gateEndStore ((gated s).web.stopped != s.web.stopped)
      (gateEndSeqs ((gated s).web.stopped != s.web.stopped) (gated s)) := by
  have hgated : { s.reachTime s.web.gateEnd with web := gateWeb s.items.web s.web } = gated s := by
    unfold gated
    rw [← speedIndex_gateSpeed]
    rfl
  exact (congrArg (fun t : State => gateEndStore (t.web.stopped != s.web.stopped)
    (gateEndSeqs (t.web.stopped != s.web.stopped) t)) hgated :)

/-- What the sheet store leaves of a gate end. -/
theorem gateEndStore_frame (b : Bool) (s : State) :
    (gateEndStore b s).now = s.now ∧ (gateEndStore b s).inputs = s.inputs ∧
    (gateEndStore b s).web = s.web ∧ (gateEndStore b s).qual = s.qual ∧
    (gateEndStore b s).track = s.track ∧ (gateEndStore b s).emit = s.emit ∧
    (gateEndStore b s).faults = s.faults ∧ (gateEndStore b s).drives = s.drives ∧
    (gateEndStore b s).items = s.items ∧ (gateEndStore b s).link = s.link ∧
    (gateEndStore b s).configDefault = s.configDefault := by
  unfold gateEndStore
  split <;> simp

/-- R113: a pending sheet waits for a gate end that has just found the web stopped. -/
theorem gateEndStore_kept {b : Bool} {s : State}
    (h : (b && s.web.stopped) = false ∨ s.sheets.pending = none) : gateEndStore b s = s := by
  unfold gateEndStore
  split
  · next hb =>
    rcases h with h | h
    · rw [h] at hb; cases hb
    · exact swapPending_none h
  · rfl

theorem gateEndStore_swaps {s : State} {sh : Sheet} (hw : s.web.stopped = true)
    (h : s.sheets.pending = some sh) : gateEndStore true s = swapTo sh s := by
  simp [gateEndStore, hw, swapPending_some h]

/-! ## The web stops (R84, R90) -/

/-- R84, R85, R90: with F alone waiting its throw-phase event comes with the stop, and its dwell starts. -/
theorem gateEndSeqs_stops {s : State} (hw : s.web.stopped = true) (hf : s.seq.f.state = .waitPhase)
    (hcnf : s.inputs.cnf.f = false) (he : s.seq.e.state ≠ .waitPhase)
    (ht : s.items.act.throwOff = true) (hd : s.items.act.stopDwell ≠ 0) :
    let u := gateEndSeqs true s
    u.seq = { s.seq with f := { s.seq.f with
      state := .engaging, imp := true, release := none,
      engage := some (s.now + 1000 * s.items.act.engage.f) } } ∧
    u.stopDwell = some (s.now + 1000 * s.items.act.stopDwell) ∧
    u.resume = s.resume ∧ u.lane = s.lane := by
  have hseq : (throwPhaseEvent .e (throwPhaseEvent .f s)).seq = { s.seq with f := { s.seq.f with
      state := .engaging, imp := true, release := none,
      engage := some (s.now + 1000 * s.items.act.engage.f) } } := by
    have hf' : (s.seq.get .f).state = .waitPhase := hf
    have hnot : ((throwPhaseEvent .f s).seq.get .e).state ≠ .waitPhase := by
      rw [throwPhaseEvent_get]
      exact he
    rw [throwPhaseEvent_seq, if_neg hnot, throwPhaseEvent_seq, if_pos hf']
    simp [thrown, PerCyl.get, PerCyl.set, hcnf]
  have hstart : gateEndSeqs true s = { throwPhaseEvent .e (throwPhaseEvent .f s) with
      stopDwell := some (s.now + 1000 * s.items.act.stopDwell) } := by
    simp [gateEndSeqs, hw, startDwell, PerCyl.get, hf, SeqState.thrown, ht, hd, Config.msTicks,
      Nat.mul_comm]
  intro u
  rw [show u = _ from hstart]
  exact ⟨hseq, rfl, by simp, by simp⟩

/-! ## The web moves (R90, R91) -/

/-- R83: what ENGAGE asks of the sheet and the geometry. -/
theorem configuredFor_f (s : State) : configuredFor .f s =
    (s.sheets.active.any (·.params.usesF) && s.items.geo.dF != 0 && s.items.geo.dFS != 0 &&
      s.items.geo.dE != 0 && s.items.geo.dR != 0) := by
  cases h : s.sheets.active <;>
    simp [configuredFor, State.active?, h, SheetParams.uses, geometrySet, Bool.and_assoc]

/-- R83, R91: the ENGAGE that resume-pending owes is taken. -/
def engageTaken (s : State) : Bool := configuredFor .f s && !faultedWithSpans s

/-- R84: F waits for its throw phase. -/
def waiting (s : State) : PerCyl Sequencer :=
  { s.seq with f := { s.seq.f with state := .waitPhase, imp := false, engage := none, release := none } }

theorem resumeEngage_owed {s : State} (hw : s.web.stopped = false) (hr : s.resume = true)
    (hf : s.seq.f.state = .off) : resumeEngage s =
      { s with seq := if engageTaken s then waiting s else s.seq, resume := false } := by
  have hf' : (s.seq.get .f).state = .off := hf
  unfold resumeEngage engageTaken
  rw [if_pos ⟨hr, hf'⟩]
  cases hc : configuredFor .f s
  · simp [engageCyl, hc]
  cases hl : faultedWithSpans s
  · simp [engageCyl, hc, hl, hf', hw, clearResume, seqTo, waiting]
    rfl
  · simp [engageCyl, hc, hl]

theorem resumeEngage_idle {s : State} (h : s.resume = false ∨ s.seq.f.state ≠ .off) :
    resumeEngage s = s := by
  refine if_neg fun ⟨hr, hf⟩ => ?_
  rcases h with h | h
  · rw [h] at hr; cases hr
  · exact h hf

/-- R90, R91: a gate end at which the web moves, as the sequencers take it. -/
theorem gateEndSeqs_moves {b : Bool} {s : State} (hw : s.web.stopped = false) : gateEndSeqs b s =
    { s with
      stopDwell := if b then none else s.stopDwell
      seq := if s.resume = true ∧ s.seq.f.state = .off ∧ engageTaken s = true then waiting s else s.seq
      resume := s.resume && decide (s.seq.f.state ≠ .off) } := by
  have hstart : gateEndSeqs b s =
      resumeEngage { s with stopDwell := if b then none else s.stopDwell } := by
    unfold gateEndSeqs
    rw [hw]
    cases b <;> rfl
  rw [hstart]
  by_cases h : s.resume = true ∧ s.seq.f.state = .off
  · obtain ⟨hr, hf⟩ := h
    rw [resumeEngage_owed (by exact hw) (by exact hr) (by exact hf)]
    simp only [hr, hf, true_and, ne_eq, not_true, decide_false, Bool.and_false]
    rfl
  · have hidle : s.resume = false ∨ s.seq.f.state ≠ .off := by
      rcases hr : s.resume with _ | _
      · exact .inl rfl
      · exact .inr fun hf => h ⟨hr, hf⟩
    have howed : ¬ (s.resume = true ∧ s.seq.f.state = .off ∧ engageTaken s = true) :=
      fun hn => h ⟨hn.1, hn.2.1⟩
    rw [resumeEngage_idle (by exact hidle), if_neg howed]
    rcases hidle with hr | hf
    · simp [hr]
    · simp [hf]

theorem engageTaken_iff (s : State) : engageTaken s = true ↔
    (s.sheets.active.any (·.params.usesF) && s.items.geo.dF != 0 && s.items.geo.dFS != 0 &&
      s.items.geo.dE != 0 && s.items.geo.dR != 0) = true ∧
    ∀ l, (s.lane.get l).state = .faulted → s.spans l = [] := by
  unfold engageTaken
  rw [configuredFor_f, Bool.and_eq_true, Bool.not_eq_true', ← Bool.not_eq_true, faultedWithSpans_iff]
  simp

/-- Settles O28: a gate end is `gated`, taken by the sequencers as the web stops or moves, then by the
sheet store. -/
theorem speedGateEndPublishes : Obligations.SpeedGateEndPublishes := by
  refine ⟨fun s => ⟨_, rfl, ?_⟩, fun s hmoved hstop hp hf hcnf he ht hd => ⟨_, rfl, ?_⟩,
    fun s hmove => ⟨_, rfl, ?_⟩⟩
  · rw [gateEnd_eq]
    simp only [gateEndStore_frame, gateEndSeqs_frame]
    refine ⟨rfl, rfl, fun hwas hnow sh hsh => ?_, fun h => ?_, rfl, rfl, rfl, rfl, rfl, rfl, rfl, rfl,
      rfl⟩
    · have hb : ((gated s).web.stopped != s.web.stopped) = true := by rw [hnow, hwas]; rfl
      rw [hb, gateEndStore_swaps (sh := sh) (by simpa using hnow)
        (by simp only [gateEndSeqs_frame]; exact hsh), swapTo_sheets]
      exact ⟨rfl, rfl⟩
    · rw [gateEndStore_kept]
      · simp; rfl
      · simp only [gateEndSeqs_frame]
        rcases h with h | h | h
        · left; rw [h]; cases (gated s).web.stopped <;> rfl
        · left; rw [h]; cases s.web.stopped <;> rfl
        · exact .inr h
  · have hnow : (gated s).web.stopped = true := decide_eq_true hstop
    have hb : ((gated s).web.stopped != s.web.stopped) = true := by rw [hnow, hmoved]; rfl
    rw [gateEnd_eq, hb, gateEndStore_kept (.inr (by simp only [gateEndSeqs_frame]; exact hp))]
    exact gateEndSeqs_stops hnow hf hcnf he ht hd
  · have hnow : (gated s).web.stopped = false := decide_eq_false (Int.not_le.2 hmove)
    have hb : ((gated s).web.stopped != s.web.stopped) = s.web.stopped := by
      rw [hnow]; cases s.web.stopped <;> rfl
    have hkept : (s.web.stopped && (gateEndSeqs s.web.stopped (gated s)).web.stopped) = false := by
      simp [hnow]
    rw [gateEnd_eq, hb, gateEndStore_kept (.inl hkept), gateEndSeqs_moves hnow]
    refine ⟨rfl, rfl, fun h => if_neg fun hn => ?_, fun hr hf => ⟨fun h => ?_, fun h => ?_⟩, rfl⟩
    · rcases h with h | h
      · rw [show s.resume = true from hn.1] at h; cases h
      · exact h hn.2.1
    · exact if_pos ⟨hr, hf, (engageTaken_iff s).2 h⟩
    · exact if_neg fun hn => h ((engageTaken_iff s).1 hn.2.2)

end Sys2Proof.Proofs
end

section
/-! The ten checks of COMMIT (R106) in their order, and what the first that fails reports. -/
namespace Sys2Proof.Proofs

open Sys2Proof.Machine Sys2Proof.Safety

/-! ## Windows -/

/-- Some enabled window of the table has a property. -/
def HasWindow (t : List (Option Window)) (bad : Window → Prop) : Prop :=
  ∃ w, some w ∈ t ∧ w.enabled = true ∧ bad w

/-- Index `i` is the lowest of an enabled window with a property. -/
def LowestWindow (t : List (Option Window)) (bad : Window → Prop) (i : Nat) : Prop :=
  (∃ w, t[i]? = some (some w) ∧ w.enabled = true ∧ bad w) ∧
    ∀ j, j < i → ∀ w, t[j]? = some (some w) → w.enabled = true → ¬ bad w

section
variable {t : List (Option Window)} {test : Window → Bool} {bad : Window → Prop}

theorem firstWindow_none (ht : ∀ w, test w = true ↔ bad w) (h : ¬ HasWindow t bad) :
    firstWindow t test = none := by
  refine List.findIdx?_eq_none_iff.2 fun e he => ?_
  match e with
  | none => rfl
  | some w =>
    by_contra hw
    obtain ⟨hen, htest⟩ := Bool.and_eq_true _ _ ▸ eq_true_of_ne_false hw
    exact h ⟨w, he, hen, (ht w).1 htest⟩

theorem not_hasWindow_of_none (ht : ∀ w, test w = true ↔ bad w) (h : firstWindow t test = none) :
    ¬ HasWindow t bad := by
  rintro ⟨w, hw, hen, hbad⟩
  have hno := List.findIdx?_eq_none_iff.1 h _ hw
  simp [hen, (ht w).2 hbad] at hno

theorem firstWindow_some {i : Nat} (ht : ∀ w, test w = true ↔ bad w) (h : LowestWindow t bad i) :
    firstWindow t test = some i := by
  obtain ⟨⟨w, hw, hen, hbad⟩, hlow⟩ := h
  obtain ⟨hi, hget⟩ := List.getElem?_eq_some_iff.1 hw
  refine List.findIdx?_eq_some_iff_getElem.2 ⟨hi, by simp [hget, hen, (ht w).2 hbad], fun j hj => ?_⟩
  have hjt : j < t.length := hj.trans hi
  cases hget' : t[j] with
  | none => simp
  | some v =>
    have hv := hlow j hj v (List.getElem?_eq_some_iff.2 ⟨hjt, hget'⟩)
    rw [← ht] at hv
    simpa using hv

end

/-! ## Lanes -/

theorem compileSpans_get (t : List (Option Window)) (l : Lane) :
    (compileSpans t).get l = laneSpans t l := by cases l <;> rfl

/-- R106 check 8: a lane has more than 12 base spans. -/
def Crowded (t : List (Option Window)) (l : Lane) : Prop := 12 < ((compileSpans t).get l).length

theorem crowdedLane_none {t : List (Option Window)} (h : ∀ l, ¬ Crowded t l) : crowdedLane t = none := by
  refine List.find?_eq_none.2 fun l _ => ?_
  have hl := h l
  rw [Crowded, compileSpans_get] at hl
  exact fun hc => hl (of_decide_eq_true hc)

theorem crowdedLane_some {t : List (Option Window)} {l : Lane} (h : Crowded t l)
    (hlow : ∀ k, Lane.code k < Lane.code l → ¬ Crowded t k) : crowdedLane t = some l := by
  have hlen (k : Lane) : Crowded t k ↔ Config.spanMax < (laneSpans t k).length := by
    rw [Crowded, compileSpans_get]; rfl
  simp only [hlen] at h hlow
  unfold crowdedLane
  cases l with
  | l0 => simp [h]
  | l1 => simp [h, hlow .l0 (by decide)]
  | l2 => simp [h, hlow .l0 (by decide), hlow .l1 (by decide)]
  | l3 => simp [h, hlow .l0 (by decide), hlow .l1 (by decide), hlow .l2 (by decide)]

/-! ## The checks in their order -/

/-- R50, R106 check 10: the constraints with the staged repeat. -/
def Fits (g : GeoItems) (m : MarkItems) (lc : Nat) : Prop :=
  m.pwMax < m.gP ∧ (g.dF ≠ 0 → m.gP + m.pwMax < g.dF) ∧
    (g.dF ≠ 0 → (g.dFS ≠ 0 → g.dF < g.dFS) ∧ (g.dE ≠ 0 → g.dF < g.dE) ∧ (g.dR ≠ 0 → g.dF < g.dR)) ∧
    (g.dFS ≠ 0 → (g.dE ≠ 0 → g.dFS < g.dE ∧ m.gF + m.fwMax + g.dFS < g.dE) ∧
      (g.dR ≠ 0 → g.dFS < g.dR)) ∧
    (g.dE ≠ 0 → g.dR ≠ 0 → g.dE < g.dR) ∧ (g.dR ≠ 0 → g.dR ≤ 31 * lc) ∧
    4 * m.gP ≤ lc ∧ 4 * m.gF ≤ lc

theorem ifSet_one (a : Nat) (p : Prop) [Decidable p] :
    ifSet [a] (decide p) = true ↔ (a ≠ 0 → p) := by
  simp [ifSet, Classical.or_iff_not_imp_left]

theorem ifSet_two (a b : Nat) (p : Prop) [Decidable p] :
    ifSet [a, b] (decide p) = true ↔ (a ≠ 0 → b ≠ 0 → p) := by
  simp [ifSet, Classical.or_iff_not_imp_left]

theorem fits_iff (g : GeoItems) (m : MarkItems) (lc : Nat) :
    (spacingOk g m && lengthOk g m lc) = true ↔ Fits g m lc := by
  simp only [spacingOk, lengthOk, Bool.and_eq_true, ifSet_one, ifSet_two, decide_eq_true_eq]
  constructor
  · rintro ⟨⟨⟨⟨⟨⟨⟨⟨⟨hFS, hFE⟩, hFR⟩, hSE⟩, hSR⟩, hER⟩, hPF⟩, hES⟩, hP⟩, ⟨hR, hgP⟩, hgF⟩
    exact ⟨hP, hPF, fun hF => ⟨hFS hF, hFE hF, hFR hF⟩,
      fun hS => ⟨fun hE => ⟨hSE hS hE, hES hE hS⟩, hSR hS⟩, hER, hR, hgP, hgF⟩
  · rintro ⟨hP, hPF, hF, hS, hER, hR, hgP, hgF⟩
    exact ⟨⟨⟨⟨⟨⟨⟨⟨⟨fun h => (hF h).1, fun h => (hF h).2.1⟩, fun h => (hF h).2.2⟩,
      fun h k => ((hS h).1 k).1⟩, fun h => (hS h).2⟩, hER⟩, hPF⟩, fun k h => ((hS h).1 k).2⟩, hP⟩,
      ⟨hR, hgP⟩, hgF⟩

/-- R106: checks 9 and 10. -/
def useChecks (st : Staged) (it : Items) : Option (Nat × Nat) :=
  if !st.params.usesF && !st.params.usesE then some (9, 255)
  else if !(spacingOk it.geo it.mark && lengthOk it.geo it.mark (lcOf st.params.lSub)) then some (10, 255)
  else none

/-- R106 check 6: a window ends beyond the repeat. -/
def Beyond (st : Staged) (w : Window) : Prop := st.params.lSub / 256 < w.start + w.length

/-- R106 check 7: a window lies on a lane without a drive. -/
def Unmapped (it : Items) (w : Window) : Prop := (it.lane.get w.lane).drive = none

/-- R106: checks 6 to 10. -/
def windowChecks (st : Staged) (it : Items) : Option (Nat × Nat) :=
  match firstWindow st.windows (fun w => lcOf st.params.lSub < w.start + w.length) with
  | some i => some (6, i)
  | none =>
    match firstWindow st.windows (fun w => (it.lane.get w.lane).drive.isNone) with
    | some i => some (7, i)
    | none =>
      match crowdedLane st.windows with
      | some l => some (8, (firstWindow st.windows (·.lane == l)).getD 255)
      | none => useChecks st it

theorem beyond_test (st : Staged) (w : Window) :
    decide (lcOf st.params.lSub < w.start + w.length) = true ↔ Beyond st w := decide_eq_true_iff

theorem unmapped_test (it : Items) (w : Window) :
    (it.lane.get w.lane).drive.isNone = true ↔ Unmapped it w := Option.isNone_iff_eq_none

theorem commitCheck_eq (st : Staged) (it : Items) : commitCheck st it =
    if st.params.lSub < 512000 ∨ 16777215 < st.params.lSub then some (1, 255)
    else if st.params.lSub ≤ st.params.tF then some (2, 255)
    else if st.params.lSub ≤ st.params.tE then some (3, 255)
    else if st.params.lSub / 256 ≤ st.params.throwF then some (4, 255)
    else if st.params.lSub / 256 ≤ st.params.throwE then some (5, 255)
    else windowChecks st it := rfl

/-- R106 checks 1 to 5: the parameters lie within the sheet. -/
def ParamsWithin (p : SheetParams) : Prop :=
  ((((¬ (p.lSub < 512000 ∨ 16777215 < p.lSub) ∧ p.tF < p.lSub) ∧ p.tE < p.lSub) ∧
    p.throwF < p.lSub / 256) ∧ p.throwE < p.lSub / 256)

theorem commitCheck_within {st : Staged} {it : Items} (h : ParamsWithin st.params) :
    commitCheck st it = windowChecks st it := by
  obtain ⟨⟨⟨⟨h1, h2⟩, h3⟩, h4⟩, h5⟩ := h
  rw [commitCheck_eq, if_neg h1, if_neg (Nat.not_le.2 h2), if_neg (Nat.not_le.2 h3),
    if_neg (Nat.not_le.2 h4), if_neg (Nat.not_le.2 h5)]

/-- R106: a sheet that passes lies within its parameters and its lanes. -/
theorem within_of_pass {st : Staged} {it : Items} (h : commitCheck st it = none) :
    ParamsWithin st.params ∧ ¬ HasWindow st.windows (Beyond st) ∧
      ¬ HasWindow st.windows (Unmapped it) ∧ useChecks st it = none := by
  rw [commitCheck_eq] at h
  split_ifs at h with h1 h2 h3 h4 h5
  unfold windowChecks at h
  split at h
  · cases h
  next hbeyond =>
    split at h
    · cases h
    next hunmapped =>
      split at h
      · cases h
      · exact ⟨⟨⟨⟨⟨h1, Nat.not_le.1 h2⟩, Nat.not_le.1 h3⟩, Nat.not_le.1 h4⟩, Nat.not_le.1 h5⟩,
          not_hasWindow_of_none (beyond_test st) hbeyond,
          not_hasWindow_of_none (unmapped_test it) hunmapped, h⟩

section
variable {st : Staged} {it : Items} (hp : ParamsWithin st.params)
include hp

theorem commitCheck_beyond {i : Nat} (h : LowestWindow st.windows (Beyond st) i) :
    commitCheck st it = some (6, i) := by
  rw [commitCheck_within hp, windowChecks, firstWindow_some (beyond_test st) h]

variable (hb : ¬ HasWindow st.windows (Beyond st))
include hb

theorem commitCheck_unmapped {i : Nat} (h : LowestWindow st.windows (Unmapped it) i) :
    commitCheck st it = some (7, i) := by
  rw [commitCheck_within hp, windowChecks, firstWindow_none (beyond_test st) hb,
    firstWindow_some (unmapped_test it) h]

variable (hu : ¬ HasWindow st.windows (Unmapped it))
include hu

theorem commitCheck_crowded {l : Lane} {i : Nat} (h : Crowded st.windows l)
    (hlow : ∀ k, Lane.code k < Lane.code l → ¬ Crowded st.windows k)
    (hi : LowestWindow st.windows (fun w => w.lane = l) i) : commitCheck st it = some (8, i) := by
  rw [commitCheck_within hp, windowChecks, firstWindow_none (beyond_test st) hb,
    firstWindow_none (unmapped_test it) hu, crowdedLane_some h hlow]
  simp only
  rw [firstWindow_some (fun w => beq_iff_eq) hi]
  rfl

variable (hc : ∀ l, ¬ Crowded st.windows l)
include hc

theorem commitCheck_uses : commitCheck st it = useChecks st it := by
  rw [commitCheck_within hp, windowChecks, firstWindow_none (beyond_test st) hb,
    firstWindow_none (unmapped_test it) hu, crowdedLane_none hc]

end

theorem useChecks_unused {st : Staged} {it : Items} (hf : st.params.usesF = false)
    (he : st.params.usesE = false) : useChecks st it = some (9, 255) := by simp [useChecks, hf, he]

theorem useChecks_used {st : Staged} {it : Items}
    (h : st.params.usesF = true ∨ st.params.usesE = true) :
    (Fits it.geo it.mark (st.params.lSub / 256) → useChecks st it = none) ∧
    (¬ Fits it.geo it.mark (st.params.lSub / 256) → useChecks st it = some (10, 255)) := by
  have hused : ¬ (!st.params.usesF && !st.params.usesE) = true := by
    rcases h with h | h <;> simp [h]
  rw [useChecks, if_neg hused, ← fits_iff, lcOf]
  exact ⟨fun hfits => by simp only [hfits]; rfl, fun hfits => by simp only [hfits]; rfl⟩

theorem uses_of_pass {st : Staged} {it : Items} (h : useChecks st it = none) :
    st.params.usesF = true ∨ st.params.usesE = true := by
  cases hf : st.params.usesF
  · cases he : st.params.usesE
    · rw [useChecks_unused hf he] at h; cases h
    · exact .inr rfl
  · exact .inl rfl

end Sys2Proof.Proofs
end

section
/-! COMMIT and its outcomes (R106 to R114). -/
namespace Sys2Proof.Proofs

open Sys2Proof.Machine Sys2Proof.Safety Sys2Proof.Laws

/-! ## The generation (R109) -/

theorem succGen_ne (g : Nat) : succGen g ≠ g := by unfold succGen; split <;> omega

theorem nextGen_or (last : Nat) (active : Option Sheet) :
    nextGen last active = succGen last ∨ active.map (·.gen) = some (succGen last) := by
  unfold nextGen
  split
  · next h => exact .inr h
  · exact .inl rfl

theorem nextGen_ne (last : Nat) (active : Option Sheet) :
    active.map (·.gen) ≠ some (nextGen last active) := by
  unfold nextGen
  split
  · next h =>
    rw [h]
    exact fun hg => succGen_ne (succGen last) (Option.some.inj hg).symm
  · next h => exact h

/-! ## The outcomes as the request's operation gives them -/

/-- R110, R111: the generation of a passing COMMIT is the last assigned. -/
def assigned (s : State) : State :=
  { s with sheets := { s.sheets with lastGen := nextGen s.sheets.lastGen s.sheets.active } }

/-- R108, R109: the staged sheet compiled under its generation. -/
def committed (s : State) : Sheet :=
  compile s.sheets.staged (nextGen s.sheets.lastGen s.sheets.active)

section
variable {s : State}

theorem commitReply_none (result : Result) (reason window : Nat) :
    commitReply ⟨result, reason, window, none⟩ =
      ⟨result, [0, 0] ++ natBytes 1 reason ++ natBytes 1 window⟩ := by
  rw [commitReply, show natBytes 2 ((none : Option Nat).getD 0) = [0, 0] by decide]

theorem commitReply_some (result : Result) (g : Nat) :
    commitReply ⟨result, 0, 255, some g⟩ = ⟨result, natBytes 2 g ++ [0, 255]⟩ := by
  rw [commitReply, show natBytes 1 0 = [0] by decide, show natBytes 1 255 = [255] by decide,
    List.append_assoc]
  rfl

theorem commitSheet_invalid {reason window : Nat}
    (h : commitCheck s.sheets.staged s.items = some (reason, window)) :
    commitSheet s = (noteCommit ⟨.sheetInvalid, reason, window, none⟩ s,
      ⟨.sheetInvalid, [0, 0] ++ natBytes 1 reason ++ natBytes 1 window⟩) := by
  unfold commitSheet
  rw [h, ← commitReply_none]

variable (hpass : commitCheck s.sheets.staged s.items = none)
include hpass

theorem commitSheet_running (h : commitRunning s = true) :
    commitSheet s = (noteCommit ⟨.running, 0, 255, none⟩ s, ⟨.running, [0, 0, 0, 255]⟩) := by
  have hreply : commitReply ⟨.running, 0, 255, none⟩ = ⟨.running, [0, 0, 0, 255]⟩ := by decide
  unfold commitSheet
  rw [hpass, ← hreply]
  exact if_pos h

/-- R110: a COMMIT that is not refused places its sheet, and records how. -/
theorem commitSheet_placed (hrun : commitRunning s = false) :
    let g := nextGen s.sheets.lastGen s.sheets.active
    let placed := placeSheet (committed s) (assigned s)
    commitSheet s =
      (noteCommit ⟨placed.2, 0, 255, some g⟩ placed.1, ⟨placed.2, natBytes 2 g ++ [0, 255]⟩) := by
  intro g placed
  unfold commitSheet
  rw [hpass, ← commitReply_some]
  exact if_neg (by simp [hrun])

theorem commitSheet_waits {a : Sheet} (ha : s.sheets.active = some a) (hw : s.web.stopped = false)
    (hrun : commitRunning s = false) :
    let r := if s.sheets.pending.isSome then Result.superseded else .pending
    let g := nextGen s.sheets.lastGen s.sheets.active
    commitSheet s = (noteCommit ⟨r, 0, 255, some g⟩ { s with sheets := { s.sheets with
      pending := some (committed s), lastGen := g } }, ⟨r, natBytes 2 g ++ [0, 255]⟩) := by
  have hplaced : placeSheet (committed s) (assigned s) =
      ({ s with sheets := { s.sheets with
        pending := some (committed s), lastGen := nextGen s.sheets.lastGen s.sheets.active } },
        if s.sheets.pending.isSome then .superseded else .pending) := by
    have hwaits : ¬ ((assigned s).sheets.active.isNone || (assigned s).web.stopped) = true := by
      simp [assigned, ha, hw]
    exact if_neg hwaits
  rw [commitSheet_placed hpass hrun, hplaced]

theorem commitSheet_inForce (h : s.sheets.active = none ∨ s.web.stopped = true) :
    let g := nextGen s.sheets.lastGen s.sheets.active
    commitSheet s = (noteCommit ⟨.ok, 0, 255, some g⟩ (swapTo (committed s) (assigned s)),
      ⟨.ok, natBytes 2 g ++ [0, 255]⟩) := by
  have hrun : commitRunning s = false := by
    rcases h with h | h
    · simp [commitRunning, State.active?, h]
    · unfold commitRunning; split <;> simp [h]
  have hplaced : placeSheet (committed s) (assigned s) = (swapTo (committed s) (assigned s), .ok) := by
    have hforce : ((assigned s).sheets.active.isNone || (assigned s).web.stopped) = true := by
      rcases h with h | h <;> simp [assigned, h]
    exact if_pos hforce
  rw [commitSheet_placed hpass hrun, hplaced]

end

theorem commitRunning_some {s : State} {a : Sheet} (ha : s.sheets.active = some a)
    (hw : s.web.stopped = false) :
    commitRunning s = (a.params.lSub != s.sheets.staged.params.lSub) := by
  simp [commitRunning, State.active?, ha, hw]

theorem commitSheet_link (s : State) : (commitSheet s).1.link = s.link := by
  have hplace (sh : Sheet) (t : State) : (placeSheet sh t).1.link = t.link := by
    unfold placeSheet; split <;> simp
  unfold commitSheet
  split
  · rfl
  · dsimp only
    split
    · rfl
    · exact hplace _ _

/-- R169, R170: COMMIT to the station and to every station does the same beside the Link Port. -/
theorem exec_commit {s : State} (h : Ready s) :
    exec (.commit false) s =
      .next (answered 0x16 (commitSheet (heard s)).2 (besideLink commitSheet s)) ∧
    exec (.commit true) s = .next (heard (besideLink commitSheet s)) := by
  have hl := commitSheet_link (heard s)
  have htake : hostBroadcast (takeBroadcastFrame 0x16 []) s = (commitSheet (heard s)).1 := by
    rw [hostBroadcast_listening ⟨h.1, h.2.1⟩]
    exact congrArg (fun l => (commitSheet { s with link := l }).1) (goodFrame_after h.1 h.2.1)
  rw [heard_besideLink hl, ← htake]
  exact ⟨congrArg _ (hostRequest_besideLink h 0x16 hl), rfl⟩

/-- R169, R170: a COMMIT whose operation gives `r` and changes `t` beside the Link Port. -/
theorem exec_commit_of {s t : State} {r : Reply} (h : Ready s)
    (ho : commitSheet (heard s) = (t, r)) :
    exec (.commit false) s = .next (answered 0x16 r { t with link := s.link }) ∧
    exec (.commit true) s = .next (heard { t with link := s.link }) := by
  have hexec := exec_commit h
  rw [besideLink, ho] at hexec
  exact hexec

/-! ## A sheet in force at once (R15, R21, R29, R73, R114) -/

/-- A swap as the sequencers and lanes take it does not turn on the Link Port and the sheets beside it. -/
theorem swapTaken_beside {new : Sheet} {fired : Cyl → Bool} {s t : State} (h : SwapTaken new fired s t)
    (l m : Link) (x y : Sheets) :
    SwapTaken new fired { s with link := l, sheets := x } { t with link := m, sheets := y } := h

/-- The part after a COMMIT that comes into force. -/
def inForceAt (s : State) : State :=
  { noteCommit ⟨.ok, 0, 255, some (nextGen s.sheets.lastGen s.sheets.active)⟩
      (swapTo (committed s) (assigned (heard s))) with link := s.link }

theorem inForceAt_taken (s : State) :
    SwapTaken (committed s) (swapFires s.sheets.staged.params s) s (inForceAt s) :=
  swapTaken_beside (swapTo_taken (committed s) (assigned (heard s))) s.link s.link s.sheets _

theorem inForceAt_sheets (s : State) : (inForceAt s).sheets = { s.sheets with
    active := some (committed s), pending := none,
    lastGen := nextGen s.sheets.lastGen s.sheets.active,
    lastCommit := some ⟨.ok, 0, 255, some (nextGen s.sheets.lastGen s.sheets.active)⟩ } := by
  simp only [inForceAt, noteCommit, swapTo_sheets]
  rfl

/-- What a COMMIT in force at once leaves beside what a swap moves. -/
theorem inForceAt_frame (s : State) :
    { inForceAt s with
      sheets := s.sheets, loop := s.loop, lane := s.lane, phase := s.phase, tracker := s.tracker,
      seq := s.seq, stopDwell := s.stopDwell, resume := s.resume } = s := by
  simp only [inForceAt, noteCommit, swapTo_frame]
  rfl

theorem inForceAt_phase (s : State) : (inForceAt s).phase =
    if newLength s.sheets.staged.params s then
      ⟨swappedPhase s.sheets.staged.params .f s.phase.f, swappedPhase s.sheets.staged.params .e s.phase.e⟩
    else s.phase := swapTo_phase (committed s) (assigned (heard s))

theorem inForceAt_tracker (s : State) : (inForceAt s).tracker =
    if s.sheets.active = none then
      (if s.tracker.state = .idle then
        if geometrySet s.items.geo then trackerTo .search s.tracker else s.tracker
      else if geometrySet s.items.geo then s.tracker else trackerTo .idle s.tracker)
    else if newLength s.sheets.staged.params s then trackerNewLength s.tracker else s.tracker :=
  swapTo_tracker (committed s) (assigned (heard s))

theorem newLength_eq (p : SheetParams) (s : State) :
    newLength p s = !s.sheets.active.any (·.params.lSub == p.lSub) := by
  unfold newLength
  cases s.sheets.active <;> rfl

theorem trackerNewLength_eq (x : Tracker) : trackerNewLength x = if x.state = .idle then x
    else { x with state := if x.state = .search then .search else .lost, k := 0 } := by
  unfold trackerNewLength
  split <;> rename_i h
  all_goals simp [h]

theorem geometrySet_iff (g : GeoItems) :
    geometrySet g = true ↔ ¬ (g.dF = 0 ∨ g.dFS = 0 ∨ g.dE = 0 ∨ g.dR = 0) := by
  simp [geometrySet, and_assoc]

/-- Settles O46: the checks one by one, then the operation's outcome in each state, addressed or broadcast. -/
theorem commitOutcomes : Obligations.CommitOutcomes := by
  intro s hready st g new both
  refine ⟨?_, fun hpass => ?_, nextGen_or _ _, nextGen_ne _ _, fun reason window h => ?_,
    fun a hpass ha hne hw => ?_, fun a hpass ha heq hw => ?_, fun hpass hforce => ?_⟩
  · intro p lc lowest some_ beyond unmapped crowded g m fits fails c1 c2 c3 c4 c5 c6 c7 c8 c9
    have heq := commitCheck_eq st s.items
    refine ⟨fun h => ?_, fun h1 h => ?_, fun h2 h => ?_, fun h3 h => ?_, fun h4 h => ?_,
      fun h5 i hi => commitCheck_beyond h5 hi,
      fun ⟨h5, hb⟩ i hi => commitCheck_unmapped h5 hb hi,
      fun ⟨⟨h5, hb⟩, hu⟩ l hl hlow i hi => commitCheck_crowded h5 hb hu hl hlow hi,
      fun ⟨⟨⟨h5, hb⟩, hu⟩, hc⟩ hF hE => (commitCheck_uses h5 hb hu hc).trans (useChecks_unused hF hE),
      fun ⟨⟨⟨⟨h5, hb⟩, hu⟩, hc⟩, huse⟩ hfit =>
        (commitCheck_uses h5 hb hu hc).trans ((useChecks_used huse).2 hfit),
      fun ⟨⟨⟨⟨h5, hb⟩, hu⟩, hc⟩, huse⟩ hfit =>
        (commitCheck_uses h5 hb hu hc).trans ((useChecks_used huse).1 hfit)⟩
    · exact heq.trans (if_pos h)
    · exact heq.trans ((if_neg h1).trans (if_pos h))
    · obtain ⟨h1, hF⟩ := h2
      exact heq.trans ((if_neg h1).trans ((if_neg (Nat.not_le.2 hF)).trans (if_pos h)))
    · obtain ⟨⟨h1, hF⟩, hE⟩ := h3
      exact heq.trans ((if_neg h1).trans ((if_neg (Nat.not_le.2 hF)).trans
        ((if_neg (Nat.not_le.2 hE)).trans (if_pos h))))
    · obtain ⟨⟨⟨h1, hF⟩, hE⟩, htF⟩ := h4
      exact heq.trans ((if_neg h1).trans ((if_neg (Nat.not_le.2 hF)).trans
        ((if_neg (Nat.not_le.2 hE)).trans ((if_neg (Nat.not_le.2 htF)).trans (if_pos h)))))
  · obtain ⟨⟨⟨⟨⟨hl, hF⟩, hE⟩, htF⟩, htE⟩, hbeyond, hunmapped, huses⟩ := within_of_pass hpass
    exact ⟨by omega, by omega, hF, hE, htF, htE, uses_of_pass huses, fun w hw hen =>
      ⟨Nat.not_lt.1 fun hb => hbeyond ⟨w, hw, hen, hb⟩, fun hu => hunmapped ⟨w, hw, hen, hu⟩⟩⟩
  · exact exec_commit_of hready (commitSheet_invalid (s := heard s) h)
  · have hrun := commitRunning_some (s := heard s) ha hw
    exact exec_commit_of hready (commitSheet_running (s := heard s) hpass (hrun.trans (bne_iff_ne.2 hne)))
  · have hrun := commitRunning_some (s := heard s) ha hw
    exact exec_commit_of hready (commitSheet_waits (s := heard s) hpass ha hw
      (hrun.trans (bne_eq_false_iff_eq.2 heq)))
  · refine ⟨inForceAt s, exec_commit_of hready (commitSheet_inForce (s := heard s) hpass hforce), ?_⟩
    have hphase := inForceAt_phase s
    have htracker := inForceAt_tracker s
    rw [newLength_eq] at hphase htracker
    refine ⟨inForceAt_sheets s, swapTo_loop (committed s) (assigned (heard s)), inForceAt_taken s,
      fun h => ?_, fun h c => ?_, fun ha hidle => ?_, fun a ha hne => ?_, inForceAt_frame s⟩
    · have hactive : s.sheets.active ≠ none := fun hn => by rw [hn] at h; cases h
      rw [h] at hphase htracker
      exact ⟨hphase, htracker.trans (if_neg hactive)⟩
    · rw [h] at hphase
      rw [hphase]
      cases c <;> rfl
    · rw [htracker, if_pos ha, if_pos hidle]
      by_cases hg : geometrySet s.items.geo = true
      · rw [if_pos hg, if_neg ((geometrySet_iff _).1 hg)]; rfl
      · rw [if_neg hg, if_pos (not_not.1 fun hn => hg ((geometrySet_iff _).2 hn))]
    · rw [htracker, ha, if_neg (by simp), Option.any_some, beq_eq_false_iff_ne.2 hne, trackerNewLength_eq]
      rfl

end Sys2Proof.Proofs
end

section
/-! What a step can do to the Mark Trackers, the Label Track, the sheets in force and waiting, and the items of
marks and geometry, said once: a predicate on these holds after every step if the few operations that reach
them keep it (`Persists`). -/
namespace Sys2Proof.Proofs

open Sys2Proof.Machine Sys2Proof.Safety

/-- The trackers, the track, the qualifiers, the sheets in force and waiting and the items of marks and geometry
stay. -/
structure SameMarks (s t : State) : Prop where
  tracker : t.tracker = s.tracker
  track : t.track = s.track
  qual : t.qual = s.qual
  active : t.sheets.active = s.sheets.active
  waiting : t.sheets.pending = s.sheets.pending
  geo : t.items.geo = s.items.geo
  mark : t.items.mark = s.items.mark

/-- `P` speaks of the marks alone, and is kept by the operations that reach them. -/
structure Persists (P : State → Prop) : Prop where
  same : ∀ {s t}, SameMarks s t → P s → P t
  forward : ∀ {s}, P s → P (forwardCount s)
  reverse : ∀ {s}, P s → P (reverseCount s)
  gate : ∀ {s}, P s → P (gateEnd s)
  index : ∀ {s} c, P s → P (indexArrival c s)
  rise : ∀ {s} x, P s → P (markRise x s)
  fall : ∀ {s} x, P s → P (markFall x s)
  pulse : ∀ {s} c, P s → P (emitPulse c s)
  mark : ∀ {s} i v, P s → P (writeMark i v s).1
  geo : ∀ {s} i v, P s → P (writeGeo i v s).1
  commit : ∀ {s}, P s → P (commitSheet s).1
  flush : ∀ {s}, P s → P (trackFlushReq s).1
  clear : ∀ {s}, P s → P (clearCounters s)
  runtime : ∀ {s}, P s → P (runtimeReset s)
  full : ∀ {s} p, P s → P (fullReset p s)

/-! ## What leaves the marks -/

@[simp] theorem setLevel_frame (x : Sensor) (b : Bool) (s : State) :
    (setLevel x b s).web = s.web ∧ (setLevel x b s).qual = s.qual ∧
    (setLevel x b s).tracker = s.tracker ∧ (setLevel x b s).track = s.track ∧
    (setLevel x b s).sheets = s.sheets ∧ (setLevel x b s).items = s.items := by
  cases x <;> simp [setLevel]

theorem sameMarks_refl (s : State) : SameMarks s s := ⟨rfl, rfl, rfl, rfl, rfl, rfl, rfl⟩

/-- An operation by what its frame lemma says. -/
theorem sameMarks_of_frame {s t : State}
    (h : t.tracker = s.tracker ∧ t.track = s.track ∧ t.qual = s.qual ∧ t.sheets = s.sheets ∧
      t.items = s.items) : SameMarks s t := by
  obtain ⟨htracker, htrack, hqual, hsheets, hitems⟩ := h
  exact ⟨htracker, htrack, hqual, by rw [hsheets], by rw [hsheets], by rw [hitems], by rw [hitems]⟩

theorem sameMarks_link (s : State) (l : Link) : SameMarks s { s with link := l } :=
  sameMarks_of_frame ⟨rfl, rfl, rfl, rfl, rfl⟩

theorem sameMarks_web (s : State) (x : Web) : SameMarks s { s with web := x } :=
  sameMarks_of_frame ⟨rfl, rfl, rfl, rfl, rfl⟩

theorem sameMarks_queue (s : State) (q : List Instr) : SameMarks s { s with pending := q } :=
  sameMarks_of_frame ⟨rfl, rfl, rfl, rfl, rfl⟩

theorem sameMarks_setLane (l : Lane) (x : LaneCtl) (s : State) : SameMarks s (s.setLane l x) :=
  sameMarks_of_frame (by simp)

theorem sameMarks_setLoop (c : Cyl) (x : Loop) (s : State) : SameMarks s (s.setLoop c x) :=
  sameMarks_of_frame (by simp)

theorem sameMarks_stepTimeEnd (c : Cyl) (s : State) : SameMarks s (stepTimeEnd c s) := by
  unfold stepTimeEnd
  dsimp only
  split <;> exact sameMarks_of_frame (by simp)

theorem sameMarks_engageExpiry (c : Cyl) (s : State) : SameMarks s (engageExpiry c s) := by
  unfold engageExpiry engageTimeout stopDwellOf
  dsimp only
  (repeat' split) <;> exact sameMarks_of_frame (by simp)

theorem sameMarks_releaseExpiry (c : Cyl) (s : State) : SameMarks s (releaseExpiry c s) := by
  unfold releaseExpiry releaseTimeout
  split <;> exact sameMarks_of_frame (by simp)

theorem sameMarks_stopDwellExpiry (s : State) : SameMarks s (stopDwellExpiry s) := by
  unfold stopDwellExpiry
  split <;> exact sameMarks_of_frame (by simp)

theorem sameMarks_checkExpiry (l : Lane) (s : State) : SameMarks s (checkExpiry l s) := by
  unfold checkExpiry checkStep
  dsimp only
  (repeat' split) <;> exact sameMarks_of_frame (by simp)

theorem sameMarks_beginReply (s : State) : SameMarks s (beginReply s) := by
  unfold beginReply
  split
  · exact sameMarks_link s _
  · exact sameMarks_refl s

theorem sameMarks_frameCutOff (cause : CutCause) (s : State) : SameMarks s (frameCutOff cause s) := by
  unfold frameCutOff
  dsimp only
  (repeat' split)
  · exact sameMarks_refl s
  all_goals exact sameMarks_link s _

theorem sameMarks_overlap (s : State) : SameMarks s (overlap s) := by
  unfold overlap
  split
  · exact sameMarks_link s _
  · exact sameMarks_refl s

theorem sameMarks_tick (s : State) : SameMarks s (tick s) := sameMarks_of_frame ⟨rfl, rfl, rfl, rfl, rfl⟩

theorem markItems_ext {x y : Items} (h : ∀ m, itemValue y (.mark m) = itemValue x (.mark m)) :
    y.mark = x.mark := by
  have hmin := h .printWidthMin
  have hmax := h .printWidthMax
  have hgP := h .printGate
  have hacquire := h .acquireCount
  have hcoast := h .coastLimit
  have hfmin := h .foilWidthMin
  have hfmax := h .foilWidthMax
  have hgF := h .foilGate
  cases hx : x.mark
  cases hy : y.mark
  simp_all [itemValue, markValue]

theorem geoItems_ext {x y : Items} (h : ∀ g, itemValue y (.geo g) = itemValue x (.geo g)) :
    y.geo = x.geo := by
  have hF := h .dF
  have hFS := h .dFS
  have hE := h .dE
  have hR := h .dR
  have hwidth := h .markerWidth
  cases hx : x.geo
  cases hy : y.geo
  simp_all [itemValue, geoValue]

/-- R179: an item of no mark and no distance, written, leaves the marks. -/
theorem sameMarks_writeItem {i : Item} (hm : ∀ m, i ≠ .mark m) (hg : ∀ g, i ≠ .geo g) (v : Nat)
    (s : State) : SameMarks s (writeItem i v s).1 := by
  rcases writeItem_taken_or_same i v s with ⟨-, hput, hblock⟩ | h
  · obtain ⟨-, htrack, hsheets, -, -, -, -, hqual⟩ := hblock.rest
    have htracker := hblock.tracker
    unfold TrackerWritten at htracker
    refine ⟨?_, htrack, hqual, by rw [hsheets], by rw [hsheets],
      geoItems_ext fun g => hput.2 _ (hg g).symm, markItems_ext fun m => hput.2 _ (hm m).symm⟩
    split at htracker
    · exact absurd rfl (hm _)
    · exact absurd rfl (hg _)
    · exact htracker
  · rw [h]; exact sameMarks_refl s

theorem sameMarks_noteWrite (r : Result) (s : State) : SameMarks s (noteWrite r s) := by
  unfold noteWrite
  split
  · exact sameMarks_of_frame ⟨rfl, rfl, rfl, rfl, rfl⟩
  · exact sameMarks_refl s

theorem sameMarks_disengageCyls (cs : List Cyl) (s : State) :
    SameMarks s (cs.foldl (fun s c => disengageCyl c s) s) := by
  refine sameMarks_of_frame ?_
  induction cs generalizing s with
  | nil => simp
  | cons c cs ih =>
    obtain ⟨htracker, htrack, hqual, hsheets, hitems⟩ := ih (disengageCyl c s)
    simp only [List.foldl_cons, htracker, htrack, hqual, hsheets, hitems]
    simp [disengageCyl]

/-- R97 to R105: the staged sheet alone is edited. -/
theorem sameMarks_staged (s : State) (x : Staged) :
    SameMarks s { s with sheets := { s.sheets with staged := x } } := ⟨rfl, rfl, rfl, rfl, rfl, rfl, rfl⟩

theorem sameMarks_storeCurve (l : Lane) (as : List Nat) (s : State) : SameMarks s (storeCurve l as s) := by
  unfold storeCurve
  constructor <;> simp

/-! ## The operations of the requests -/

/-- What the Request Decoder may hand a frame to (R169, R177): a request that changes nothing, or one of the
requests that may. -/
inductive RequestOp : (State → State × Reply) → Prop
  | reads {op : State → State × Reply} : (∀ s, (op s).1 = s) → RequestOp op
  | write (i : Item) (v : Nat) : RequestOp (configWriteWith i (writeItem i v))
  | writeNumber (n : Byte) (v : BitVec 32) : RequestOp (configWriteNumber n v)
  | curve (l : Byte) (as : List (BitVec 16)) : RequestOp (curveWriteReq l as)
  | params (l f e : BitVec 24) (p q : BitVec 16) (u r : Byte) : RequestOp (sheetParamWrite l f e p q u r)
  | windows (i : Byte) (es : List WindowBytes) : RequestOp (windowWrite i es)
  | edit (lc tc ec m nl nt ne : Byte) (d : BitVec 16) : RequestOp (windowEdit lc tc ec m nl nt ne d)
  | copyBack : RequestOp sheetCopyBack
  | clearSheet : RequestOp sheetClear
  | commit : RequestOp commitSheet
  | engage (c : Byte) : RequestOp (engageReq c)
  | disengage (b : Byte) : RequestOp (disengageReq b)
  | loopMode (c m : Byte) : RequestOp (loopModeReq c m)
  | nudge (c : Byte) (d : BitVec 16) : RequestOp (nudgeReq c d)
  | trimMove (c : Byte) (d : BitVec 16) : RequestOp (trimMoveReq c d)
  | trimZero (c : Byte) : RequestOp (trimZeroReq c)
  | park (l : Byte) : RequestOp (lanePark l)
  | release (l : Byte) : RequestOp (laneRelease l)
  | roll (l : Byte) (n : BitVec 32) : RequestOp (rollLoad l n)
  | check (l : Byte) : RequestOp (laneCheck l)
  | flush : RequestOp trackFlushReq
  | clearFaults (codes : BitVec 16) (option : Byte) : RequestOp (faultClearReq codes option)
  | clearCounters : RequestOp countersClearReq
  | restart (l : Byte) : RequestOp (restartReq l)

theorem withLane_reads {b : Byte} {n : Nat} {g : Lane → State → State × Reply}
    (h : ∀ l s, (g l s).1 = s) (s : State) : (withLane b n g s).1 = s := by
  unfold withLane
  split
  · exact h _ s
  · rfl

theorem withCyl_reads {b : Byte} {n : Nat} {g : Cyl → State → State × Reply}
    (h : ∀ c s, (g c s).1 = s) (s : State) : (withCyl b n g s).1 = s := by
  unfold withCyl
  split
  · exact h _ s
  · rfl

theorem requestOp_badLength : RequestOp badLength := .reads fun _ => rfl

theorem requestOp_configRead (n : Byte) : RequestOp (configReadNumber n) :=
  .reads fun s => by unfold configReadNumber; split <;> rfl

theorem requestOp_curveRead (l : Byte) : RequestOp (curveReadReq l) :=
  .reads (withLane_reads fun _ _ => rfl)

theorem requestOp_windowRead (t i n : Byte) : RequestOp (windowRead t i n) :=
  .reads fun s => by unfold windowRead; dsimp only; (repeat' split) <;> rfl

theorem requestOp_paramRead (x : Byte) : RequestOp (sheetParamRead x) :=
  .reads fun s => by unfold sheetParamRead; (repeat' split) <;> rfl

theorem requestOp_loopRead (c : Byte) : RequestOp (loopReadReq c) :=
  .reads (withCyl_reads fun _ _ => rfl)

theorem requestOp_laneRead (l : Byte) : RequestOp (laneReadReq l) :=
  .reads (withLane_reads fun _ _ => rfl)

theorem requestOp_trackRead (x : Byte) (n : BitVec 16) (k : Byte) : RequestOp (trackReadReq x n k) :=
  .reads fun s => by unfold trackReadReq; split <;> rfl

/-- R169, R177: a frame of a kind of the catalogue reaches its operation, or is of another length. -/
theorem requestOp_requestOf (kind : Nat) (body : List Byte) : RequestOp (requestOf kind body) := by
  have hlen := requestOp_badLength
  cases hk : requestOf.knownKind kind with
  | false => rw [requestOf_unknown hk]; exact .reads fun _ => rfl
  | true =>
    simp only [requestOf.knownKind, List.contains_eq_mem, List.mem_cons, List.not_mem_nil, or_false,
      decide_eq_true_eq] at hk
    rcases hk with rfl | rfl | rfl | rfl | rfl | rfl | rfl | rfl | rfl | rfl | rfl | rfl | rfl |
      rfl | rfl | rfl | rfl | rfl | rfl | rfl | rfl | rfl | rfl | rfl | rfl | rfl | rfl | rfl | rfl |
      rfl | rfl | rfl
    case inr.inr.inr.inl =>
      rcases body with _ | ⟨b, rest⟩
      · exact hlen
      · change RequestOp (match words16 rest with
          | some x => curveWriteReq b x
          | none => badLength)
        split
        exacts [.curve _ _, hlen]
    case inr.inr.inr.inr.inr.inr.inl =>
      rcases body with _ | ⟨b, rest⟩
      · exact hlen
      · change RequestOp (match windowEntries rest with
          | some x => windowWrite b x
          | none => badLength)
        split
        exacts [.windows _ _, hlen]
    all_goals
      rcases body with _ | ⟨_, _ | ⟨_, _ | ⟨_, _ | ⟨_, _ | ⟨_, _ | ⟨_, _ | ⟨_, _ | ⟨_, _ | ⟨_, _ |
        ⟨_, _ | ⟨_, _ | ⟨_, _ | ⟨_, _ | ⟨_, _ | ⟨_, _ | ⟨_, _⟩⟩⟩⟩⟩⟩⟩⟩⟩⟩⟩⟩⟩⟩⟩⟩ <;> try exact hlen
    · exact .reads fun _ => rfl
    · exact .writeNumber _ _
    · exact requestOp_configRead _
    · exact requestOp_curveRead _
    · exact .params _ _ _ _ _ _ _
    · exact requestOp_windowRead _ _ _
    · exact .edit _ _ _ _ _ _ _ _
    · exact .copyBack
    · exact .clearSheet
    · exact .commit
    · exact requestOp_paramRead _
    · exact .engage _
    · exact .disengage _
    · exact .loopMode _ _
    · exact .nudge _ _
    · exact .trimMove _ _
    · exact .trimZero _
    · exact requestOp_loopRead _
    · exact .park _
    · exact .release _
    · exact .roll _ _
    · exact .check _
    · exact requestOp_laneRead _
    · exact requestOp_trackRead _ _ _
    · exact .flush
    · exact .reads fun _ => rfl
    · exact .clearFaults _ _
    · exact .reads fun _ => rfl
    · exact .clearCounters
    · exact .restart _

end Sys2Proof.Proofs
end

section
/-! Every command and every tick keeps what `Persists` says is kept. -/
namespace Sys2Proof.Proofs

open Sys2Proof.Machine Sys2Proof.Safety

section
variable {P : State → Prop} (h : Persists P) {s : State}
include h

/-! ## The operations of the requests (10.2 to 10.7) -/

theorem persists_link (l : Link) (hs : P s) : P { s with link := l } := h.same (sameMarks_link s l) hs

theorem persists_writeItem (i : Item) (v : Nat) (hs : P s) : P (writeItem i v s).1 := by
  by_cases hm : ∃ m, i = .mark m
  · obtain ⟨m, rfl⟩ := hm
    exact h.mark m v hs
  by_cases hg : ∃ g, i = .geo g
  · obtain ⟨g, rfl⟩ := hg
    exact h.geo g v hs
  exact h.same (sameMarks_writeItem (not_exists.1 hm) (not_exists.1 hg) v s) hs

theorem persists_configWrite (i : Item) (v : Nat) (hs : P s) :
    P (configWriteWith i (writeItem i v) s).1 :=
  h.same (sameMarks_noteWrite _ _) (persists_writeItem h i v hs)

omit h in
theorem persists_withLane {b : Byte} {n : Nat} {g : Lane → State → State × Reply}
    (hg : ∀ l, P (g l s).1) (hs : P s) : P (withLane b n g s).1 := by
  unfold withLane
  split
  · exact hg _
  · exact hs

omit h in
theorem persists_withCyl {b : Byte} {n : Nat} {g : Cyl → State → State × Reply}
    (hg : ∀ c, P (g c s).1) (hs : P s) : P (withCyl b n g s).1 := by
  unfold withCyl
  split
  · exact hg _
  · exact hs

theorem persists_trimChanged (c : Cyl) (hs : P s) : P (trimChanged c s) := by
  unfold trimChanged
  dsimp only
  (repeat' split)
  · exact hs
  · exact h.pulse c hs
  · exact h.same (sameMarks_of_frame (by simp)) hs
  · exact h.same (sameMarks_of_frame (by simp)) hs
  · exact hs

/-- R169: what any request does. -/
theorem persists_requestOp {op : State → State × Reply} (hop : RequestOp op) (hs : P s) :
    P (op s).1 := by
  cases hop with
  | reads hread => rw [hread]; exact hs
  | write i v => exact persists_configWrite h i v hs
  | writeNumber n v =>
    unfold configWriteNumber
    split
    · exact persists_configWrite h _ _ hs
    · exact hs
  | curve l as =>
    unfold curveWriteReq
    split
    · exact hs
    · refine persists_withLane (fun l => ?_) hs
      dsimp only
      split
      · exact h.same (sameMarks_noteWrite .ok _) (h.same (sameMarks_storeCurve l _ s) hs)
      · exact hs
  | params =>
    unfold sheetParamWrite
    split
    · exact h.same (sameMarks_staged s _) hs
    · exact hs
  | windows =>
    unfold windowWrite
    (repeat' split)
    · exact hs
    · exact hs
    · exact h.same (sameMarks_staged s _) hs
  | edit =>
    unfold windowEdit
    split
    · exact hs
    · exact h.same (sameMarks_staged s _) hs
  | copyBack =>
    unfold sheetCopyBack
    split
    · exact h.same (sameMarks_staged s _) hs
    · exact hs
  | clearSheet => exact h.same (sameMarks_staged s _) hs
  | commit => exact h.commit hs
  | engage => exact persists_withCyl (fun c => h.same (sameMarks_of_frame (by simp)) hs) hs
  | disengage =>
    unfold disengageReq
    split
    · exact hs
    · exact h.same (sameMarks_disengageCyls _ s) hs
  | loopMode =>
    refine persists_withCyl (fun c => ?_) hs
    dsimp only
    (repeat' split)
    · exact hs
    · exact hs
    · exact h.same (sameMarks_setLoop c _ s) hs
  | nudge => exact persists_withCyl (fun c => h.same (sameMarks_setLoop c _ s) hs) hs
  | trimMove =>
    exact persists_withCyl (fun c => persists_trimChanged h c (h.same (sameMarks_setLoop c _ s) hs)) hs
  | trimZero =>
    refine persists_withCyl (fun c => ?_) hs
    dsimp only
    split
    · exact h.same (sameMarks_setLoop c _ s) hs
    · exact hs
  | park => exact persists_withLane (fun l => h.same (sameMarks_setLane l _ s) hs) hs
  | release => exact persists_withLane (fun l => h.same (sameMarks_setLane l _ s) hs) hs
  | roll =>
    refine persists_withLane (fun l => ?_) hs
    dsimp only
    split
    all_goals first | exact hs | exact h.same (sameMarks_setLane l _ s) hs
  | check =>
    refine persists_withLane (fun l => ?_) hs
    dsimp only
    split
    · exact h.same (sameMarks_setLane l _ s) hs
    · exact hs
  | flush => exact h.flush hs
  | clearFaults =>
    unfold faultClearReq
    split
    · exact hs
    · exact h.same (sameMarks_of_frame (by simp [clearFaults])) hs
  | clearCounters => exact h.clear hs
  | restart =>
    unfold restartReq
    (repeat' split)
    · exact persists_link h _ hs
    · exact persists_link h _ hs
    · exact hs

/-! ## The Link Port (9.1 to 9.5) -/

theorem persists_takeAddressed {op : State → State × Reply} (hop : RequestOp op) (kind : Nat)
    (hs : P s) : P (takeAddressed kind op s) :=
  persists_link h _ (persists_requestOp h hop (persists_link h _ hs))

theorem persists_takeBroadcastFrame (kind : Nat) (body : List Byte) (hs : P s) :
    P (takeBroadcastFrame kind body s) := by
  have htake {op : State → State × Reply} (hop : RequestOp op) : P (takeBroadcast op s) :=
    persists_requestOp h hop (persists_link h _ hs)
  unfold takeBroadcastFrame
  (repeat' split)
  · exact htake .commit
  · exact htake (.disengage _)
  · exact persists_link h _ hs
  · exact persists_link h _ hs

theorem persists_endFrame (lo hi : Byte) (hs : P s) : P (endFrame lo hi s) := by
  unfold endFrame
  dsimp only
  (repeat' split)
  · exact persists_takeAddressed h (requestOp_requestOf _ _) _ hs
  · exact persists_takeBroadcastFrame h _ _ hs
  · exact persists_link h _ hs

theorem persists_receive (b : Byte) (err : Bool) (hs : P s) : P (receive b err s) := by
  unfold receive
  dsimp only
  (repeat' split)
  all_goals first | exact hs | exact persists_link h _ hs | exact persists_endFrame h _ _ hs

theorem persists_takeChar (b : Byte) (parity stop : Bool) (hs : P s) : P (takeChar b parity stop s) := by
  unfold takeChar
  (repeat' split)
  · exact hs
  · exact persists_link h _ hs
  · exact persists_receive h b _ (persists_link h _ hs)

theorem persists_takeFrame (dest kind : Byte) (body : List Byte) (check : BitVec 16) (hs : P s) :
    P (takeFrame dest kind body check s) := by
  have hfold (bs : List Byte) {t : State} (ht : P t) :
      P (bs.foldl (fun s b => takeChar b (evenParity b) true s) t) := by
    induction bs generalizing t with
    | nil => exact ht
    | cons b bs ih => exact ih (persists_takeChar h b _ true ht)
  exact hfold _ (persists_link h _ hs)

theorem persists_hostRequest (kind : Nat) {op : State → State × Reply} (hop : RequestOp op) (hs : P s) :
    P (hostRequest kind op s) := by
  unfold hostRequest
  dsimp only
  (repeat' split)
  · exact hs
  · exact persists_link h _ hs
  · exact persists_link h _ hs
  · exact persists_takeAddressed h hop kind (persists_link h _ hs)

theorem persists_hostBroadcast (kind : Nat) (body : List Byte) (hs : P s) :
    P (hostBroadcast (takeBroadcastFrame kind body) s) := by
  unfold hostBroadcast
  (repeat' split)
  · exact hs
  · exact persists_link h _ hs
  · exact persists_takeBroadcastFrame h kind body (persists_link h _ hs)

theorem persists_characterReceived (d : RxData) (parity stop : Bool) (hs : P s) :
    P (characterReceived d parity stop s) := by
  cases d with
  | startBit => exact persists_link h _ hs
  | lineHigh => exact persists_link h _ hs
  | byte b => exact persists_takeChar h b parity stop hs

theorem persists_replyEnd (adr : BitVec 5) (bdr : BitVec 2) (hs : P s) : P (replyEnd adr bdr s) := by
  unfold replyEnd
  split
  · have hend : P (endReply s) := persists_link h _ hs
    cases s.link.restart with
    | none => exact hend
    | some level =>
      cases level with
      | runtime => exact h.runtime hend
      | full => exact h.full _ hend
  · exact hs

/-! ## Commands and ticks -/

theorem persists_encoderTransition (a b : Bool) (hs : P s) : P (encoderTransition a b s) := by
  have href : P (setReference a b s) := h.same (sameMarks_web s _) hs
  unfold encoderTransition
  dsimp only
  split
  · exact href
  · exact h.forward href
  · exact h.reverse href
  · exact h.same (sameMarks_web _ _) href

theorem persists_spaceEnd (c : Cyl) (hs : P s) : P (spaceEnd c s) := by
  unfold spaceEnd
  dsimp only
  (repeat' split)
  · exact h.same (sameMarks_of_frame (by simp)) hs
  · exact h.pulse c (h.same (sameMarks_of_frame (by simp)) hs)
  · exact hs

/-- A request as one command. -/
theorem persists_exec_request {i : Instr} {kind : Nat} {op : State → State × Reply}
    (he : exec i s = .next (hostRequest kind op s)) (hop : RequestOp op) (hs : P s) :
    ∃ u, exec i s = .next u ∧ P u := ⟨_, he, persists_hostRequest h kind hop hs⟩

theorem persists_exec (i : Instr) (hs : P s) : ∃ t, exec i s = .next t ∧ P t := by
  have hwrite (i : Item) (v : BitVec 32) : ∃ t, exec (writeRow i v) s = .next t ∧ P t :=
    persists_exec_request h (exec_writeRow i v s) (.write i _) hs
  cases i with
  | encoderTransition a b => exact ⟨_, rfl, persists_encoderTransition h a b hs⟩
  | speedGateEnd => exact ⟨_, rfl, h.gate hs⟩
  | indexArrival c => exact ⟨_, rfl, h.index c hs⟩
  | markLeadingEdge x => exact ⟨_, rfl, h.rise x hs⟩
  | markTrailingEdge x => exact ⟨_, rfl, h.fall x hs⟩
  | spaceEnd c => exact ⟨_, rfl, persists_spaceEnd h c hs⟩
  | stepTimeEnd c => exact ⟨_, rfl, h.same (sameMarks_stepTimeEnd c s) hs⟩
  | confirmRise x => exact ⟨_, rfl, h.same (sameMarks_of_frame (by simp)) hs⟩
  | confirmFall x => exact ⟨_, rfl, h.same (sameMarks_of_frame (by simp)) hs⟩
  | engageTimerExpiry c => exact ⟨_, rfl, h.same (sameMarks_engageExpiry c s) hs⟩
  | releaseTimerExpiry c => exact ⟨_, rfl, h.same (sameMarks_releaseExpiry c s) hs⟩
  | stopDwellExpiry => exact ⟨_, rfl, h.same (sameMarks_stopDwellExpiry s) hs⟩
  | motionPulse l => exact ⟨_, rfl, h.same (sameMarks_setLane l _ s) hs⟩
  | checkTimerExpiry l => exact ⟨_, rfl, h.same (sameMarks_checkExpiry l s) hs⟩
  | idleGap => exact ⟨_, rfl, persists_link h _ hs⟩
  | frameReceived d k b c => exact ⟨_, rfl, persists_takeFrame h d k b c hs⟩
  | frameCutOff cause => exact ⟨_, rfl, h.same (sameMarks_frameCutOff cause s) hs⟩
  | overlap => exact ⟨_, rfl, h.same (sameMarks_overlap s) hs⟩
  | replyWaitEnd => exact ⟨_, rfl, h.same (sameMarks_beginReply s) hs⟩
  | replyEnd adr bdr => exact ⟨_, rfl, persists_replyEnd h adr bdr hs⟩
  | resetInput p => exact ⟨_, rfl, h.full p hs⟩
  | powerOn p => exact ⟨_, rfl, h.full p hs⟩
  | statusRead => exact persists_exec_request h rfl (.reads fun _ => rfl) hs
  | configWrite n v => exact persists_exec_request h rfl (.writeNumber n v) hs
  | webTimingConfigWrite i v => exact hwrite (.web i) v
  | indexConfigWrite i c v => exact hwrite (.index i c) v
  | markConfigWrite i v => exact hwrite (.mark i) v
  | geometryWrite i v => exact hwrite (.geo i) v
  | rejectMaskWrite v => exact hwrite .rejectMask v
  | loopConfigWrite i c v => exact hwrite (.loop i c) v
  | trimIntervalWrite v => exact hwrite .trimInterval v
  | actuationConfigWrite i v => exact hwrite (.act i) v
  | driveMappingWrite l v => exact hwrite (.mapping l) v
  | laneConfigWrite i l v => exact hwrite (.lane i l) v
  | freezeOnFirstWrite v => exact hwrite .freezeOnFirst v
  | alarmMaskWrite v => exact hwrite .alarmMask v
  | configRead n => exact persists_exec_request h rfl (requestOp_configRead n) hs
  | curveWrite l as => exact persists_exec_request h rfl (.curve l as) hs
  | curveRead l => exact persists_exec_request h rfl (requestOp_curveRead l) hs
  | sheetParamWrite l f e p q u r => exact persists_exec_request h rfl (.params l f e p q u r) hs
  | windowWrite i es => exact persists_exec_request h rfl (.windows i es) hs
  | windowRead t i n => exact persists_exec_request h rfl (requestOp_windowRead t i n) hs
  | windowEdit lc tc ec m nl nt ne d => exact persists_exec_request h rfl (.edit lc tc ec m nl nt ne d) hs
  | sheetCopyBack => exact persists_exec_request h rfl .copyBack hs
  | sheetClear => exact persists_exec_request h rfl .clearSheet hs
  | commit broadcast =>
    cases broadcast with
    | true => exact ⟨_, rfl, persists_hostBroadcast h 0x16 [] hs⟩
    | false => exact persists_exec_request h rfl .commit hs
  | sheetParamRead x => exact persists_exec_request h rfl (requestOp_paramRead x) hs
  | engage c => exact persists_exec_request h rfl (.engage c) hs
  | disengage set broadcast =>
    cases broadcast with
    | true => exact ⟨_, rfl, persists_hostBroadcast h 0x21 [set] hs⟩
    | false => exact persists_exec_request h rfl (.disengage set) hs
  | loopMode c m => exact persists_exec_request h rfl (.loopMode c m) hs
  | nudge c d => exact persists_exec_request h rfl (.nudge c d) hs
  | trimMove c d => exact persists_exec_request h rfl (.trimMove c d) hs
  | trimZero c => exact persists_exec_request h rfl (.trimZero c) hs
  | loopRead c => exact persists_exec_request h rfl (requestOp_loopRead c) hs
  | lanePark l => exact persists_exec_request h rfl (.park l) hs
  | laneRelease l => exact persists_exec_request h rfl (.release l) hs
  | rollLoad l n => exact persists_exec_request h rfl (.roll l n) hs
  | laneCheck l => exact persists_exec_request h rfl (.check l) hs
  | laneRead l => exact persists_exec_request h rfl (requestOp_laneRead l) hs
  | trackRead x n k => exact persists_exec_request h rfl (requestOp_trackRead x n k) hs
  | trackFlush => exact persists_exec_request h rfl .flush hs
  | faultRead => exact persists_exec_request h rfl (.reads fun _ => rfl) hs
  | faultClear codes option => exact persists_exec_request h rfl (.clearFaults codes option) hs
  | countersRead => exact persists_exec_request h rfl (.reads fun _ => rfl) hs
  | countersClear => exact persists_exec_request h rfl .clearCounters hs
  | restart l => exact persists_exec_request h rfl (.restart l) hs
  | characterReceived d parity stop => exact ⟨_, rfl, persists_characterReceived h d parity stop hs⟩

/-- A step, on a waiting command or on an empty queue. -/
theorem persists_step {t : State} (hstep : step s = .next t) (hs : P s) : P t := by
  unfold step at hstep
  split at hstep
  · next i rest _ =>
    obtain ⟨u, hu, hPu⟩ := persists_exec h i (h.same (sameMarks_queue s rest) hs)
    exact Host.Outcome.next.inj (hu.symm.trans hstep) ▸ hPu
  · exact Host.Outcome.next.inj hstep ▸ h.same (sameMarks_tick s) hs

end

end Sys2Proof.Proofs
end

section
/-! The geometry constraints hold after every step (R32, R49, R50, R107). -/
namespace Sys2Proof.Proofs

open Sys2Proof.Machine Sys2Proof.Safety

/-- R32, R50: the invariant is what a write tests. -/
theorem geometrySound_iff {s : State} : GeometrySound s ↔
    s.items.mark.pwMin ≤ s.items.mark.pwMax ∧ s.items.mark.fwMin ≤ s.items.mark.fwMax ∧
      constraintsOk s.items.geo s.items.mark s.active? = true := by
  have hsheet : constraintsOk s.items.geo s.items.mark s.active? = true ↔
      spacingOk s.items.geo s.items.mark = true ∧ ∀ sh, s.sheets.active = some sh →
        lengthOk s.items.geo s.items.mark (sh.params.lSub / 256) = true := by
    unfold constraintsOk State.active? lcOf
    cases s.sheets.active <;> simp
  rw [hsheet]
  simp only [GeometrySound, spacingOk, lengthOk, Bool.and_eq_true, ifSet_one, ifSet_two,
    decide_eq_true_eq, and_assoc]
  refine and_congr_right fun _ => and_congr_right fun _ => ?_
  constructor
  · rintro ⟨hP, hF, hSE, hSR, hER, hsh⟩
    exact ⟨fun h => (hF h).2.1, fun h => (hF h).2.2.1, fun h => (hF h).2.2.2,
      fun h k => by have := hSE h k; omega, hSR, hER, fun h => (hF h).1,
      fun k h => by have := hSE h k; omega, hP, hsh⟩
  · rintro ⟨hFS, hFE, hFR, hSE, hSR, hER, hPF, hES, hP, hsh⟩
    exact ⟨hP, fun h => ⟨hPF h, hFS h, hFE h, hFR h⟩, fun h k => by have := hES k h; omega,
      hSR, hER, hsh⟩

/-- The constraints hold, and a sheet that waits has the length of the one in force. -/
def Fitted (s : State) : Prop :=
  GeometrySound s ∧ ∀ p, s.sheets.pending = some p →
    ∃ a, s.sheets.active = some a ∧ a.params.lSub = p.params.lSub

theorem fitted_of_pendingSound {s : State} (hp : PendingSound s) (hg : GeometrySound s) : Fitted s := by
  refine ⟨hg, fun p hw => ?_⟩
  obtain ⟨-, -, a, ha, -, hlen⟩ := hp.1 p hw
  exact ⟨a, ha, hlen⟩

/-- R50: the constraints with the length of a sheet turn on its length alone. -/
theorem geometrySound_of_length {s t : State} (hg : GeometrySound s) (hgeo : t.items.geo = s.items.geo)
    (hmark : t.items.mark = s.items.mark) (hlen : ∀ b, t.sheets.active = some b →
      ∃ a, s.sheets.active = some a ∧ a.params.lSub = b.params.lSub) : GeometrySound t := by
  obtain ⟨hpw, hfw, hP, hF, hSE, hSR, hER, hsheet⟩ := hg
  unfold GeometrySound
  rw [hgeo, hmark]
  refine ⟨hpw, hfw, hP, hF, hSE, hSR, hER, fun b hb => ?_⟩
  obtain ⟨a, ha, hab⟩ := hlen b hb
  exact hab ▸ hsheet a ha

theorem fitted_of_eq {s t : State} (h : Fitted s) (hgeo : t.items.geo = s.items.geo)
    (hmark : t.items.mark = s.items.mark) (hactive : t.sheets.active = s.sheets.active)
    (hwaits : t.sheets.pending = s.sheets.pending ∨ t.sheets.pending = none) : Fitted t := by
  refine ⟨geometrySound_of_length h.1 hgeo hmark fun b hb => ⟨b, hactive ▸ hb, rfl⟩, fun p hp => ?_⟩
  rcases hwaits with hw | hw
  · rw [hactive]
    exact h.2 p (hw ▸ hp)
  · rw [hw] at hp
    cases hp

theorem fitted_of_frame {s t : State} (h : Fitted s) (hf : t.sheets = s.sheets ∧ t.items = s.items) :
    Fitted t :=
  fitted_of_eq h (by rw [hf.2]) (by rw [hf.2]) (by rw [hf.1]) (.inl (by rw [hf.1]))

/-! ## Swaps, phase steps and counts -/

/-- R107, R114: the sheet that waited comes into force with the length that was in force. -/
theorem fitted_swapPending {s : State} (h : Fitted s) : Fitted (swapPending s) := by
  cases hp : s.sheets.pending with
  | none => rw [swapPending_none hp]; exact h
  | some p =>
    rw [swapPending_some hp]
    refine ⟨geometrySound_of_length h.1 (by simp) (by simp) fun b hb => ?_, fun q hq => ?_⟩
    · obtain rfl : p = b := by simpa using hb
      exact h.2 p hp
    · simp at hq

theorem fitted_handStep {s : State} (c : Cyl) (o : PhaseOut) (h : Fitted s) : Fitted (handStep c o s) := by
  have hbound : Fitted (if o.boundary then handBoundary c s else s) := by
    split
    · cases c with
      | f => exact fitted_of_frame (fitted_swapPending h) (by simp [handBoundary])
      | e => exact h
    · exact h
  rw [handStep_eq]
  exact fitted_of_frame hbound (by simp)

theorem fitted_stepPhase {s : State} (d : TrimDir) (c : Cyl) (h : Fitted s) :
    Fitted (stepPhase d c s) := by
  unfold stepPhase
  split
  · exact fitted_handStep c _ (fitted_of_frame h (by simp))
  · exact h

theorem fitted_stepBoth {s : State} (d : TrimDir) (h : Fitted s) : Fitted (stepBoth d s) := by
  unfold stepBoth
  split
  · exact fitted_handStep .e _ (fitted_handStep .f _ (fitted_of_frame h ⟨rfl, rfl⟩))
  · exact h

theorem carries_fitted : Carries (fun _ => True) Fitted where
  aside ha h := fitted_of_frame h ⟨ha.sheets, ha.items⟩
  pulse d c _ h := fitted_stepPhase d c h

/-- R2: W moved and the phases stepped. -/
theorem fitted_counted {s : State} (dir : Direction) (d : TrimDir) (h : Fitted s) :
    Fitted (publish (stepBoth d { s with web := moveWeb dir s.web })) :=
  fitted_of_frame (fitted_stepBoth d (fitted_of_frame (t := { s with web := moveWeb dir s.web }) h
    ⟨rfl, rfl⟩)) (by simp)

theorem fitted_forwardCount {s : State} (h : Fitted s) : Fitted (forwardCount s) := by
  have hquals := carries_qualForward carries_fitted trivial .foil (carries_qualForward carries_fitted
    trivial .print (carries_serveStations carries_fitted trivial trivial (fitted_counted .forward .advance h)))
  exact fitted_of_frame hquals (by simp [forwardCount])

theorem fitted_reverseCount {s : State} (h : Fitted s) : Fitted (reverseCount s) := by
  have hquals := carries_qualReverse carries_fitted trivial .foil (carries_qualReverse carries_fitted
    trivial .print (fitted_counted .reverse .retard h))
  exact fitted_of_frame hquals (by simp [reverseCount])

theorem fitted_gateEnd {s : State} (h : Fitted s) : Fitted (gateEnd s) := by
  have hseqs (b : Bool) : Fitted (gateEndSeqs b { s.reachTime s.web.gateEnd with
      web := gateWeb s.items.web s.web }) := fitted_of_frame h (by simp)
  unfold gateEnd gateEndStore
  dsimp only
  split
  · exact fitted_swapPending (hseqs _)
  · exact hseqs _

theorem fitted_indexArrival {s : State} (c : Cyl) (h : Fitted s) : Fitted (indexArrival c s) := by
  unfold indexArrival
  split
  · have hphase (p : Phase) : Fitted (s.setPhase c p) := fitted_of_frame h (by simp)
    have hraise {t : State} (b : Bool) (r : Raise) (ht : Fitted t) : Fitted (raiseIf b r t) :=
      fitted_of_frame ht (by simp)
    exact hraise _ _ (fitted_handStep c _ (hphase _))
  · exact fitted_of_frame h (by simp [countArrival])

/-! ## Writes and COMMIT -/

/-- R32, R50: a mark item that is written fits, or takes part in no constraint. -/
theorem fitted_writeMark {s : State} (i : MarkItem) (v : Nat) (h : Fitted s) :
    Fitted (writeMark i v s).1 := by
  rw [writeMark_eq]
  split
  · next hw =>
    have hsound (t : State) (hm : t.items.mark = (putMark s.items.mark v i).2)
        (hgeo : t.items.geo = s.items.geo) (hs : t.sheets = s.sheets) : Fitted t := by
      refine ⟨?_, by rw [hs]; exact h.2⟩
      rw [geometrySound_iff, hgeo, hm, show t.active? = s.active? by rw [State.active?, hs]; rfl]
      have hold := geometrySound_iff.1 h.1
      by_cases hgm : MarkItem.geometric i = true
      · simpa [hgm, markFits, and_assoc] using (Bool.and_eq_true_iff.1 hw).2
      · cases i with
        | acquireCount => exact hold
        | coastLimit => exact hold
        | _ => exact absurd rfl hgm
    split <;> exact hsound _ rfl rfl rfl
  · exact h

/-- R49, R50: a distance that is written fits; the marker width takes part in no constraint. -/
theorem fitted_writeGeo {s : State} (i : GeoItem) (v : Nat) (h : Fitted s) :
    Fitted (writeGeo i v s).1 := by
  rw [writeGeo_eq]
  split
  · exact h
  split
  · exact h
  split
  · exact h
  next hfits =>
    refine ⟨?_, by simpa using h.2⟩
    obtain ⟨hpw, hfw, hold⟩ := geometrySound_iff.1 h.1
    rw [geometrySound_iff]
    simp only [settleTracker_frame, State.active?]
    refine ⟨hpw, hfw, ?_⟩
    by_cases hi : i = .markerWidth
    · subst hi; exact hold
    · simpa [hi, State.active?] using hfits

/-- R107: a COMMIT that puts its sheet to wait finds a sheet of its length in force. -/
theorem length_of_not_running {s : State} {a : Sheet} (h : commitRunning s = false)
    (ha : s.sheets.active = some a) (hw : s.web.stopped = false) :
    a.params.lSub = s.sheets.staged.params.lSub := by
  rw [commitRunning_some ha hw] at h
  exact bne_eq_false_iff_eq.1 h

/-- R106 check 10: a sheet that passes fits the geometry. -/
theorem geometrySound_of_pass {s t : State} (h : GeometrySound s)
    (hpass : commitCheck s.sheets.staged s.items = none) (hitems : t.items = s.items)
    (hactive : t.sheets.active = some (committed s)) : GeometrySound t := by
  obtain ⟨-, -, -, huse⟩ := within_of_pass hpass
  obtain ⟨hpw, hfw, -⟩ := geometrySound_iff.1 h
  have hfits : Fits s.items.geo s.items.mark (s.sheets.staged.params.lSub / 256) := by
    by_contra hno
    rw [(useChecks_used (uses_of_pass huse)).2 hno] at huse
    cases huse
  rw [geometrySound_iff, State.active?, hactive, hitems]
  exact ⟨hpw, hfw, (fits_iff _ _ _).2 hfits⟩

theorem fitted_commitSheet {s : State} (h : Fitted s) : Fitted (commitSheet s).1 := by
  have hnote (r : CommitRecord) {t : State} (ht : Fitted t) : Fitted (noteCommit r t) :=
    fitted_of_eq ht rfl rfl rfl (.inl rfl)
  cases hpass : commitCheck s.sheets.staged s.items with
  | some r => rw [commitSheet_invalid hpass]; exact hnote _ h
  | none =>
    cases hrun : commitRunning s with
    | true => rw [commitSheet_running hpass hrun]; exact hnote _ h
    | false =>
      by_cases hforce : s.sheets.active = none ∨ s.web.stopped = true
      · rw [commitSheet_inForce hpass hforce]
        refine hnote _ ⟨geometrySound_of_pass h.1 hpass (by simp [assigned]) (by simp), fun p hp => ?_⟩
        simp at hp
      · obtain ⟨hactive, hw⟩ := not_or.1 hforce
        obtain ⟨a, ha⟩ := Option.ne_none_iff_exists'.1 hactive
        rw [commitSheet_waits hpass ha (eq_false_of_ne_true hw) hrun]
        refine hnote _ ⟨geometrySound_of_length h.1 rfl rfl fun b hb => ⟨b, hb, rfl⟩, fun p hp => ?_⟩
        obtain rfl : committed s = p := by simpa using hp
        exact ⟨a, ha, length_of_not_running hrun ha (eq_false_of_ne_true hw)⟩

theorem persists_fitted : Persists Fitted where
  same hsame h := fitted_of_eq h hsame.geo hsame.mark hsame.active (.inl hsame.waiting)
  forward := fitted_forwardCount
  reverse := fitted_reverseCount
  gate := fitted_gateEnd
  index := fitted_indexArrival
  rise x h := by
    unfold markRise
    split
    · exact h
    · exact fitted_of_frame h (by simp)
  fall x h := by
    unfold markFall
    split
    · exact carries_trailingEdge carries_fitted trivial x
        (fitted_of_frame h (by simp))
    · exact h
  pulse c h := carries_emitPulse carries_fitted trivial h
  mark := fitted_writeMark
  geo := fitted_writeGeo
  commit := fitted_commitSheet
  flush h := fitted_of_frame h ⟨rfl, rfl⟩
  clear h := fitted_of_frame h ⟨rfl, rfl⟩
  runtime h := fitted_of_eq h rfl rfl rfl (.inr rfl)
  full p _ := fitted_of_frame (fitted_of_pendingSound sheets_reset.1 sheets_reset.2.1) ⟨rfl, rfl⟩

/-- Settles O17: what a write tests and what COMMIT's tenth check tests are the invariant, and a swap brings a
sheet of the length in force. -/
theorem stepKeepsGeometry : Obligations.StepKeepsGeometry := by
  rintro s t ⟨hpending, hgeometry⟩ hstep
  exact (persists_step persists_fitted hstep (fitted_of_pendingSound hpending hgeometry)).1

end Sys2Proof.Proofs
end

section
/-! What the Mark Trackers and the Label Track keep of their agreement with sheet, geometry and qualifiers, from
operation to operation (R21, R25, R28, R31): `Calm`. -/
namespace Sys2Proof.Proofs

open Sys2Proof.Machine Sys2Proof.Safety

/-- R28: the tracker is in IDLE or SEARCH, where the track is empty. -/
def Untracked (s : State) : Prop := s.tracker.state = .idle ∨ s.tracker.state = .search

/-- R25, R31: a coast decision waits for the print measurement, a gate-close event for the foil measurement. -/
def awaits : Sensor → State → Bool
  | .print, s => s.tracker.waiting
  | .foil, s => s.track.gateHeld

theorem waitsSound_iff {s : State} :
    WaitsSound s ↔ ∀ x, awaits x s = true → (s.qual.get x).state = .measuring :=
  ⟨fun h x => by cases x; exacts [h.1, h.2], fun h => ⟨h .print, h .foil⟩⟩

/-- The tracker follows: sheet and geometry stay, it enters and leaves neither IDLE nor enters SEARCH, and where
the track is to be empty nothing is put on it and no decision begins to wait. -/
structure Follows (s t : State) : Prop where
  sheet : t.sheets.active = none ↔ s.sheets.active = none
  geo : t.items.geo = s.items.geo
  idle : t.tracker.state = .idle ↔ s.tracker.state = .idle
  search : t.tracker.state = .search → s.tracker.state = .search
  empty : Untracked t → s.track.records = [] → t.track.records = []
  still : Untracked t → s.tracker.waiting = false → t.tracker.waiting = false

/-- The qualifier of a sensor stays in its state, and nothing begins to wait for it unless it is measuring. -/
structure CalmAt (x : Sensor) (s t : State) : Prop where
  state : (t.qual.get x).state = (s.qual.get x).state
  awaits : awaits x t = true → awaits x s = true ∨ (t.qual.get x).state = .measuring

/-- Tracker, track and both qualifiers keep their agreement. -/
structure Calm (s t : State) : Prop extends Follows s t where
  calmAt : ∀ x, CalmAt x s t

theorem untracked_of_follows {s t : State} (h : Follows s t) (ht : Untracked t) : Untracked s :=
  ht.imp h.idle.1 h.search

theorem follows_trans {s t u : State} (h : Follows s t) (h' : Follows t u) : Follows s u where
  sheet := h'.sheet.trans h.sheet
  geo := h'.geo.trans h.geo
  idle := h'.idle.trans h.idle
  search := h.search ∘ h'.search
  empty hu hs := h'.empty hu (h.empty (untracked_of_follows h' hu) hs)
  still hu hs := h'.still hu (h.still (untracked_of_follows h' hu) hs)

theorem calmAt_trans {x : Sensor} {s t u : State} (h : CalmAt x s t) (h' : CalmAt x t u) :
    CalmAt x s u := by
  refine ⟨h'.state.trans h.state, fun hu => ?_⟩
  rcases h'.awaits hu with ht | hm
  · exact (h.awaits ht).imp_right fun hm => h'.state.trans hm
  · exact .inr hm

theorem calm_trans {s t u : State} (h : Calm s t) (h' : Calm t u) : Calm s u :=
  ⟨follows_trans h.toFollows h'.toFollows, fun x => calmAt_trans (h.calmAt x) (h'.calmAt x)⟩

/-- R21, R25, R28. -/
theorem trackerSound_of_follows {s t : State} (h : Follows s t) (hs : TrackerSound s) :
    TrackerSound t := by
  obtain ⟨hidle, hempty⟩ := hs
  refine ⟨?_, fun ht => ?_⟩
  · rw [h.idle, h.sheet, h.geo]; exact hidle
  · obtain ⟨hrecords, hwaiting⟩ := hempty (untracked_of_follows h ht)
    exact ⟨h.empty ht hrecords, h.still ht hwaiting⟩

theorem attended_of_calmAt {x : Sensor} {s t : State} (h : CalmAt x s t)
    (hs : awaits x s = true → (s.qual.get x).state = .measuring) :
    awaits x t = true → (t.qual.get x).state = .measuring := fun ht =>
  (h.awaits ht).elim (fun ha => h.state.trans (hs ha)) id

/-- The invariant of the trackers: both statements together. -/
def MarksSound (s : State) : Prop := TrackerSound s ∧ WaitsSound s

theorem marksSound_of_calm {s t : State} (h : Calm s t) (hs : MarksSound s) : MarksSound t :=
  ⟨trackerSound_of_follows h.toFollows hs.1,
    waitsSound_iff.2 fun x => attended_of_calmAt (h.calmAt x) (waitsSound_iff.1 hs.2 x)⟩

/-! ## What is calm -/

/-- An operation that leaves the sheets, the geometry and the state of the tracker, and puts no record on an
empty track. -/
theorem follows_of {s t : State} (hsheets : t.sheets.active = s.sheets.active)
    (hgeo : t.items.geo = s.items.geo) (hstate : t.tracker.state = s.tracker.state)
    (hempty : s.track.records = [] → t.track.records = [])
    (hwaits : t.tracker.waiting = true → s.tracker.waiting = true) : Follows s t :=
  ⟨by rw [hsheets], hgeo, by rw [hstate], by rw [hstate]; exact id, fun _ => hempty,
    fun _ hs => Bool.eq_false_iff.2 fun ht => Bool.false_ne_true (hs.symm.trans (hwaits ht))⟩

theorem calmAt_of {x : Sensor} {s t : State} (hqual : t.qual = s.qual)
    (h : awaits x t = true → awaits x s = true) : CalmAt x s t := ⟨by rw [hqual], .inl ∘ h⟩

theorem calm_of_same {s t : State} (h : SameMarks s t) : Calm s t := by
  refine ⟨follows_of h.active h.geo (by rw [h.tracker]) (by rw [h.track]; exact id)
    (by rw [h.tracker]; exact id), fun x => calmAt_of h.qual ?_⟩
  cases x
  · simp only [awaits, h.tracker]; exact id
  · simp only [awaits, h.track]; exact id

theorem calm_refl (s : State) : Calm s s := calm_of_same (sameMarks_refl s)

theorem calm_of_frame {s t : State}
    (h : t.tracker = s.tracker ∧ t.track = s.track ∧ t.qual = s.qual ∧ t.sheets = s.sheets ∧
      t.items = s.items) : Calm s t := calm_of_same (sameMarks_of_frame h)

theorem calm_phase (s : State) (x : PerCyl Phase) : Calm s { s with phase := x } :=
  calm_of_frame ⟨rfl, rfl, rfl, rfl, rfl⟩

theorem calm_setLoop (s : State) (c : Cyl) (x : Loop) : Calm s (s.setLoop c x) :=
  calm_of_frame ⟨rfl, rfl, rfl, rfl, rfl⟩

theorem calm_setEmit (s : State) (c : Cyl) (x : Emitter) : Calm s (s.setEmit c x) :=
  calm_of_frame ⟨rfl, rfl, rfl, rfl, rfl⟩

theorem calm_raiseIf (b : Bool) (r : Raise) (s : State) : Calm s (raiseIf b r s) :=
  calm_of_frame (by simp)

/-- The track alone changes: nothing is put on it. -/
theorem calm_track {s : State} {x : Track} (hempty : s.track.records = [] → x.records = [])
    (hheld : x.gateHeld = true → s.track.gateHeld = true ∨ s.qual.foil.state = .measuring) :
    Calm s { s with track := x } :=
  ⟨follows_of rfl rfl rfl hempty id, fun y => by
    cases y
    · exact calmAt_of rfl id
    · exact ⟨rfl, hheld⟩⟩

/-- The tracker alone changes, in its state and with nothing more waiting. -/
theorem calm_tracker {s : State} {x : Tracker} (hstate : x.state = s.tracker.state)
    (hwaits : x.waiting = true → s.tracker.waiting = true) : Calm s { s with tracker := x } :=
  ⟨follows_of rfl rfl hstate id hwaits, fun y => calmAt_of rfl (by cases y; exacts [hwaits, id])⟩

/-- R28: out of IDLE and SEARCH the track need not be empty. -/
theorem calm_of_tracked {s t : State} (hs : s.tracker.state ≠ .idle) (ht : ¬ Untracked t)
    (h : t.qual = s.qual ∧ t.sheets = s.sheets ∧ t.items = s.items)
    (hcalm : ∀ x, awaits x t = true → awaits x s = true ∨ (s.qual.get x).state = .measuring) :
    Calm s t := by
  obtain ⟨hqual, hsheets, hitems⟩ := h
  refine ⟨⟨by rw [hsheets], by rw [hitems], ?_, fun h => absurd (.inr h) ht, fun h => absurd h ht,
    fun h => absurd h ht⟩, fun x => ⟨by rw [hqual], by rw [hqual]; exact hcalm x⟩⟩
  exact ⟨fun h => absurd (.inl h) ht, fun h => absurd h hs⟩

/-- A qualifier changes, but for its state. -/
theorem calm_setQual {s : State} {x : Sensor} {q : Qual} (h : q.state = (s.qual.get x).state) :
    Calm s (s.setQual x q) := by
  refine ⟨follows_of rfl rfl rfl id id, fun y => ⟨?_, fun ha => .inl (by cases y <;> exact ha)⟩⟩
  rw [setQual_qual, PerSensor.get_set]
  split
  · next hy => rw [h, hy]
  · rfl

/-! ## Swaps and phase steps (R29, R114) -/

/-- R29: a swap in place of an active sheet moves the tracker to LOST at most. -/
theorem calm_swapTo {s : State} (sh : Sheet) (ha : s.sheets.active ≠ none) : Calm s (swapTo sh s) := by
  have htracker := swapTo_tracker sh s
  rw [if_neg ha] at htracker
  refine ⟨⟨by simp [ha], by simp, ?_, ?_, fun _ => by simp, fun _ => ?_⟩,
    fun x => calmAt_of (by simp) ?_⟩
  · rw [htracker, trackerNewLength_eq]; (repeat' split) <;> simp_all
  · rw [htracker, trackerNewLength_eq]; (repeat' split) <;> simp_all
  · rw [htracker, trackerNewLength_eq]; (repeat' split) <;> exact id
  · cases x
    · simp only [awaits]
      rw [htracker, trackerNewLength_eq]; (repeat' split) <;> exact id
    · simp [awaits]

theorem calm_swapPending {s : State} (ha : s.sheets.active ≠ none) : Calm s (swapPending s) := by
  unfold swapPending
  split
  · exact calm_swapTo _ ha
  · exact calm_refl s

theorem calm_handStep {s : State} (c : Cyl) (o : PhaseOut) (ha : s.sheets.active ≠ none) :
    Calm s (handStep c o s) := by
  have hbound : Calm s (if o.boundary then handBoundary c s else s) := by
    split
    · cases c with
      | f => exact calm_trans (calm_swapPending ha) (calm_of_frame (by simp [handBoundary]))
      | e => exact calm_refl s
    · exact calm_refl s
  rw [handStep_eq]
  exact calm_trans hbound (calm_of_frame (by simp))

/-- R5: a step of a phase is taken against an active sheet. -/
theorem active_of_stepOf {d : TrimDir} {c : Cyl} {s : State} {o : PhaseOut}
    (h : stepOf d c s = some o) : s.sheets.active ≠ none := by
  obtain ⟨a, ha, -⟩ := stepOf_cases h
  simp [ha]

theorem calm_stepPhase (d : TrimDir) (c : Cyl) (s : State) : Calm s (stepPhase d c s) := by
  unfold stepPhase
  split
  · next o ho =>
    have hactive := active_of_stepOf ho
    exact calm_trans (calm_phase s _) (calm_handStep c o (s := s.setPhase c o.phase) hactive)
  · exact calm_refl s

theorem calm_stepBoth (d : TrimDir) (s : State) : Calm s (stepBoth d s) := by
  unfold stepBoth
  split
  · next a b ha _ =>
    have hactive := active_of_stepOf ha
    have hf := calm_handStep .f a (s := { s with phase := ⟨a.phase, b.phase⟩ }) hactive
    have he := calm_handStep .e b (mt hf.sheet.1 hactive)
    exact calm_trans (calm_phase s _) (calm_trans hf he)
  · exact calm_refl s

/-! ## The loops (R57 to R65, R78) -/

theorem calm_emitPulse (c : Cyl) (s : State) : Calm s (emitPulse c s) :=
  calm_trans (calm_trans (calm_setEmit s c _) (calm_setLoop _ c _)) (calm_stepPhase _ c _)

theorem calm_trimChanged (c : Cyl) (s : State) : Calm s (trimChanged c s) := by
  unfold trimChanged
  dsimp only
  (repeat' split)
  · exact calm_refl s
  · exact calm_emitPulse c s
  all_goals exact calm_of_frame (by simp)

theorem calm_changeRecord (k : Nat) (g : LabelRecord → LabelRecord) (s : State) :
    Calm s (s.changeRecord k g) := calm_track (fun h => by simp [changeAt, h]) .inl

theorem calm_correct (c : Cyl) (k : Nat) (n : BitVec 16) (e : Int) (s : State) :
    Calm s (correct c k n e s) :=
  calm_trans (calm_raiseIf _ _ s) (calm_trans (calm_changeRecord k _ _)
    (calm_trans (calm_trans (calm_setLoop _ c _) (calm_setLoop _ c _)) (calm_trimChanged c _)))

theorem calm_judge (c : Cyl) (k : Nat) (n : BitVec 16) (e : Int) (s : State) :
    Calm s (judge c k n e s) := by
  have hput := calm_changeRecord k (putError c e) s
  have hraised (b : Bool) (r : Raise) (x : Loop) (t : State) : Calm t (raiseIf b r (t.setLoop c x)) :=
    calm_trans (calm_setLoop t c x) (calm_raiseIf b r _)
  have hjudged (b : Bool) (r : Raise) (x : Loop) : Calm s (raiseIf b r (State.setLoop
      (if (s.items.loop.get c).tol < e.natAbs then
        (s.changeRecord k (putError c e)).changeRecord k (withReason (outOfRegister c))
        else s.changeRecord k (putError c e)) c x)) := by
    refine calm_trans ?_ (hraised b r x _)
    split
    · exact calm_trans hput (calm_changeRecord k _ _)
    · exact hput
  unfold judge
  dsimp only
  split
  · exact calm_trans (hjudged _ _ _) (calm_correct c k n e _)
  · exact hjudged _ _ _

theorem calm_measure (c : Cyl) (k : Nat) (r : LabelRecord) (b : Bool) (due : Pos) (s : State) :
    Calm s (Machine.measure c k r b due s) := by
  unfold Machine.measure
  dsimp only
  (repeat' split)
  · exact calm_refl s
  · exact calm_refl s
  · exact calm_changeRecord k _ s
  · exact calm_judge c k _ _ s

/-! ## The stations of the track (R38 to R46) -/

/-- An event of a station: a record changed, and a cursor moved on. -/
theorem calm_served (k : Nat) (g : LabelRecord → LabelRecord) (x : Track → Track)
    (hx : ∀ t, (x t).records = t.records ∧ (x t).gateHeld = t.gateHeld) (s : State) :
    Calm s { s.changeRecord k g with track := x (s.changeRecord k g).track } := by
  refine calm_trans (calm_changeRecord k g s) (calm_track ?_ ?_)
  · rw [(hx _).1]; exact id
  · rw [(hx _).2]; exact .inl

theorem calm_nipEvent (r : LabelRecord) (s : State) : Calm s (nipEvent r s) :=
  calm_trans (calm_served s.track.nip _ (fun t => { t with nip := s.track.nip + 1 })
    (fun _ => ⟨rfl, rfl⟩) s) (calm_measure .f _ _ _ _ _)

theorem calm_embossEvent (r : LabelRecord) (s : State) : Calm s (embossEvent r s) :=
  calm_trans (calm_served s.track.emboss _ (fun t => { t with emboss := s.track.emboss + 1 })
    (fun _ => ⟨rfl, rfl⟩) s) (calm_measure .e _ _ _ _ _)

theorem calm_serveNip (n : Nat) (s : State) : Calm s (serveNip n s) := by
  induction n generalizing s with
  | zero => exact calm_refl s
  | succ n ih =>
    unfold serveNip
    (repeat' split)
    · exact calm_refl s
    · exact calm_trans (calm_nipEvent _ s) (ih _)
    · exact calm_refl s

theorem calm_gateTaken (s : State) : Calm s (gateTaken s) := calm_track id nofun

/-- R31: a gate-close event is held for a foil measurement in progress alone. -/
theorem calm_serveGate (n : Nat) (s : State) : Calm s (serveGate n s) := by
  induction n generalizing s with
  | zero => exact calm_refl s
  | succ n ih =>
    unfold serveGate
    (repeat' split)
    · exact calm_refl s
    · exact calm_refl s
    · next hbusy =>
      exact calm_track id fun _ => .inr (beq_iff_eq.1 (Bool.and_eq_true_iff.1 hbusy).1)
    · exact calm_trans (calm_gateTaken s) (ih _)
    · exact calm_refl s

theorem calm_serveEmboss (n : Nat) (s : State) : Calm s (serveEmboss n s) := by
  induction n generalizing s with
  | zero => exact calm_refl s
  | succ n ih =>
    unfold serveEmboss
    (repeat' split)
    · exact calm_refl s
    · exact calm_trans (calm_embossEvent _ s) (ih _)
    · exact calm_refl s

theorem verdictIn_empty {mask : Reasons} {k : Nat} {t : Track} (h : t.records = []) :
    verdictIn mask k t = t := by simp [verdictIn, h]

theorem verdictIn_held (mask : Reasons) (k : Nat) (t : Track) :
    (verdictIn mask k t).gateHeld = t.gateHeld := by
  unfold verdictIn; (repeat' split) <;> rfl

theorem calm_markerEvent (r : LabelRecord) (s : State) : Calm s (markerEvent r s) := by
  have hemboss : Calm s (if s.track.emboss ≤ s.track.marker then embossByMarker s.track.marker r s
      else s) := by
    split
    · exact calm_trans (calm_served s.track.marker _ (fun t => { t with emboss := s.track.marker + 1 })
        (fun _ => ⟨rfl, rfl⟩) s) (calm_serveEmboss _ _)
    · exact calm_refl s
  refine calm_trans hemboss (calm_track (fun h => ?_) fun h => .inl ?_)
  · rw [verdictIn_empty h]; exact h
  · rw [verdictIn_held] at h; exact h

theorem calm_serveMarker (n : Nat) (s : State) : Calm s (serveMarker n s) := by
  induction n generalizing s with
  | zero => exact calm_refl s
  | succ n ih =>
    unfold serveMarker
    (repeat' split)
    · exact calm_refl s
    · exact calm_trans (calm_markerEvent _ s) (ih _)
    · exact calm_refl s

theorem calm_dropOldest (s : State) : Calm s { s with track := dropOldest s.track } :=
  calm_track (fun h => by simp [dropOldest, reevalRej, h])
    fun h => .inl (Bool.and_eq_true_iff.1 h).1

theorem calm_serveRemoval (n : Nat) (s : State) : Calm s (serveRemoval n s) := by
  induction n generalizing s with
  | zero => exact calm_refl s
  | succ n ih =>
    unfold serveRemoval
    (repeat' split)
    · exact calm_refl s
    · exact calm_trans (calm_dropOldest s) (ih _)
    · exact calm_refl s

/-- R38: the five stations. -/
theorem calm_serveStations (s : State) : Calm s (serveStations s) :=
  calm_trans (calm_serveNip _ s) (calm_trans (calm_serveGate _ _) (calm_trans (calm_serveEmboss _ _)
    (calm_trans (calm_serveMarker _ _) (calm_serveRemoval _ _))))

theorem rollback_kept (n : Nat) (o : Origin) (t : Tracker) :
    (rollback n o t).state = t.state ∧ (rollback n o t).waiting = t.waiting := by
  unfold rollback; split <;> exact ⟨rfl, rfl⟩

/-- R28, R47: records taken back. -/
theorem calm_reverseRemoval (n : Nat) (s : State) : Calm s (reverseRemoval n s) := by
  induction n generalizing s with
  | zero => exact calm_refl s
  | succ n ih =>
    unfold reverseRemoval
    (repeat' split)
    · exact calm_refl s
    · next rec _ _ =>
      obtain ⟨hstate, hwaits⟩ := rollback_kept ((s.active?.map (·.lSub)).getD 0) rec.origin s.tracker
      have hdrop : Calm s { s with track := dropNewest s.track } :=
        calm_track (fun h => by simp [dropNewest, reevalRej, h])
          fun h => .inl (Bool.and_eq_true_iff.1 h).1
      exact calm_trans (calm_trans hdrop (calm_tracker hstate (by rw [hwaits]; exact id))) (ih _)
    · exact calm_refl s

end Sys2Proof.Proofs
end

section
/-! The Mark Trackers agree with sheet, geometry and track, and what waits has a measurement to wait for, after
every step (R21, R25, R28, R31). -/
namespace Sys2Proof.Proofs

open Sys2Proof.Machine Sys2Proof.Safety

/-! ## The print tracker -/

theorem not_untracked_of {s : State} (h : s.tracker.state = .locked ∨ s.tracker.state = .coast ∨
    s.tracker.state = .lost) : ¬ Untracked s := by
  rintro (hs | hs) <;> rw [hs] at h <;> simp at h

/-- R25, R27: a coast goes to COAST or LOST, and leaves alone what waits. -/
theorem coast_tracker (s : State) : (coast s).tracker.waiting = s.tracker.waiting ∧
    ((coast s).tracker.state = .coast ∨ (coast s).tracker.state = .lost) := by
  unfold coast
  dsimp only
  (repeat' split)
  · next h => exact ⟨by simp, .inr h⟩
  · exact ⟨by simp, .inr (by simp)⟩
  · exact ⟨by simp, .inl rfl⟩

theorem calm_coast {s : State} (h : s.tracker.state ≠ .idle) : Calm s (coast s) := by
  obtain ⟨hwaits, hstate⟩ := coast_tracker s
  refine calm_of_tracked h (not_untracked_of (.inr hstate)) (by simp) fun x hx => .inl ?_
  cases x
  · exact hwaits.symm.trans hx
  · by_contra hs
    exact Bool.false_ne_true (((coastLeaves_coast s).held (eq_false_of_ne_true hs)).symm.trans hx)

theorem calm_coastTest (s : State) : Calm s (coastTest s) := by
  have htracked (h : ¬ Untracked s) : Calm s (if s.tracker.waiting then s else if coastPoint s then
      if coastWaits s then { s with tracker := { s.tracker with waiting := true } } else coast s
      else s) := by
    have hidle : s.tracker.state ≠ .idle := fun hi => h (.inl hi)
    (repeat' split)
    · exact calm_refl s
    · next hwaits =>
      refine calm_of_tracked hidle h ⟨rfl, rfl, rfl⟩ fun x hx => ?_
      cases x
      · exact .inr (beq_iff_eq.1 (Bool.and_eq_true_iff.1 hwaits).1)
      · exact .inl hx
    · exact calm_coast hidle
    · exact calm_refl s
  unfold coastTest
  split
  · next h => exact htracked (not_untracked_of (.inl h))
  · next h => exact htracked (not_untracked_of (.inr (.inl h)))
  · next h => exact htracked (not_untracked_of (.inr (.inr h)))
  all_goals exact calm_refl s

theorem calm_acceptMark {s : State} (h : s.tracker.state ≠ .idle) (x : Pos) (w : Nat) :
    Calm s (acceptMark x w s) := by
  refine calm_of_tracked h (not_untracked_of (.inl rfl)) (by simp) fun y hy => ?_
  cases y
  · exact absurd hy (by simp [acceptMark, awaits])
  · by_contra hs
    have hnone := createRecord_held (eq_false_of_ne_true (not_or.1 hs).1) .marked x (some w)
    exact Bool.false_ne_true (hnone.symm.trans hy)

theorem calm_acquire {s : State} (h : s.tracker.state ≠ .idle) (x : Pos) (w : Nat) :
    Calm s (acquire x w s) := by
  unfold acquire
  dsimp only
  (repeat' split)
  · exact calm_tracker rfl id
  · have hstep : Calm s { s with tracker := { s.tracker with q := x, k := s.tracker.k + 1 } } :=
      calm_tracker rfl id
    have haccept (t : State) (ht : t.tracker.state ≠ .idle) : Calm t (lock x w t) :=
      calm_trans (calm_acceptMark ht x w) (calm_tracker rfl id)
    exact calm_trans hstep (haccept _ h)
  · exact calm_tracker rfl id

theorem calm_countStray (x : Sensor) (s : State) : Calm s (countStray x s) := calm_setQual rfl

theorem calm_qualified (x : Sensor) (p : Pos) (w : Nat) (s : State) : Calm s (qualified x p w s) := by
  cases x with
  | print =>
    unfold qualified printMark
    dsimp only
    split
    · exact calm_refl s
    · next h => exact calm_acquire (by simp [h]) p w
    · next h => exact calm_acquire (by simp [h]) p w
    · next h =>
      split
      · exact calm_acceptMark (by simp [h]) p w
      · exact calm_countStray .print s
    · next h =>
      split
      · exact calm_acceptMark (by simp [h]) p w
      · exact calm_countStray .print s
  | foil =>
    unfold qualified foilMark
    dsimp only
    split
    · exact calm_changeRecord _ _ s
    · exact calm_countStray .foil s

/-! ## The end of a measurement (R20, R25, R31) -/

theorem calm_releaseGate (s : State) : Calm s (releaseGate s) := by
  unfold releaseGate
  split
  · exact calm_trans (calm_gateTaken s) (calm_trans (calm_serveGate _ _) (calm_serveEmboss _ _))
  · exact calm_refl s

theorem calm_measurementEnded {x : Sensor} {s : State} (hs : TrackerSound s) :
    Calm s (measurementEnded x s) := by
  unfold measurementEnded
  split
  · split
    · next hw =>
      have hidle : s.tracker.state ≠ .idle := fun hi =>
        Bool.false_ne_true ((hs.2 (.inl hi)).2.symm.trans hw)
      exact calm_trans (calm_tracker (x := { s.tracker with waiting := false }) rfl nofun)
        (calm_coast hidle)
    · exact calm_refl s
  · exact calm_releaseGate s

/-- R25, R31: what waited for a measurement that has ended waits no more. -/
theorem measurementEnded_awaits {x : Sensor} {s : State} (h : (s.qual.get x).state ≠ .measuring) :
    awaits x (measurementEnded x s) = false := by
  cases x with
  | print =>
    unfold measurementEnded
    dsimp only
    split
    · exact (coast_tracker _).1
    · next hw => exact eq_false_of_ne_true hw
  | foil =>
    unfold measurementEnded releaseGate
    dsimp only
    split
    · have hcalm := (calm_trans (calm_serveGate s.track.records.length (gateTaken s))
        (calm_serveEmboss s.track.records.length _)).calmAt .foil
      refine eq_false_of_ne_true fun ha => ?_
      rcases hcalm.awaits ha with hheld | hm
      · cases hheld
      · exact h (hcalm.state.symm.trans hm)
    · next hw => exact eq_false_of_ne_true hw

theorem calmAt_setQual_ne {x y : Sensor} (h : y ≠ x) (s : State) (q : Qual) :
    CalmAt y s (s.setQual x q) :=
  ⟨by rw [setQual_qual, PerSensor.get_set_ne _ _ h], fun ha => .inl (by cases y <;> exact ha)⟩

/-- R20: a qualifier leaves MEASURING, its mark is taken or not, and the measurement's end is told. -/
theorem marksSound_ended {x : Sensor} {q : Qual} {s u : State} (hq : q.state ≠ .measuring)
    (hu : Calm (s.setQual x q) u) (hs : MarksSound s) : MarksSound (measurementEnded x u) := by
  have hset : Follows s (s.setQual x q) := follows_of rfl rfl rfl id id
  have htracker := trackerSound_of_follows (follows_trans hset hu.toFollows) hs.1
  have hended := calm_measurementEnded (x := x) htracker
  refine ⟨trackerSound_of_follows hended.toFollows htracker, waitsSound_iff.2 fun y => ?_⟩
  by_cases hy : y = x
  · subst hy
    have hquiet : (u.qual.get y).state ≠ .measuring := by
      rw [(hu.calmAt y).state, setQual_qual, PerSensor.get_set_self]
      exact hq
    rw [measurementEnded_awaits hquiet]
    exact nofun
  · exact attended_of_calmAt (calmAt_trans (calmAt_trans (calmAt_setQual_ne hy s q) (hu.calmAt y))
      (hended.calmAt y)) (waitsSound_iff.1 hs.2 y)

/-- R19, R20: nothing waits for a qualifier that is not measuring, so it may go to any state. -/
theorem marksSound_setQual {x : Sensor} {q : Qual} {s : State} (h : (s.qual.get x).state ≠ .measuring)
    (hs : MarksSound s) : MarksSound (s.setQual x q) := by
  refine ⟨trackerSound_of_follows (follows_of rfl rfl rfl id id) hs.1, waitsSound_iff.2 fun y => ?_⟩
  have hy := waitsSound_iff.1 hs.2 y
  by_cases hyx : y = x
  · subst hyx
    exact fun ha => absurd (hy (by cases y <;> exact ha)) h
  · exact attended_of_calmAt (calmAt_setQual_ne hyx s q) hy

theorem marksSound_rejectMark {x : Sensor} {st : QualState} {s : State} (hst : st ≠ .measuring)
    (hs : MarksSound s) : MarksSound (rejectMark x st s) := marksSound_ended hst (calm_refl _) hs

/-! ## The edges and the counts -/

theorem calm_setLevel (x : Sensor) (b : Bool) (s : State) : Calm s (setLevel x b s) :=
  calm_of_frame (by simp)

theorem marksSound_leadingEdge {x : Sensor} {s : State} (hs : MarksSound s) :
    MarksSound (leadingEdge x s) := by
  unfold leadingEdge
  dsimp only
  split
  · next hw =>
    split <;> exact marksSound_setQual (by simp [hw]) hs
  · exact hs
  · exact hs

theorem marksSound_trailingEdge {x : Sensor} {s : State} (hs : MarksSound s) :
    MarksSound (trailingEdge x s) := by
  unfold trailingEdge
  dsimp only
  split
  · exact hs
  · next hd => exact marksSound_setQual (by simp [hd]) hs
  · split
    · exact marksSound_ended (by simp) (calm_qualified x _ _ _) hs
    · exact marksSound_rejectMark nofun hs

theorem marksSound_qualForward {x : Sensor} {s : State} (hs : MarksSound s) :
    MarksSound (qualForward x s) := by
  unfold qualForward
  dsimp only
  split
  · exact marksSound_rejectMark nofun hs
  · exact hs

theorem marksSound_qualReverse {x : Sensor} {s : State} (hs : MarksSound s) :
    MarksSound (qualReverse x s) := by
  unfold qualReverse
  split
  · exact marksSound_rejectMark nofun hs
  · exact hs

theorem calm_web (s : State) (x : Web) : Calm s { s with web := x } := calm_of_same (sameMarks_web s x)

/-- R2: W moved, the phases stepped and published. -/
theorem calm_counted (dir : Direction) (d : TrimDir) (s : State) :
    Calm s (publish (stepBoth d { s with web := moveWeb dir s.web })) :=
  calm_trans (calm_web s _) (calm_trans (calm_stepBoth d _) (calm_phase _ _))

theorem calm_lanesCount (s : State) : Calm s (lanesCount s) := calm_of_frame (by simp)

theorem marksSound_forwardCount {s : State} (hs : MarksSound s) : MarksSound (forwardCount s) := by
  have hserved := marksSound_of_calm (calm_trans (calm_counted .forward .advance s)
    (calm_serveStations _)) hs
  have hquals := marksSound_qualForward (x := .foil) (marksSound_qualForward (x := .print) hserved)
  exact marksSound_of_calm (calm_trans (calm_coastTest _) (calm_lanesCount _)) hquals

theorem marksSound_reverseCount {s : State} (hs : MarksSound s) : MarksSound (reverseCount s) := by
  have hcounted := marksSound_of_calm (calm_counted .reverse .retard s) hs
  have hquals := marksSound_qualReverse (x := .foil) (marksSound_qualReverse (x := .print) hcounted)
  exact marksSound_of_calm (calm_reverseRemoval _ _) hquals

/-! ## Sheets, geometry and resets (R21, R29, R35) -/

theorem canTrack_iff {s : State} : s.canTrack = true ↔ ¬ (s.sheets.active = none ∨
    s.items.geo.dF = 0 ∨ s.items.geo.dFS = 0 ∨ s.items.geo.dE = 0 ∨ s.items.geo.dR = 0) := by
  rw [State.canTrack, Bool.and_eq_true, geometrySet_iff, Option.isSome_iff_ne_none, ← not_or]

/-- The tracker stands where sheet and geometry let it, over an empty track with nothing waiting. -/
theorem marksSound_of_settled {t : State} (hidle : t.tracker.state = .idle ↔ t.canTrack = false)
    (hempty : t.track.records = []) (hwaits : Untracked t → t.tracker.waiting = false)
    (hw : WaitsSound t) : MarksSound t := by
  refine ⟨⟨?_, fun h => ⟨hempty, hwaits h⟩⟩, hw⟩
  rw [hidle, ← Bool.not_eq_true, canTrack_iff, not_not]

/-- R21: the tracker follows sheet and geometry where it has no record. -/
theorem settled_cases (s : State) : (settleTracker s).tracker.state = .idle ∧ s.canTrack = false ∨
    (settleTracker s).tracker.state ≠ .idle ∧ s.canTrack = true := by
  rw [settleTracker_tracker]
  cases hc : s.canTrack <;> by_cases hi : s.tracker.state = .idle <;> simp [hi, trackerTo]

theorem settleTracker_waiting {s : State} (h : (settleTracker s).tracker.waiting = true) :
    s.tracker.waiting = true := by
  rw [settleTracker_tracker] at h
  (repeat' split at h) <;> first | exact h | cases h

theorem marksSound_settleTracker {s : State} (hempty : s.track.records = [])
    (hwaits : Untracked s → s.tracker.waiting = false) (hw : WaitsSound s) :
    MarksSound (settleTracker s) := by
  have hcan : (settleTracker s).canTrack = s.canTrack := by simp [State.canTrack]
  refine marksSound_of_settled ?_ (by simpa using hempty) (fun hu => ?_) ⟨fun h => ?_, by simpa using hw.2⟩
  · rw [hcan]
    rcases settled_cases s with ⟨hi, hc⟩ | ⟨hi, hc⟩ <;> simp [hi, hc]
  · by_cases hs : Untracked s
    · exact eq_false_of_ne_true fun h => Bool.false_ne_true ((hwaits hs).symm.trans (settleTracker_waiting h))
    · obtain ⟨hidle, hsearch⟩ := not_or.1 hs
      unfold Untracked at hu
      rw [settleTracker_tracker, if_neg hidle] at hu ⊢
      split
      · next hc => rw [if_pos hc] at hu; exact absurd hu hs
      · rfl
  · simpa using hw.1 (settleTracker_waiting h)

/-- R21, R29: a sheet comes into force. -/
theorem marksSound_swapTo {s : State} (sh : Sheet) (hs : MarksSound s) : MarksSound (swapTo sh s) := by
  by_cases ha : s.sheets.active = none
  · have hidle := hs.1.1.2 (.inl ha)
    obtain ⟨hempty, hquiet⟩ := hs.1.2 (.inl hidle)
    have hforce : MarksSound (settleTracker { s with sheets := { s.sheets with
        active := some sh, pending := none } }) :=
      marksSound_settleTracker hempty (fun _ => hquiet) hs.2
    refine marksSound_of_calm (calm_of_frame ?_) hforce
    simp [swapTo_tracker, settleTracker_tracker, State.canTrack, ha]
  · exact marksSound_of_calm (calm_swapTo sh ha) hs

theorem marksSound_swapPending {s : State} (hs : MarksSound s) : MarksSound (swapPending s) := by
  unfold swapPending
  split
  · exact marksSound_swapTo _ hs
  · exact hs

theorem marksSound_gateEnd {s : State} (hs : MarksSound s) : MarksSound (gateEnd s) := by
  have hseqs (b : Bool) : MarksSound (gateEndSeqs b { s.reachTime s.web.gateEnd with
      web := gateWeb s.items.web s.web }) := marksSound_of_calm (calm_of_frame (by simp)) hs
  unfold gateEnd gateEndStore
  dsimp only
  split
  · exact marksSound_swapPending (hseqs _)
  · exact hseqs _

theorem calm_indexArrival (c : Cyl) (s : State) : Calm s (indexArrival c s) := by
  unfold indexArrival
  split
  · next p hp _ _ =>
    have hactive : s.sheets.active ≠ none := fun hn => by simp [State.active?, hn] at hp
    exact calm_trans (calm_phase s _) (calm_trans (calm_handStep c _ (s := s.setPhase c _) hactive)
      (calm_raiseIf _ _ _))
  · exact calm_phase s _

theorem marksSound_writeMark {s : State} (i : MarkItem) (v : Nat) (hs : MarksSound s) :
    MarksSound (writeMark i v s).1 := by
  rw [writeMark_eq]
  split
  · have hitems (m : MarkItems) (t : State) : Calm t { t with items := { t.items with mark := m } } :=
      ⟨follows_of rfl rfl rfl id id, fun x => calmAt_of rfl (by cases x <;> exact id)⟩
    refine marksSound_of_calm ?_ hs
    dsimp only
    split
    · have hcount : Calm s { s with tracker := { s.tracker with k := 0 } } := calm_tracker rfl id
      exact calm_trans hcount (hitems _ _)
    · exact hitems _ s
  · exact hs

/-- R21, R49: a distance is written over an empty track, and the tracker follows. -/
theorem marksSound_writeGeo {s : State} (i : GeoItem) (v : Nat) (hs : MarksSound s) :
    MarksSound (writeGeo i v s).1 := by
  rw [writeGeo_eq]
  split
  · exact hs
  split
  · exact hs
  next hempty =>
    split
    · exact hs
    · have hrecords : s.track.records = [] := by simpa using hempty
      exact marksSound_settleTracker hrecords (fun h => (hs.1.2 h).2) hs.2

theorem marksSound_commitSheet {s : State} (hs : MarksSound s) : MarksSound (commitSheet s).1 := by
  have hsheets {t : State} (x : Sheets) (hx : x.active = t.sheets.active) (ht : MarksSound t) :
      MarksSound { t with sheets := x } :=
    marksSound_of_calm ⟨follows_of hx rfl rfl id id, fun y => calmAt_of rfl (by cases y <;> exact id)⟩ ht
  unfold commitSheet
  split
  · exact hsheets _ rfl hs
  · dsimp only
    split
    · exact hsheets _ rfl hs
    · refine hsheets _ rfl ?_
      unfold placeSheet
      split
      · exact marksSound_swapTo _ (hsheets _ rfl hs)
      · exact hsheets _ rfl (hsheets _ rfl hs)

/-- R29, R48: the track flushed. -/
theorem marksSound_trackFlush {s : State} (hs : MarksSound s) : MarksSound (trackFlushReq s).1 := by
  have hstate : (flushTracker s.tracker).state = .idle ↔ s.tracker.state = .idle := by
    unfold flushTracker
    split
    · rfl
    · next h => simp [trackerTo, h]
  have hwaits : (flushTracker s.tracker).waiting = false := by
    unfold flushTracker
    split
    · next h => exact (hs.1.2 (.inl h)).2
    · rfl
  refine ⟨⟨hstate.trans hs.1.1, fun _ => ⟨rfl, hwaits⟩⟩, fun h => ?_, nofun⟩
  exact absurd (hwaits.symm.trans h) Bool.false_ne_true

theorem calm_clearCounters (s : State) : Calm s (clearCounters s) :=
  ⟨follows_of rfl rfl rfl id id, fun x => by cases x <;> exact ⟨rfl, .inl⟩⟩

/-- R35, R56. -/
theorem marksSound_runtimeReset (s : State) : MarksSound (runtimeReset s) := by
  refine marksSound_of_settled ?_ rfl (fun _ => rfl) ⟨nofun, nofun⟩
  change (if s.canTrack then TrackerState.search else .idle) = .idle ↔ s.canTrack = false
  cases s.canTrack <;> simp

theorem persists_marksSound : Persists MarksSound where
  same h := marksSound_of_calm (calm_of_same h)
  forward := marksSound_forwardCount
  reverse := marksSound_reverseCount
  gate := marksSound_gateEnd
  index c := marksSound_of_calm (calm_indexArrival c _)
  rise x hs := by
    unfold markRise
    split
    · exact hs
    · exact marksSound_leadingEdge (marksSound_of_calm (calm_setLevel x true _) hs)
  fall x hs := by
    unfold markFall
    split
    · exact marksSound_trailingEdge (marksSound_of_calm (calm_setLevel x false _) hs)
    · exact hs
  pulse c := marksSound_of_calm (calm_emitPulse c _)
  mark := marksSound_writeMark
  geo := marksSound_writeGeo
  commit := marksSound_commitSheet
  flush := marksSound_trackFlush
  clear := marksSound_of_calm (calm_clearCounters _)
  runtime _ := marksSound_runtimeReset _
  full p _ := marksSound_of_settled (by simp [fullReset, State.reset, State.canTrack, resetTracker,
    resetSheets]) rfl (fun _ => rfl) ⟨nofun, nofun⟩

/-- Settles O11: every operation is calm, but for those that end a measurement or settle the tracker anew. -/
theorem stepKeepsTracker : Obligations.StepKeepsTracker :=
  fun _ _ hs hstep => persists_step persists_marksSound hstep hs

end Sys2Proof.Proofs
end

section
/-! Mark edges and counts at a qualifier (R19, R20), and what waits for a measurement's end (R25, R31). -/
namespace Sys2Proof.Proofs

open Sys2Proof.Machine Sys2Proof.Safety

/-! ## Rising edges (R19) -/

section
variable {x : Sensor} {s : State}

theorem markRise_high (h : s.inputs.level x = true) : markRise x s = s := if_pos h

theorem markRise_low (h : s.inputs.level x = false) :
    markRise x s = leadingEdge x (setLevel x true s) := if_neg (by simp [h])

theorem leadingEdge_forward (hw : (s.qual.get x).state = .waiting) (hd : s.web.dir = .forward) :
    leadingEdge x s = s.setQual x { s.qual.get x with
      state := .measuring, lead := s.web.w, min := (widthLimits s x).1, max := (widthLimits s x).2 } := by
  simp only [leadingEdge, hw, hd]

theorem leadingEdge_reverse (hw : (s.qual.get x).state = .waiting) (hd : s.web.dir = .reverse) :
    leadingEdge x s = s.setQual x { s.qual.get x with
      state := .discarding, rejects := satInc (s.qual.get x).rejects } := by
  simp only [leadingEdge, hw, hd]

/-! ## Falling edges (R20) -/

theorem markFall_high (h : s.inputs.level x = true) :
    markFall x s = trailingEdge x (setLevel x false s) := if_pos h

theorem trailingEdge_discarding (h : (s.qual.get x).state = .discarding) :
    trailingEdge x s = s.setQual x { s.qual.get x with state := .waiting } := by
  simp only [trailingEdge, h]

/-- The width of the mark being measured, as W stands. -/
def markWidth (x : Sensor) (s : State) : Int := (s.web.w - (s.qual.get x).lead).toInt

theorem trailingEdge_good (h : (s.qual.get x).state = .measuring)
    (hmin : (s.qual.get x).min ≤ markWidth x s) (hmax : markWidth x s ≤ (s.qual.get x).max) :
    trailingEdge x s = measurementEnded x (qualified x (s.qual.get x).lead (markWidth x s).toNat
      (s.setQual x { s.qual.get x with state := .waiting })) := by
  simp only [trailingEdge, h]
  exact if_pos ⟨hmin, hmax⟩

theorem trailingEdge_bad (h : (s.qual.get x).state = .measuring)
    (hbad : ¬ ((s.qual.get x).min ≤ markWidth x s ∧ markWidth x s ≤ (s.qual.get x).max)) :
    trailingEdge x s = rejectMark x .waiting s := by
  simp only [trailingEdge, h]
  exact if_neg hbad

/-! ## Counts (R20) -/

theorem rejectMark_eq (x : Sensor) (st : QualState) (s : State) : rejectMark x st s =
    measurementEnded x (s.setQual x { s.qual.get x with
      state := st, rejects := min ((s.qual.get x).rejects + 1) 65535 }) := rfl

theorem qualForward_tooWide (h : (s.qual.get x).state = .measuring)
    (hw : s.web.w = posAdd (s.qual.get x).lead ((s.qual.get x).max + 1)) :
    qualForward x s = rejectMark x .discarding s := if_pos ⟨h, hw⟩

theorem qualForward_within (h : (s.qual.get x).state ≠ .measuring ∨
    ¬ s.web.w = posAdd (s.qual.get x).lead ((s.qual.get x).max + 1)) : qualForward x s = s :=
  if_neg (not_and_or.2 h)

theorem qualReverse_measuring (h : (s.qual.get x).state = .measuring) :
    qualReverse x s = rejectMark x .discarding s := if_pos h

end

/-! ## What waits for the end (R25, R31) -/

theorem measurementEnded_print_quiet {s : State} (h : s.tracker.waiting = false) :
    measurementEnded .print s = s := if_neg (by simp [h])

theorem measurementEnded_print_waiting {s : State} (h : s.tracker.waiting = true) :
    measurementEnded .print s = coast { s with tracker := { s.tracker with waiting := false } } := if_pos h

theorem releaseGate_quiet {s : State} (h : s.track.gateHeld = false) : releaseGate s = s :=
  if_neg (by simp [h])

/-- Settles O31, edge by edge and count by count. -/
theorem markEdgesMeasureOrReject : Obligations.MarkEdgesMeasureOrReject := by
  refine ⟨fun x s => ⟨fun hl => ?_, fun hl hw hd => ?_, fun hl hw hd => ?_⟩,
    fun x s hl => ⟨fun hd => ?_, fun hm hwidth => ?_⟩,
    fun x s => ⟨qualForward_tooWide, qualForward_within, qualReverse_measuring, qualReverse_idle⟩,
    fun s => ⟨measurementEnded_print_quiet, measurementEnded_print_waiting, releaseGate_quiet, fun _ => rfl⟩⟩
  · exact congrArg _ (markRise_high hl)
  · refine congrArg _ ((markRise_low hl).trans ((leadingEdge_forward (by simpa using hw)
      (by simpa using hd)).trans ?_))
    cases x <;> simp [widthLimits]
  · refine congrArg _ ((markRise_low hl).trans ((leadingEdge_reverse (by simpa using hw)
      (by simpa using hd)).trans ?_))
    simp [satInc, Config.counterMax]
  · refine congrArg _ ((markFall_high hl).trans ((trailingEdge_discarding (by simpa using hd)).trans ?_))
    simp
  · refine congrArg _ ((markFall_high hl).trans ((trailingEdge_bad (by simpa using hm) ?_).trans ?_))
    · simp only [markWidth, setLevel_frame]
      omega
    · rw [rejectMark_eq]
      simp

end Sys2Proof.Proofs
end

section
/-! A foil mark of good width: given to the oldest record that may take it, and then the held gate-close event
(R30, R31). -/
namespace Sys2Proof.Proofs

open Sys2Proof.Machine Sys2Proof.Safety

/-- R30: the record at an index may take a foil mark at `mf`. -/
def TakesFoil (s : State) (mf : Pos) (k : Nat) : Prop :=
  ∃ r, s.track.records[k]? = some r ∧ s.track.gate ≤ k ∧ r.foil = none ∧
    (mf - (r.r + BitVec.ofNat 32 s.items.geo.dFS)).toInt.natAbs ≤ s.items.mark.gF

/-- R30: the test of `foilTaker` at an index. -/
def foilTest (s : State) (mf : Pos) (k : Nat) : Bool :=
  match s.track.records[k]? with
  | some rec => s.track.gate ≤ k && rec.foil.isNone && inFoilGate s rec mf
  | none => false

theorem foilTaker_eq (s : State) (mf : Pos) :
    foilTaker s mf = (List.range s.track.records.length).find? (foilTest s mf) := rfl

theorem foilTest_iff {s : State} {mf : Pos} {k : Nat} : foilTest s mf k = true ↔ TakesFoil s mf k := by
  unfold foilTest TakesFoil
  cases h : s.track.records[k]? with
  | none => simp
  | some r => simp [inFoilGate, posDiff, posAdd, and_assoc]

theorem foilTaker_some {s : State} {mf : Pos} {k : Nat} (h : TakesFoil s mf k)
    (hlow : ∀ j, j < k → ¬ TakesFoil s mf j) : foilTaker s mf = some k := by
  have hk : k < s.track.records.length := by
    obtain ⟨r, hr, -⟩ := h
    exact (List.getElem?_eq_some_iff.1 hr).1
  rw [foilTaker_eq, List.find?_range_eq_some]
  refine ⟨foilTest_iff.2 h, List.mem_range.2 hk, fun j hj => ?_⟩
  rw [Bool.not_eq_true', ← Bool.not_eq_true, foilTest_iff]
  exact hlow j hj

theorem foilTaker_none {s : State} {mf : Pos} (h : ∀ k, ¬ TakesFoil s mf k) : foilTaker s mf = none := by
  rw [foilTaker_eq, List.find?_eq_none]
  exact fun k _ hk => h k (foilTest_iff.1 hk)

/-- R31: the end of a foil measurement releases the event that is held, if one is. -/
theorem measurementEnded_foil (s : State) :
    measurementEnded .foil s = if s.track.gateHeld then releaseGate s else s := by
  cases h : s.track.gateHeld
  · exact releaseGate_quiet h
  · rfl

/-- R20, R30: the falling edge of a foil mark of good width. -/
theorem exec_foilFall {s : State} (hl : s.inputs.fmark = true) (hm : s.qual.foil.state = .measuring)
    (hmin : s.qual.foil.min ≤ markWidth .foil s) (hmax : markWidth .foil s ≤ s.qual.foil.max) :
    exec (.markTrailingEdge .foil) s = .next (measurementEnded .foil (foilMark s.qual.foil.lead
      ((setLevel .foil false s).setQual .foil { s.qual.foil with state := .waiting }))) :=
  congrArg _ ((markFall_high (x := .foil) hl).trans
    (trailingEdge_good (x := .foil) (s := setLevel .foil false s) hm hmin hmax))

/-- Settles O33: the assignment comes before the release. -/
theorem foilMarkGoesToOldestOpenGate : Obligations.FoilMarkGoesToOldestOpenGate := by
  intro s hl hm hmin hmax mf offset takes ended released
  rw [exec_foilFall hl hm hmin hmax]
  refine ⟨fun k hk hlow => ?_, fun hnone => ?_⟩
  · have htaker : foilTaker ended mf = some k := foilTaker_some hk hlow
    have hmark : foilMark mf ended = ended.changeRecord k (putFoil s.items.geo.dFS mf) := by
      unfold foilMark; rw [htaker]; rfl
    exact congrArg _ ((congrArg _ hmark).trans (measurementEnded_foil _))
  · have htaker : foilTaker ended mf = none := foilTaker_none hnone
    have hmark : foilMark mf ended = countStray .foil ended := by
      unfold foilMark; rw [htaker]
    exact congrArg _ ((congrArg _ hmark).trans (measurementEnded_foil _))

end Sys2Proof.Proofs
end

section
/-! Print marks of good width by the tracker's state, and the coast point (R20 to R27, R36, R37). -/
namespace Sys2Proof.Proofs

open Sys2Proof.Machine Sys2Proof.Safety

/-! ## Records are made (R36, R37) -/

theorem createIn_eq_withRecord (o : Origin) (r : Pos) (w : Option Nat) (t : Track) :
    createIn o r w t = withRecord o r w t := by
  by_cases hroom : t.records.length < 64
  · have hkeep : makeRoom t = t := if_neg (Nat.not_le.2 hroom)
    simp only [createIn, withRecord, hkeep, if_pos hroom]
  · have hdrop : makeRoom t = { dropOldest t with overflow := satInc t.overflow } :=
      if_pos (Nat.not_lt.1 hroom)
    simp only [createIn, withRecord, hdrop, if_neg hroom]
    rfl

theorem createRecord_eq (o : Origin) (r : Pos) (w : Option Nat) (s : State) :
    createRecord o r w s = { s with track := withRecord o r w s.track } := by
  rw [← createIn_eq_withRecord]
  rfl

section
variable {sh : Sheet} {s : State} {x : Pos}

theorem lSub_of_active (h : s.sheets.active = some sh) : s.lSub = sh.params.lSub := by
  simp [State.lSub, State.active?, h]

/-! ## The coast point (R25, R26, R27) -/

theorem coast_eq_coasted (h : s.sheets.active = some sh) : coast s = coasted sh s := by
  unfold coast coasted
  rw [lSub_of_active h, createRecord_eq]
  by_cases hlost : s.tracker.state = .lost
  · simp only [hlost, if_true]
    rfl
  · simp only [hlost, if_false]
    by_cases hlimit : s.tracker.coast + 1 < s.items.mark.coastLimit
    · rw [if_neg (Nat.not_le.2 hlimit), if_pos hlimit]
      rfl
    · rw [if_pos (Nat.not_lt.1 hlimit), if_neg hlimit]
      rfl

/-- R25: a decision that waited is taken, with the wait cleared. -/
def takeDecision (sh : Sheet) (s : State) : State :=
  if s.tracker.waiting then coasted sh { s with tracker := { s.tracker with waiting := false } } else s

theorem measurementEnded_print_eq (h : s.sheets.active = some sh) :
    measurementEnded .print s = takeDecision sh s := by
  unfold takeDecision
  cases hw : s.tracker.waiting
  · exact measurementEnded_print_quiet hw
  · exact (measurementEnded_print_waiting hw).trans (coast_eq_coasted h)

/-- The tracker states in which a coast point counts (R25, R27). -/
def Expects (s : State) : Prop :=
  s.tracker.state = .locked ∨ s.tracker.state = .coast ∨ s.tracker.state = .lost

theorem coastTest_expects (h : Expects s) : coastTest s =
    if s.tracker.waiting then s
    else if coastPoint s then
      if coastWaits s then { s with tracker := { s.tracker with waiting := true } } else coast s
    else s := by
  unfold coastTest
  obtain h | h | h := h <;> rw [h]

theorem coastPoint_iff : coastPoint s = true ↔ 0 ≤ (BitVec.ofNat 40 (s.web.w.toNat * 256) -
    (s.tracker.eSub + BitVec.ofNat 40 (256 * s.items.mark.gP))).toInt := by
  rw [Nat.mul_comm 256]
  exact decide_eq_true_iff

theorem inPrintGate_iff : inPrintGate s x = true ↔
    (BitVec.ofNat 40 (x.toNat * 256) - s.tracker.eSub).toInt.natAbs ≤ 256 * s.items.mark.gP := by
  rw [Nat.mul_comm 256]
  exact decide_eq_true_iff

theorem coastWaits_iff : coastWaits s = true ↔ s.qual.print.state = .measuring ∧
    (s.tracker.state = .lost ∨ (BitVec.ofNat 40 (s.qual.print.lead.toNat * 256) -
      s.tracker.eSub).toInt.natAbs ≤ 256 * s.items.mark.gP) := by
  simp [coastWaits, inPrintGate_iff]

/-! ## A print mark by tracker state (R22, R23, R24) -/

theorem spacingPasses_iff (h : s.sheets.active = some sh) : spacingPasses s x = true ↔
    (BitVec.ofNat 40 (x.toNat * 256) - (BitVec.ofNat 40 (s.tracker.q.toNat * 256) +
      BitVec.ofNat 40 sh.params.lSub)).toInt.natAbs ≤ 256 * s.items.mark.gP := by
  rw [Nat.mul_comm 256, ← lSub_of_active h]
  exact decide_eq_true_iff

theorem acceptMark_eq (h : s.sheets.active = some sh) (width : Nat) : acceptMark x width s =
    { s with
      track := withRecord .marked x (some width) s.track
      tracker := { s.tracker with
        state := .locked, coast := 0, waiting := false,
        eSub := BitVec.ofNat 40 (x.toNat * 256) + BitVec.ofNat 40 sh.params.lSub } } := by
  unfold acceptMark
  rw [createRecord_eq, lSub_of_active h]
  rfl

theorem lock_eq (h : s.sheets.active = some sh) (width n : Nat) :
    lock x width { s with tracker := { s.tracker with q := x, k := n } } =
    { s with
      track := withRecord .marked x (some width) s.track
      tracker := { s.tracker with
        state := .locked, q := x, k := 0, coast := 0, waiting := false,
        eSub := BitVec.ofNat 40 (x.toNat * 256) + BitVec.ofNat 40 sh.params.lSub } } := by
  unfold lock
  rw [acceptMark_eq (s := { s with tracker := { s.tracker with q := x, k := n } }) h]

theorem printMark_accepted (hs : s.tracker.state = .locked ∨ s.tracker.state = .coast)
    (hx : inPrintGate s x = true) (width : Nat) : printMark x width s = acceptMark x width s := by
  unfold printMark
  obtain hs | hs := hs <;> rw [hs] <;> exact if_pos hx

theorem printMark_stray (hs : s.tracker.state = .locked ∨ s.tracker.state = .coast)
    (hx : ¬ inPrintGate s x = true) (width : Nat) : printMark x width s = countStray .print s := by
  unfold printMark
  obtain hs | hs := hs <;> rw [hs] <;> exact if_neg hx

theorem printMark_seeks (hs : s.tracker.state = .search ∨ s.tracker.state = .lost) (width : Nat) :
    printMark x width s = acquire x width s := by
  unfold printMark
  obtain hs | hs := hs <;> rw [hs]

theorem printMark_idle (hs : s.tracker.state = .idle) (width : Nat) : printMark x width s = s := by
  unfold printMark
  rw [hs]

theorem acquire_first (hk : s.tracker.k = 0 ∨ ¬ spacingPasses s x = true) (width : Nat) :
    acquire x width s = { s with tracker := { s.tracker with q := x, k := 1 } } := by
  unfold acquire
  exact if_pos (by simpa using hk)

theorem acquire_counts (hk : s.tracker.k ≠ 0) (hx : spacingPasses s x = true)
    (hn : s.tracker.k + 1 < s.items.mark.acquire) (width : Nat) :
    acquire x width s = { s with tracker := { s.tracker with q := x, k := s.tracker.k + 1 } } := by
  unfold acquire
  rw [if_neg (by simp [hk, hx])]
  exact if_neg (Nat.not_le.2 hn)

theorem acquire_locks (hk : s.tracker.k ≠ 0) (hx : spacingPasses s x = true)
    (hn : s.items.mark.acquire ≤ s.tracker.k + 1) (width : Nat) :
    acquire x width s =
      lock x width { s with tracker := { s.tracker with q := x, k := s.tracker.k + 1 } } := by
  unfold acquire
  rw [if_neg (by simp [hk, hx])]
  exact if_pos hn

end

/-! ## The falling edge of a print mark (R20) -/

/-- The state in which a mark's measurement has ended, before anything is made of the mark. -/
def markEnded (s : State) : State :=
  (setLevel .print false s).setQual .print { s.qual.print with state := .waiting }

section
variable {s u : State} {sh : Sheet} (hl : s.inputs.pmark = true) (hm : s.qual.print.state = .measuring)
include hl hm

theorem exec_printFall_good (hgood : s.qual.print.min ≤ markWidth .print s ∧
      markWidth .print s ≤ s.qual.print.max)
    (hu : printMark s.qual.print.lead (markWidth .print s).toNat (markEnded s) = u) :
    exec (.markTrailingEdge .print) s = .next (measurementEnded .print u) :=
  congrArg _ ((markFall_high (x := .print) hl).trans
    ((trailingEdge_good (x := .print) (s := setLevel .print false s) hm hgood.1 hgood.2).trans
      (congrArg _ hu)))

/-- A mark that clears the wait, or finds nothing waiting, has its effect alone. -/
theorem exec_printFall_quiet (hgood : s.qual.print.min ≤ markWidth .print s ∧
      markWidth .print s ≤ s.qual.print.max)
    (hu : printMark s.qual.print.lead (markWidth .print s).toNat (markEnded s) = u)
    (hw : u.tracker.waiting = false) : exec (.markTrailingEdge .print) s = .next u :=
  (exec_printFall_good hl hm hgood hu).trans (congrArg _ (measurementEnded_print_quiet hw))

/-- R25: any other mark has a waiting decision taken after its effect. -/
theorem exec_printFall_decided (hgood : s.qual.print.min ≤ markWidth .print s ∧
      markWidth .print s ≤ s.qual.print.max)
    (hu : printMark s.qual.print.lead (markWidth .print s).toNat (markEnded s) = u)
    (hactive : u.sheets.active = some sh) :
    exec (.markTrailingEdge .print) s = .next (takeDecision sh u) :=
  (exec_printFall_good hl hm hgood hu).trans (congrArg _ (measurementEnded_print_eq hactive))

theorem exec_printFall_bad (hactive : s.sheets.active = some sh)
    (hbad : ¬ (s.qual.print.min ≤ markWidth .print s ∧ markWidth .print s ≤ s.qual.print.max)) :
    exec (.markTrailingEdge .print) s = .next (takeDecision sh
      ((markEnded s).setQual .print { s.qual.print with
        state := .waiting, rejects := min (s.qual.print.rejects + 1) 65535 })) :=
  congrArg _ ((markFall_high (x := .print) hl).trans
    ((trailingEdge_bad (x := .print) (s := setLevel .print false s) hm hbad).trans
      (measurementEnded_print_eq hactive)))

end

/-- Settles O32: the falling edge case by tracker state, then the coast test. -/
theorem printMarkAcceptedInGate : Obligations.PrintMarkAcceptedInGate := by
  refine ⟨fun n o r w => ?_, fun sh s hactive hl hm => ?_, fun sh s hactive => ?_⟩
  · cases o <;> rfl
  · intro x width good k off spacing ended marked next decided locked seeks
    refine ⟨fun hs hgood hgate => ?_, fun hs hgood hgate => ?_, fun hs hgood _ hk => ?_,
      fun hs hgood _ hk hx hn => ?_, fun hs hgood hk hx hn => ?_, fun hs hgood hw => ?_, fun _ hbad => ?_⟩
    · exact exec_printFall_quiet hl hm hgood ((printMark_accepted (s := markEnded s) hs
        (inPrintGate_iff.2 hgate) _).trans (acceptMark_eq (s := markEnded s) hactive _)) rfl
    · have hout : ¬ inPrintGate (markEnded s) x = true := fun h =>
        Nat.not_le.2 hgate (inPrintGate_iff.1 h)
      exact exec_printFall_decided (sh := sh) hl hm hgood
        (printMark_stray (s := markEnded s) hs hout _) hactive
    · have hfirst : (markEnded s).tracker.k = 0 ∨ ¬ spacingPasses (markEnded s) x = true :=
        hk.imp_right fun hfar hpass => Nat.not_le.2 hfar ((spacingPasses_iff hactive).1 hpass)
      exact exec_printFall_decided (sh := sh) hl hm hgood
        ((printMark_seeks (s := markEnded s) hs _).trans (acquire_first hfirst _)) hactive
    · have hpass : spacingPasses (markEnded s) x = true := (spacingPasses_iff hactive).2 hx
      exact exec_printFall_decided (sh := sh) hl hm hgood
        ((printMark_seeks (s := markEnded s) hs _).trans (acquire_counts (s := markEnded s) hk hpass hn _)) hactive
    · have hpass : spacingPasses (markEnded s) x = true := (spacingPasses_iff hactive).2 hx
      exact exec_printFall_quiet hl hm hgood ((printMark_seeks (s := markEnded s) hs _).trans
        ((acquire_locks (s := markEnded s) hk hpass hn _).trans (lock_eq (s := markEnded s) hactive _ _))) rfl
    · exact exec_printFall_quiet hl hm hgood (printMark_idle (s := markEnded s) hs _) hw
    · exact exec_printFall_bad hl hm hactive hbad
  · intro past held
    refine ⟨fun h => ?_, fun h => ⟨coast_eq_coasted hactive, fun hw hp hheld => ?_, fun hw hp hheld => ?_⟩⟩
    · by_cases he : Expects s
      · rw [coastTest_expects he]
        obtain hp | hw | hidle | hsearch := h
        · have hpoint : ¬ coastPoint s = true := fun hc => by
            have := coastPoint_iff.1 hc
            omega
          rw [if_neg hpoint, ite_self]
        · exact if_pos hw
        · simp [Expects, hidle] at he
        · simp [Expects, hsearch] at he
      · unfold coastTest
        cases hstate : s.tracker.state <;> simp [Expects, hstate] at he <;> rfl
    · rw [coastTest_expects h, if_neg (by simp [hw]), if_pos (coastPoint_iff.2 hp),
        if_pos (coastWaits_iff.2 hheld)]
    · rw [coastTest_expects h, if_neg (by simp [hw]), if_pos (coastPoint_iff.2 hp),
        if_neg (fun hc => hheld (coastWaits_iff.1 hc)), coast_eq_coasted hactive]

end Sys2Proof.Proofs
end

section
/-! The five stations of the track: when each serves a record, and where it stops (R38, R40, R41, R43, R46). -/
namespace Sys2Proof.Proofs

open Sys2Proof.Machine Sys2Proof.Safety

/-! ## One record at a station -/

section
variable {n : Nat} {s : State} {r : LabelRecord}

theorem reached_iff (w x : Pos) : reached w x = true ↔ 0 ≤ (w - x).toInt := decide_eq_true_iff

theorem not_reached {w x : Pos} (h : (w - x).toInt < 0) : ¬ reached w x = true :=
  fun hx => Int.not_lt.2 ((reached_iff w x).1 hx) h

theorem serveNip_none (h : s.track.records[s.track.nip]? = none) : serveNip n s = s := by
  cases n with
  | zero => rfl
  | succ n => simp only [serveNip, h]

theorem serveNip_succ (h : s.track.records[s.track.nip]? = some r) : serveNip (n + 1) s =
    if reached s.web.w (posAdd r.r s.items.geo.dF) then serveNip n (nipEvent r s) else s := by
  simp only [serveNip, h]

theorem serveGate_none (h : s.track.records[s.track.gate]? = none) : serveGate n s = s := by
  cases n with
  | zero => rfl
  | succ n => simp only [serveGate, h]

theorem serveGate_succ (h : s.track.records[s.track.gate]? = some r) : serveGate (n + 1) s =
    if s.track.gateHeld then s
    else if gateDue s r then
      if gateBusy s r then { s with track := { s.track with gateHeld := true } }
      else serveGate n (gateTaken s)
    else s := by
  simp only [serveGate, h]

theorem serveEmboss_none (h : s.track.records[s.track.emboss]? = none) : serveEmboss n s = s := by
  cases n with
  | zero => rfl
  | succ n => simp only [serveEmboss, h]

theorem serveEmboss_succ (h : s.track.records[s.track.emboss]? = some r) : serveEmboss (n + 1) s =
    if embossDue s s.track.emboss r then serveEmboss n (embossEvent r s) else s := by
  simp only [serveEmboss, h]

theorem serveMarker_none (h : s.track.records[s.track.marker]? = none) : serveMarker n s = s := by
  cases n with
  | zero => rfl
  | succ n => simp only [serveMarker, h]

theorem serveMarker_succ (h : s.track.records[s.track.marker]? = some r) : serveMarker (n + 1) s =
    if reached s.web.w (posAdd r.r s.items.geo.dR) then serveMarker n (markerEvent r s) else s := by
  simp only [serveMarker, h]

theorem serveRemoval_none (h : s.track.records[0]? = none) : serveRemoval n s = s := by
  cases n with
  | zero => rfl
  | succ n =>
    have hempty : s.track.records = [] := by simpa using h
    simp only [serveRemoval, hempty]

theorem serveRemoval_succ (h : s.track.records[0]? = some r) : serveRemoval (n + 1) s =
    if reached s.web.w (posAdd r.r (s.items.geo.dR + s.items.geo.markerWidth)) then
      serveRemoval n { s with track := dropOldest s.track }
    else s := by
  obtain ⟨rest, hrecords⟩ : ∃ rest, s.track.records = r :: rest := by
    cases hl : s.track.records <;> simp_all
  simp only [serveRemoval, hrecords]

/-! ## The emboss nip's test with a sheet in force (R41) -/

/-- R41, R59: the due point of a record at the emboss nip under a sheet. -/
def embossAt (sh : Sheet) (s : State) (r : LabelRecord) : Pos :=
  match sh.params.ref, r.foil with
  | .foil, some (mf, _) => mf + BitVec.ofNat 32 (s.items.geo.dE - s.items.geo.dFS)
  | _, _ => r.r + BitVec.ofNat 32 s.items.geo.dE

variable {sh : Sheet}

theorem embossRef_of_active (h : s.sheets.active = some sh) : embossRef s = sh.params.ref := by
  simp [embossRef, State.active?, h]

theorem embossPoint_of_active (h : s.sheets.active = some sh) : embossPoint s r = embossAt sh s r := by
  unfold embossPoint embossAt
  rw [embossRef_of_active h]
  rfl

theorem embossAt_congr {t : State} (h : t.items = s.items) : embossAt sh t r = embossAt sh s r := by
  unfold embossAt
  rw [h]

theorem embossDue_iff (h : s.sheets.active = some sh) (k : Nat) : embossDue s k r = true ↔
    ¬ (sh.params.ref = .foil ∧ r.foil = none ∧ s.track.gate ≤ k) ∧
      0 ≤ (s.web.w - embossAt sh s r).toInt := by
  unfold embossDue
  rw [embossRef_of_active h, embossPoint_of_active h, Bool.and_eq_true, reached_iff]
  cases sh.params.ref <;> cases r.foil <;> simp

theorem gateDue_iff : gateDue s r = true ↔
    0 ≤ (s.web.w - (r.r + BitVec.ofNat 32 (s.items.geo.dFS + s.items.mark.gF))).toInt :=
  reached_iff _ _

theorem gateBusy_iff : gateBusy s r = true ↔ s.qual.foil.state = .measuring ∧
    (s.qual.foil.lead - (r.r + BitVec.ofNat 32 s.items.geo.dFS)).toInt.natAbs ≤ s.items.mark.gF := by
  simp [gateBusy, inFoilGate, posDiff, posAdd]

end

/-! ## What a loop changes of the track (R57 to R65) -/

/-- Of the track, only the record at an index is changed. -/
def ChangesRecord (k : Nat) (s t : State) : Prop :=
  ∃ g, t.track = { s.track with records := s.track.records.modify k g }

section
variable {k : Nat} {s t u : State}

theorem changesRecord_of_track (h : t.track = s.track) : ChangesRecord k s t :=
  ⟨id, by rw [h, List.modify_id]⟩

theorem changesRecord_trans (h : ChangesRecord k s t) (h' : ChangesRecord k t u) :
    ChangesRecord k s u := by
  obtain ⟨f, hf⟩ := h
  obtain ⟨g, hg⟩ := h'
  exact ⟨g ∘ f, by rw [hg, hf, List.modify_modify_eq]⟩

theorem changesRecord_changeRecord (k : Nat) (g : LabelRecord → LabelRecord) (s : State) :
    ChangesRecord k s (s.changeRecord k g) := ⟨g, rfl⟩

theorem changesRecord_correct (c : Cyl) (k : Nat) (m : BitVec 16) (e : Int) (s : State) :
    ChangesRecord k s (correct c k m e s) := by
  simp [ChangesRecord, correct]

theorem changesRecord_raised (h : ChangesRecord k s t) (b : Bool) (r : Raise) (c : Cyl) (x : Loop) :
    ChangesRecord k s (raiseIf b r (t.setLoop c x)) :=
  changesRecord_trans h (changesRecord_of_track (by simp))

theorem changesRecord_judge (c : Cyl) (k : Nat) (m : BitVec 16) (e : Int) (s : State) :
    ChangesRecord k s (judge c k m e s) := by
  have hput : ChangesRecord k s (if (s.items.loop.get c).tol < e.natAbs then
      (s.changeRecord k (putError c e)).changeRecord k (withReason (outOfRegister c))
      else s.changeRecord k (putError c e)) := by
    split
    · exact changesRecord_trans (changesRecord_changeRecord k _ s) (changesRecord_changeRecord k _ _)
    · exact changesRecord_changeRecord k _ s
  unfold judge
  dsimp only
  split
  · exact changesRecord_trans (changesRecord_raised hput _ _ c _) (changesRecord_correct c k m e _)
  · exact changesRecord_raised hput _ _ c _

theorem changesRecord_measure (c : Cyl) (k : Nat) (r : LabelRecord) (b : Bool) (due : Pos) (s : State) :
    ChangesRecord k s (Machine.measure c k r b due s) := by
  unfold Machine.measure
  dsimp only
  (repeat' split)
  · exact changesRecord_of_track rfl
  · exact changesRecord_of_track rfl
  · exact changesRecord_changeRecord k _ s
  · exact changesRecord_judge c k _ _ s

end

/-! ## What an event changes of the track: its record, and its cursor by one -/

section
variable (r : LabelRecord) (s : State)

theorem nipEvent_track : ∃ g, (nipEvent r s).track = { s.track with
    nip := s.track.nip + 1, records := s.track.records.modify s.track.nip g } := by
  obtain ⟨g, hg⟩ := changesRecord_measure .f s.track.nip r (r.origin == .marked)
    (posAdd r.r s.items.geo.dF) _
  exact ⟨_, hg.trans (by rw [State.changeRecord, changeAt, List.modify_modify_eq])⟩

theorem embossEvent_track : ∃ g, (embossEvent r s).track = { s.track with
    emboss := s.track.emboss + 1, records := s.track.records.modify s.track.emboss g } := by
  obtain ⟨g, hg⟩ := changesRecord_measure .e s.track.emboss r
    (embossKnown (refUsedFor (embossRef s) r) r) (embossPoint s r) _
  exact ⟨_, hg.trans (by rw [State.changeRecord, changeAt, List.modify_modify_eq])⟩

theorem serveEmboss_length (n : Nat) :
    (serveEmboss n s).track.records.length = s.track.records.length := by
  induction n generalizing s with
  | zero => rfl
  | succ n ih =>
    unfold serveEmboss
    split
    · rfl
    · next rec _ =>
      obtain ⟨g, hg⟩ := embossEvent_track rec s
      split
      · rw [ih, hg, List.length_modify]
      · rfl

theorem verdictIn_length (mask : Reasons) (k : Nat) (t : Track) :
    (verdictIn mask k t).records.length = t.records.length := by
  unfold verdictIn
  (repeat' split) <;> simp [reevalRej, changeAt]

theorem markerEvent_length : (markerEvent r s).track.records.length = s.track.records.length := by
  refine (verdictIn_length _ _ _).trans ?_
  split
  · exact (serveEmboss_length _ _).trans (List.length_modify _ _ _)
  · rfl

end

/-! ## A station with fuel for the whole track stops at a record that is not due (R38) -/

/-- A station that serves the records ahead of its cursor one by one, till what it stops at is `Stops`. -/
structure Station (serve : Nat → State → State) (ahead : State → Nat) (Stops : State → Prop) : Prop where
  none_ahead : ∀ n s, ahead s = 0 → Stops (serve n s)
  one_ahead : ∀ n s, ahead s ≠ 0 → Stops (serve (n + 1) s) ∨
    ∃ t, ahead t + 1 = ahead s ∧ serve (n + 1) s = serve n t

theorem station_stops {serve : Nat → State → State} {ahead : State → Nat} {Stops : State → Prop}
    (h : Station serve ahead Stops) (n : Nat) (s : State) (hn : ahead s ≤ n) : Stops (serve n s) := by
  induction n generalizing s with
  | zero => exact h.none_ahead 0 s (Nat.le_zero.1 hn)
  | succ n ih =>
    by_cases hzero : ahead s = 0
    · exact h.none_ahead (n + 1) s hzero
    · obtain hstops | ⟨t, hahead, hserve⟩ := h.one_ahead n s hzero
      · exact hstops
      · rw [hserve]
        exact ih t (by omega)

/-- What is so of the record at an index, if one is there. -/
def HoldsAt (s : State) (k : Nat) (P : LabelRecord → Prop) : Prop :=
  ∀ r, s.track.records[k]? = some r → P r

section
variable {s : State} {k : Nat} {r : LabelRecord} {P : LabelRecord → Prop}

theorem none_of_ahead (h : s.track.records.length - k = 0) : s.track.records[k]? = none :=
  List.getElem?_eq_none (Nat.le_of_sub_eq_zero h)

theorem some_of_ahead (h : s.track.records.length - k ≠ 0) : ∃ r, s.track.records[k]? = some r :=
  ⟨_, List.getElem?_eq_getElem (Nat.lt_of_sub_ne_zero h)⟩

theorem holdsAt_none (h : s.track.records[k]? = none) : HoldsAt s k P := fun r hr => by
  rw [h] at hr
  cases hr

theorem holdsAt_some (h : s.track.records[k]? = some r) (hp : P r) : HoldsAt s k P := fun r' hr => by
  rw [h] at hr
  cases hr
  exact hp

theorem ahead_of_event {t : State} (h : s.track.records.length - k ≠ 0)
    (hlength : t.track.records.length = s.track.records.length) :
    t.track.records.length - (k + 1) + 1 = s.track.records.length - k := by
  omega

end

theorem station_nip : Station serveNip (fun s => s.track.records.length - s.track.nip)
    (fun s => HoldsAt s s.track.nip fun r =>
      ¬ reached s.web.w (posAdd r.r s.items.geo.dF) = true) where
  none_ahead n s h := by
    rw [serveNip_none (none_of_ahead h)]
    exact holdsAt_none (none_of_ahead h)
  one_ahead n s h := by
    obtain ⟨r, hr⟩ := some_of_ahead h
    rw [serveNip_succ hr]
    split
    · obtain ⟨g, hg⟩ := nipEvent_track r s
      exact .inr ⟨_, by simpa [hg] using ahead_of_event h rfl, rfl⟩
    · next hdue => exact .inl (holdsAt_some hr hdue)

theorem station_gate : Station serveGate (fun s => s.track.records.length - s.track.gate)
    (fun s => HoldsAt s s.track.gate fun r => s.track.gateHeld = true ∨ ¬ gateDue s r = true) where
  none_ahead n s h := by
    rw [serveGate_none (none_of_ahead h)]
    exact holdsAt_none (none_of_ahead h)
  one_ahead n s h := by
    obtain ⟨r, hr⟩ := some_of_ahead h
    rw [serveGate_succ hr]
    (repeat' split)
    · next hheld => exact .inl (holdsAt_some hr (.inl hheld))
    · exact .inl (holdsAt_some hr (.inl rfl))
    · exact .inr ⟨_, ahead_of_event (t := gateTaken s) h rfl, rfl⟩
    · next hdue => exact .inl (holdsAt_some hr (.inr hdue))

theorem station_emboss : Station serveEmboss (fun s => s.track.records.length - s.track.emboss)
    (fun s => HoldsAt s s.track.emboss fun r => ¬ embossDue s s.track.emboss r = true) where
  none_ahead n s h := by
    rw [serveEmboss_none (none_of_ahead h)]
    exact holdsAt_none (none_of_ahead h)
  one_ahead n s h := by
    obtain ⟨r, hr⟩ := some_of_ahead h
    rw [serveEmboss_succ hr]
    split
    · obtain ⟨g, hg⟩ := embossEvent_track r s
      exact .inr ⟨_, by simpa [hg] using ahead_of_event h rfl, rfl⟩
    · next hdue => exact .inl (holdsAt_some hr hdue)

theorem station_marker : Station serveMarker (fun s => s.track.records.length - s.track.marker)
    (fun s => HoldsAt s s.track.marker fun r =>
      ¬ reached s.web.w (posAdd r.r s.items.geo.dR) = true) where
  none_ahead n s h := by
    rw [serveMarker_none (none_of_ahead h)]
    exact holdsAt_none (none_of_ahead h)
  one_ahead n s h := by
    obtain ⟨r, hr⟩ := some_of_ahead h
    rw [serveMarker_succ hr]
    split
    · exact .inr ⟨_, ahead_of_event h (markerEvent_length r s), rfl⟩
    · next hdue => exact .inl (holdsAt_some hr hdue)

theorem station_removal : Station serveRemoval (fun s => s.track.records.length - 0)
    (fun s => HoldsAt s 0 fun r =>
      ¬ reached s.web.w (posAdd r.r (s.items.geo.dR + s.items.geo.markerWidth)) = true) where
  none_ahead n s h := by
    rw [serveRemoval_none (none_of_ahead h)]
    exact holdsAt_none (none_of_ahead h)
  one_ahead n s h := by
    obtain ⟨r, hr⟩ := some_of_ahead h
    rw [serveRemoval_succ hr]
    split
    · refine .inr ⟨_, ?_, rfl⟩
      have hdrop : (dropOldest s.track).records.length = s.track.records.length - 1 := List.length_tail
      simp only [hdrop]
      omega
    · next hdue => exact .inl (holdsAt_some hr hdue)

end Sys2Proof.Proofs
end

section
/-! What the events of the stations write, and the verdict at the marker (R39, R42, R43, R44, R45). -/
namespace Sys2Proof.Proofs

open Sys2Proof.Machine Sys2Proof.Safety

theorem modify_congr {k : Nat} {l : List LabelRecord} {rec : LabelRecord}
    {f g : LabelRecord → LabelRecord} (hrec : l[k]? = some rec) (h : f rec = g rec) :
    l.modify k f = l.modify k g := by
  refine List.ext_getElem? fun j => ?_
  rw [List.getElem?_modify, List.getElem?_modify]
  split
  · next hj =>
    subst hj
    rw [hrec]
    exact congrArg some h
  · rfl

theorem getElem?_modify_same {k : Nat} {l : List LabelRecord} {rec : LabelRecord}
    (hrec : l[k]? = some rec) (f : LabelRecord → LabelRecord) : (l.modify k f)[k]? = some (f rec) := by
  rw [List.getElem?_modify_eq, hrec]
  rfl

/-! ## The verdict (R44, R45) -/

/-- The records with a verdict at an index. -/
def judgedAt (v : Verdict) (k : Nat) (l : List LabelRecord) : List LabelRecord :=
  l.modify k fun r => { r with verdict := v }

/-- R45: a record with verdict REJECT in the track holds the reject output on. -/
theorem rejectLevel_judged {k : Nat} {l : List LabelRecord} {rec : LabelRecord} (hrec : l[k]? = some rec) :
    rejectLevel (judgedAt .reject k l) = true := by
  have hmem := List.mem_of_getElem? (getElem?_modify_same hrec fun r => { r with verdict := .reject })
  exact List.any_eq_true.2 ⟨_, hmem, rfl⟩

section
variable {k : Nat} {t : Track} {mask : Reasons} {rec : LabelRecord}

theorem verdictIn_reject (hrec : t.records[k]? = some rec) (h : rec.reasons &&& mask ≠ 0) :
    verdictIn mask k t = { t with
      records := judgedAt .reject k t.records, bad := min (t.bad + 1) 65535, rej := true } := by
  have hrej : rejected rec.reasons mask = true := bne_iff_ne.2 h
  simp only [verdictIn, hrec, if_pos hrej, reevalRej]
  rw [← rejectLevel_judged hrec]
  rfl

theorem verdictIn_good (hrec : t.records[k]? = some rec) (h : rec.reasons &&& mask = 0) :
    verdictIn mask k t = { t with
      records := judgedAt .good k t.records, good := min (t.good + 1) 65535,
      rej := (judgedAt .good k t.records).any (·.verdict == .reject) } := by
  have hrej : ¬ rejected rec.reasons mask = true := by simp [rejected, h]
  simp only [verdictIn, hrec, if_neg hrej]
  rfl

end

/-- R43, R44: the marker's own part of its event: the verdict, and the cursor moved on. -/
def markerVerdict (k : Nat) (s : State) : State :=
  { s with track := { verdictIn s.items.rejectMask k s.track with marker := k + 1 } }

theorem markerEvent_eq (rec : LabelRecord) (s : State) : markerEvent rec s =
    markerVerdict s.track.marker (if s.track.emboss ≤ s.track.marker then
      embossByMarker s.track.marker rec s else s) := rfl

section
variable {s : State} {k : Nat} {rec : LabelRecord} (hrec : s.track.records[k]? = some rec)
include hrec

theorem markerVerdict_reject (h : rec.reasons &&& s.items.rejectMask ≠ 0) : markerVerdict k s =
    { s with track := { s.track with
      records := judgedAt .reject k s.track.records, bad := min (s.track.bad + 1) 65535,
      marker := k + 1, rej := true } } := by
  rw [markerVerdict, verdictIn_reject hrec h]

theorem markerVerdict_good (h : rec.reasons &&& s.items.rejectMask = 0) : markerVerdict k s =
    { s with track := { s.track with
      records := judgedAt .good k s.track.records, good := min (s.track.good + 1) 65535,
      marker := k + 1,
      rej := (judgedAt .good k s.track.records).any (·.verdict == .reject) } } := by
  rw [markerVerdict, verdictIn_good hrec h]

end

section
variable {s : State} {k : Nat} {rec : LabelRecord}

theorem markerEvent_pastEmboss (h : s.track.marker < s.track.emboss) :
    markerEvent rec s = markerVerdict s.track.marker s := by
  rw [markerEvent_eq, if_neg (Nat.not_le.2 h)]

/-! ## The emboss nip brought forward by the marker (R43) -/

/-- The record at an index written, and the emboss cursor behind it. -/
def embossTaken (k : Nat) (g : LabelRecord → LabelRecord) (s : State) : State :=
  { s with track := { s.track with records := s.track.records.modify k g, emboss := k + 1 } }

/-- The fields that the emboss nip writes, with the reason of a measurement that is not taken. -/
def broughtForward (used : RefUsed) (off : Bool) (r : LabelRecord) : LabelRecord :=
  withReason .eNoMeasure (embossFields used off r)

theorem serveEmboss_rests (h : HoldsAt s s.track.emboss fun r => embossDue s s.track.emboss r = false)
    (n : Nat) : serveEmboss n s = s := by
  cases hr : s.track.records[s.track.emboss]? with
  | none => exact serveEmboss_none hr
  | some r =>
    cases n with
    | zero => rfl
    | succ n => rw [serveEmboss_succ hr, if_neg (by simp [h r hr])]

theorem embossByMarker_alone (hnext : HoldsAt s (k + 1) fun r => embossDue s (k + 1) r = false) :
    embossByMarker k rec s =
      embossTaken k (broughtForward (refUsedFor (embossRef s) rec) (embossOff s)) s := by
  refine serveEmboss_rests (fun r hr => hnext r ?_) _
  rwa [← List.getElem?_modify_ne _ _ (Nat.ne_of_lt (Nat.lt_succ_self k))]

theorem markerEvent_broughtForward (h : s.track.emboss ≤ s.track.marker)
    (hnext : HoldsAt s (s.track.marker + 1) fun r => embossDue s (s.track.marker + 1) r = false) :
    markerEvent rec s = markerVerdict s.track.marker (embossTaken s.track.marker
      (broughtForward (refUsedFor (embossRef s) rec) (embossOff s)) s) := by
  rw [markerEvent_eq, if_pos h, embossByMarker_alone hnext]

end

/-- The record and its verdict written at once. -/
theorem judgedAt_modify {k : Nat} {l : List LabelRecord} {rec : LabelRecord} (hrec : l[k]? = some rec)
    {g g' : LabelRecord → LabelRecord} {v : Verdict} (h : { g rec with verdict := v } = g' rec) :
    judgedAt v k (l.modify k g) = l.modify k g' :=
  (List.modify_modify_eq _ _ _ _).trans (modify_congr hrec h)

/-! ## The sheet in force at the nips (R39, R42, R58) -/

section
variable {s : State} {sh : Sheet} {rec : LabelRecord}

theorem embossOff_of_active (h : s.sheets.active = some sh) :
    embossOff s = (sh.params.usesE && s.seq.e.state != .on) := by
  simp only [embossOff, State.active?, h]
  rfl

theorem refUsedFor_eq (ref : EmbossRef) (rec : LabelRecord) : refUsedFor ref rec =
    if ref = .print then .print else if rec.foil.isSome then .foil else .fallback := by
  cases ref <;> cases h : rec.foil <;> simp [refUsedFor, h]

theorem embossFields_eq (used : RefUsed) (off : Bool) (r : LabelRecord) : embossFields used off r =
    { r with
      refUsed := some used,
      reasons := r.reasons ||| (if used = .fallback then 0x100#9 else 0) |||
        (if off then 0x080#9 else 0) } := by
  cases used <;> cases off <;> simp [embossFields, addReason, reasonBit]

theorem broughtForward_foil (rec : LabelRecord) (off : Bool) (r : LabelRecord) :
    broughtForward (refUsedFor .foil rec) off r =
    { r with
      refUsed := some (if rec.foil.isSome then .foil else .fallback),
      reasons := r.reasons ||| (if rec.foil.isSome then 0 else 0x100#9) |||
        (if off then 0x080#9 else 0) ||| 0x020#9 } := by
  rw [broughtForward, embossFields_eq, refUsedFor_eq]
  cases rec.foil.isSome <;> rfl

theorem nipFields_eq (gen : Option Nat) (usesF on : Bool) (p : PerLane Bool) (r : LabelRecord) :
    nipFields gen usesF on p r =
    { r with
      gen := gen, fOn := some on, parked := p,
      reasons := r.reasons ||| (if usesF && !on then 0x008#9 else 0) |||
        (if p.l0 || p.l1 || p.l2 || p.l3 then 0x010#9 else 0) } := by
  unfold nipFields anyLane
  cases usesF && !on <;> cases p.l0 || p.l1 || p.l2 || p.l3 <;> simp [addReason, reasonBit]

theorem nipEvent_of_active (h : s.sheets.active = some sh) : nipEvent rec s =
    Machine.measure .f s.track.nip rec (rec.origin == .marked) (posAdd rec.r s.items.geo.dF)
      { s with track := { s.track with
        nip := s.track.nip + 1
        records := s.track.records.modify s.track.nip (nipFields (some sh.gen) sh.params.usesF
          (s.seq.f.state == .on) (parkedLanes s)) } } := by
  unfold nipEvent
  simp only [State.active?, h]
  rfl

theorem embossEvent_of_active (h : s.sheets.active = some sh) : embossEvent rec s =
    Machine.measure .e s.track.emboss rec (embossKnown (refUsedFor sh.params.ref rec) rec)
      (embossAt sh s rec) (embossTaken s.track.emboss
        (embossFields (refUsedFor sh.params.ref rec) (sh.params.usesE && s.seq.e.state != .on)) s) := by
  unfold embossEvent
  rw [embossRef_of_active h, embossPoint_of_active h, embossOff_of_active h]
  rfl

theorem embossKnown_eq (ref : EmbossRef) (rec : LabelRecord) :
    embossKnown (refUsedFor ref rec) rec = match refUsedFor ref rec with
      | .foil => true
      | .print | .fallback => rec.origin == .marked := by
  cases ref <;> cases h : rec.foil <;> simp [refUsedFor, embossKnown, h]

theorem embossAt_eq (sh : Sheet) (s : State) (rec : LabelRecord) :
    embossAt sh s rec = match refUsedFor sh.params.ref rec, rec.foil with
      | .foil, some (mf, _) => mf + BitVec.ofNat 32 (s.items.geo.dE - s.items.geo.dFS)
      | _, _ => rec.r + BitVec.ofNat 32 s.items.geo.dE := by
  unfold embossAt
  cases sh.params.ref <;> cases h : rec.foil <;> simp [refUsedFor, h]

end

/-- Settles O34: each clause from the station's or the event's own equation. -/
theorem markerDecidesVerdict : Obligations.MarkerDecidesVerdict := by
  refine ⟨fun s => ⟨rfl, fun h => if_pos h⟩, fun n s => ?_, fun rec s hrec hpast => ?_,
    fun rec sh s hrec hactive href hemboss hnext => ?_, fun rec sh s hrec hactive => ?_,
    fun rec sh s hrec hactive => ?_⟩
  · refine ⟨fun r hr => ?_, fun r hr => ?_, fun r sh hr hactive => ?_, fun r hr => ?_, fun r hr => ?_,
      fun hn => ?_⟩
    · exact ⟨fun h => (serveNip_succ hr).trans (if_neg (not_reached h)),
        fun h => (serveNip_succ hr).trans (if_pos ((reached_iff _ _).2 h))⟩
    · refine ⟨fun h => (serveGate_succ hr).trans ?_, fun hheld hdue hbusy => ?_,
        fun hheld hdue hfree => ?_⟩
      · by_cases hheld : s.track.gateHeld = true
        · exact if_pos hheld
        · have hahead : ¬ gateDue s r = true := fun hdue =>
            h.elim hheld fun hnot => hnot (gateDue_iff.1 hdue)
          rw [if_neg hheld, if_neg hahead]
      · rw [serveGate_succ hr, if_neg (by simp [hheld]), if_pos (gateDue_iff.2 hdue),
          if_pos (gateBusy_iff.2 hbusy)]
      · rw [serveGate_succ hr, if_neg (by simp [hheld]), if_pos (gateDue_iff.2 hdue),
          if_neg (mt gateBusy_iff.1 hfree)]
        rfl
    · refine ⟨fun h => (serveEmboss_succ hr).trans (if_neg fun hdue => ?_),
        fun hwaits h => (serveEmboss_succ hr).trans (if_pos ((embossDue_iff hactive _).2 ⟨hwaits, h⟩))⟩
      obtain ⟨hwaits, hreached⟩ := (embossDue_iff hactive _).1 hdue
      exact h.elim hwaits (Int.not_lt.2 hreached)
    · exact ⟨fun h => (serveMarker_succ hr).trans (if_neg (not_reached h)),
        fun h => (serveMarker_succ hr).trans (if_pos ((reached_iff _ _).2 h))⟩
    · exact ⟨fun h => (serveRemoval_succ hr).trans (if_neg (not_reached h)),
        fun h => (serveRemoval_succ hr).trans (if_pos ((reached_iff _ _).2 h))⟩
    · have hahead (k : Nat) : s.track.records.length - k ≤ n := (Nat.sub_le _ _).trans hn
      refine ⟨?_, ?_, ?_, ?_, ?_⟩ <;> rintro t r rfl hr
      · have h := station_stops station_nip n s (hahead _) r hr
        simpa [reached_iff, posAdd] using h
      · have h := station_stops station_gate n s (hahead _) r hr
        simpa [gateDue_iff] using h
      · intro sh hactive
        have h := mt (embossDue_iff hactive _).2 (station_stops station_emboss n s (hahead _) r hr)
        rw [not_and_or, not_not, Int.not_le, embossAt_congr (s := s) (by simp)] at h
        exact h.symm
      · have h := station_stops station_marker n s (hahead _) r hr
        simpa [reached_iff, posAdd] using h
      · have h := station_stops station_removal n s (hahead _) r hr
        simpa [reached_iff, posAdd] using h
  · rw [markerEvent_pastEmboss hpast]
    exact ⟨fun h => markerVerdict_reject hrec h, fun h => markerVerdict_good hrec h⟩
  · intro k reasons used judged
    let eOff := sh.params.usesE && s.seq.e.state != .on
    let written := broughtForward (refUsedFor .foil rec) eOff
    have hfields := broughtForward_foil rec eOff rec
    have hmarker : markerEvent rec s = markerVerdict k (embossTaken k written s) := by
      rw [markerEvent_broughtForward hemboss hnext, embossRef_of_active hactive,
        embossOff_of_active hactive, href]
    have hwritten : (embossTaken k written s).track.records[k]? = some (written rec) :=
      getElem?_modify_same hrec written
    have hreasons : (written rec).reasons = reasons := congrArg (·.reasons) hfields
    have hjudged (v : Verdict) : judgedAt v k (embossTaken k written s).track.records = judged v :=
      judgedAt_modify hrec (congrArg (fun r => { r with verdict := v }) hfields)
    rw [hmarker]
    refine ⟨fun h => ?_, fun h => ?_⟩
    · rw [markerVerdict_reject hwritten (hreasons ▸ h), hjudged]
      rfl
    · rw [markerVerdict_good hwritten (hreasons ▸ h), hjudged]
      rfl
  · intro k parked off
    rw [nipEvent_of_active hactive, funext (nipFields_eq _ _ _ _)]
    rfl
  · intro k used off known due
    rw [embossEvent_of_active hactive, embossKnown_eq, embossAt_eq, funext (embossFields_eq _ _),
      refUsedFor_eq]
    rfl

end Sys2Proof.Proofs
end

section
/-! TRACK FLUSH (R48) and COUNTERS CLEAR (R186). -/
namespace Sys2Proof.Proofs

open Sys2Proof.Machine Sys2Proof.Safety Sys2Proof.Laws

theorem flushTracker_eq (t : Tracker) : flushTracker t = if t.state = .idle then t
    else { t with state := .search, k := 0, coast := 0, waiting := false } := rfl

/-- R48: TRACK FLUSH as its frame meets the Link Port. -/
theorem exec_trackFlush {s : State} (h : Ready s) : exec .trackFlush s =
    .next (answered 0x41 ⟨.ok, []⟩ { s with
      track := emptyTrack s.track, tracker := flushTracker s.tracker }) :=
  congrArg Host.Outcome.next (hostRequest_answered h 0x41 (op := trackFlushReq) rfl rfl)

/-- R186: COUNTERS CLEAR as its frame meets the Link Port: its own frame's count is cleared with the rest. -/
theorem exec_countersClear {s : State} (h : Ready s) : exec .countersClear s =
    .next (formReply 0x53 ⟨.ok, []⟩ (clearCounters (heard s))) :=
  congrArg Host.Outcome.next (hostRequest_ready h 0x53 countersClearReq)

/-- Settles O57: each request is its operation between the frame heard and the reply formed. -/
theorem flushAndCountersClear : Obligations.FlushAndCountersClear := by
  intro s h
  refine ⟨?_, _, exec_countersClear h, rfl, fun c => ?_, fun x => ?_, rfl, fun l => ?_, rfl, rfl⟩
  · rw [exec_trackFlush h, flushTracker_eq]
    rfl
  · cases c <;> rfl
  · cases x <;> rfl
  · cases l <;> rfl

end Sys2Proof.Proofs
end

section
/-! What the stations, the trackers and reverse motion may do to the track, said once: `TrackMoves` (R30, R36
to R47), and the bounds and the reject level that every move keeps. -/
namespace Sys2Proof.Proofs

open Sys2Proof.Machine Sys2Proof.Safety

/-! ## The moves of a track -/

/-- What a record keeps while it is in the track, the verdict till the marker (R36, R44). -/
def stamp (r : LabelRecord) : Pos × Verdict := (r.r, r.verdict)

/-- `u` is `t` after moves that make at most `n` records. -/
inductive TrackMoves : Nat → Track → Track → Prop
  | trans {m n : Nat} {t u v : Track} : TrackMoves m t u → TrackMoves n u v → TrackMoves (m + n) t v
  | mono {m n : Nat} {t u : Track} : m ≤ n → TrackMoves m t u → TrackMoves n t u
  | annotate {t : Track} {l : List LabelRecord} (h : l.map stamp = t.records.map stamp) :
      TrackMoves 0 t { t with records := l }
  | nip {t : Track} (h : t.nip < t.records.length) : TrackMoves 0 t { t with nip := t.nip + 1 }
  | hold {t : Track} (h : t.gate < t.records.length) : TrackMoves 0 t { t with gateHeld := true }
  | gate {t : Track} (h : t.gate < t.records.length ∨ t.gateHeld = true) :
      TrackMoves 0 t { t with gate := t.gate + 1, gateHeld := false }
  | emboss {t : Track} {k : Nat} (h : k < t.records.length) : TrackMoves 0 t { t with emboss := k + 1 }
  | verdict {t : Track} {k : Nat} (mask : Reasons) (h : k < t.records.length) :
      TrackMoves 0 t { verdictIn mask k t with marker := k + 1 }
  | oldest (t : Track) : TrackMoves 0 t (dropOldest t)
  | newest (t : Track) : TrackMoves 0 t (dropNewest t)
  | create (o : Origin) (r : Pos) (w : Option Nat) (t : Track) : TrackMoves 1 t (createIn o r w t)

section
variable {n : Nat} {t u v : Track}

theorem trackMoves_refl (t : Track) : TrackMoves n t t :=
  .mono (Nat.zero_le n) (.annotate (l := t.records) rfl)

theorem trackMoves_of_eq (h : u = t) : TrackMoves n t u := h.symm ▸ trackMoves_refl t

theorem trackMoves_after (h : TrackMoves 0 t u) (h' : TrackMoves n u v) : TrackMoves n t v :=
  .mono (Nat.zero_add n).le (.trans h h')

theorem trackMoves_before (h : TrackMoves n t u) (h' : TrackMoves 0 u v) : TrackMoves n t v := .trans h h'

end

/-! ## What the moves keep of bounds and reject output (R36, R45) -/

/-- R36, R45: the track alone. -/
structure TrackLegal (t : Track) : Prop where
  length : t.records.length ≤ 64
  nip : t.nip ≤ t.records.length
  gate : t.gate ≤ t.records.length
  emboss : t.emboss ≤ t.records.length
  marker : t.marker ≤ t.records.length
  held : t.gateHeld = true → t.gate < t.records.length
  rej : t.rej = rejectLevel t.records

theorem rejectLevel_iff (l : List LabelRecord) :
    rejectLevel l = true ↔ ∃ r, r ∈ l ∧ r.verdict = .reject := by
  simp [rejectLevel]

theorem trackLegal_iff {s : State} : TrackSound s ∧ RejectSound s ↔ TrackLegal s.track := by
  constructor
  · rintro ⟨⟨hlength, hnip, hgate, hemboss, hmarker, hheld⟩, hrej⟩
    exact ⟨hlength, hnip, hgate, hemboss, hmarker, hheld,
      Bool.eq_iff_iff.2 (hrej.trans (rejectLevel_iff _).symm)⟩
  · intro h
    refine ⟨⟨h.length, h.nip, h.gate, h.emboss, h.marker, h.held⟩, ?_⟩
    rw [RejectSound, h.rej]
    exact rejectLevel_iff _

theorem length_of_stamps {l l' : List LabelRecord} (h : l'.map stamp = l.map stamp) :
    l'.length = l.length := by simpa using congrArg List.length h

theorem rejectLevel_of_stamps {l l' : List LabelRecord} (h : l'.map stamp = l.map stamp) :
    rejectLevel l' = rejectLevel l := by
  have hany (l : List LabelRecord) : rejectLevel l = (l.map stamp).any (·.2 == .reject) := by
    simp [rejectLevel, stamp, List.any_map, Function.comp_def]
  rw [hany, hany, h]

/-- A new record has no verdict, and takes the cursors that stood behind the newest (R36, R38). -/
theorem trackLegal_append {t : Track} (h : TrackLegal t) (hroom : t.records.length < 64)
    (n : BitVec 16) (o : Origin) (r : Pos) (w : Option Nat) :
    TrackLegal { t with records := t.records ++ [newRecord n o r w], nextSerial := n + 1 } := by
  have hlength : (t.records ++ [newRecord n o r w]).length = t.records.length + 1 := List.length_append
  exact {
    length := hlength ▸ hroom
    nip := hlength ▸ Nat.le_succ_of_le h.nip
    gate := hlength ▸ Nat.le_succ_of_le h.gate
    emboss := hlength ▸ Nat.le_succ_of_le h.emboss
    marker := hlength ▸ Nat.le_succ_of_le h.marker
    held := fun hheld => hlength ▸ Nat.lt_succ_of_lt (h.held hheld)
    rej := h.rej.trans (by simp [rejectLevel, newRecord]) }

/-- R37, R46: the cursors move down with the records. -/
theorem trackLegal_dropOldest {t : Track} (h : TrackLegal t) : TrackLegal (dropOldest t) := by
  have hlength : (dropOldest t).records.length = t.records.length - 1 := List.length_tail
  refine {
    length := hlength ▸ (Nat.sub_le _ _).trans h.length
    nip := hlength ▸ Nat.sub_le_sub_right h.nip 1
    gate := hlength ▸ Nat.sub_le_sub_right h.gate 1
    emboss := hlength ▸ Nat.sub_le_sub_right h.emboss 1
    marker := hlength ▸ Nat.sub_le_sub_right h.marker 1
    held := fun hheld => ?_
    rej := rfl }
  obtain ⟨hheld, hne⟩ := Bool.and_eq_true_iff.1 hheld
  exact hlength ▸ Nat.sub_lt_sub_right (Nat.pos_of_ne_zero (bne_iff_ne.1 hne)) (h.held hheld)

/-- R47: a cursor on the newest record stands on none after it. -/
theorem trackLegal_dropNewest {t : Track} (h : TrackLegal t) : TrackLegal (dropNewest t) := by
  have hlength : (dropNewest t).records.length = t.records.length - 1 := List.length_dropLast
  refine {
    length := hlength ▸ (Nat.sub_le _ _).trans h.length
    nip := hlength ▸ Nat.min_le_right _ _
    gate := hlength ▸ Nat.min_le_right _ _
    emboss := hlength ▸ Nat.min_le_right _ _
    marker := hlength ▸ Nat.min_le_right _ _
    held := fun hheld => ?_
    rej := rfl }
  obtain ⟨hheld, hne⟩ := Bool.and_eq_true_iff.1 hheld
  have hnewest := bne_iff_ne.1 hne
  have hlt := h.held hheld
  have hgate : (dropNewest t).gate = min t.gate (t.records.length - 1) := rfl
  omega

theorem trackLegal_overflow {t : Track} (h : TrackLegal t) (n : Nat) :
    TrackLegal { t with overflow := n } :=
  ⟨h.length, h.nip, h.gate, h.emboss, h.marker, h.held, h.rej⟩

theorem trackLegal_createIn {t : Track} (h : TrackLegal t) (o : Origin) (r : Pos) (w : Option Nat) :
    TrackLegal (createIn o r w t) := by
  unfold createIn makeRoom
  split
  · next hfull =>
    have hmax : 64 ≤ t.records.length := hfull
    have hroom : (dropOldest t).records.length < 64 := by
      have hlength : (dropOldest t).records.length = t.records.length - 1 := List.length_tail
      have hle := h.length
      omega
    have hdropped := trackLegal_overflow (trackLegal_dropOldest h) (satInc t.overflow)
    exact trackLegal_append hdropped hroom _ o r w
  · next hroom => exact trackLegal_append h (Nat.not_le.1 hroom) _ o r w

theorem verdictIn_cursors (mask : Reasons) (k : Nat) (t : Track) :
    (verdictIn mask k t).nip = t.nip ∧ (verdictIn mask k t).gate = t.gate ∧
    (verdictIn mask k t).emboss = t.emboss ∧ (verdictIn mask k t).nextSerial = t.nextSerial := by
  unfold verdictIn; (repeat' split) <;> exact ⟨rfl, rfl, rfl, rfl⟩

/-- R45: the reject output is re-evaluated with a verdict. -/
theorem verdictIn_rej {t : Track} {k : Nat} (hk : k < t.records.length) (mask : Reasons) :
    (verdictIn mask k t).rej = rejectLevel (verdictIn mask k t).records := by
  unfold verdictIn
  rw [List.getElem?_eq_getElem hk]
  dsimp only
  split <;> rfl

/-- R44, R45: a verdict is written, and the marker moves on. -/
theorem trackLegal_verdict {t : Track} {k : Nat} (h : TrackLegal t) (hk : k < t.records.length)
    (mask : Reasons) : TrackLegal { verdictIn mask k t with marker := k + 1 } := by
  have hlength := verdictIn_length mask k t
  obtain ⟨hnip, hgate, hemboss, -⟩ := verdictIn_cursors mask k t
  exact {
    length := hlength.trans_le h.length
    nip := by rw [hnip, hlength]; exact h.nip
    gate := by rw [hgate, hlength]; exact h.gate
    emboss := by rw [hemboss, hlength]; exact h.emboss
    marker := by rw [hlength]; exact hk
    held := fun hheld => by
      rw [hgate, hlength]
      exact h.held ((verdictIn_held mask k t).symm.trans hheld)
    rej := verdictIn_rej hk mask }

theorem trackLegal_of_moves {n : Nat} {t u : Track} (h : TrackMoves n t u) :
    TrackLegal t → TrackLegal u := by
  induction h with
  | trans _ _ ih ih' => exact ih' ∘ ih
  | mono _ _ ih => exact ih
  | annotate hstamps =>
    rintro ⟨hlength, hnip, hgate, hemboss, hmarker, hheld, hrej⟩
    rw [← length_of_stamps hstamps] at *
    exact ⟨hlength, hnip, hgate, hemboss, hmarker, hheld, hrej.trans (rejectLevel_of_stamps hstamps).symm⟩
  | nip hlt => exact fun h => { h with nip := hlt }
  | hold hlt => exact fun h => { h with held := fun _ => hlt }
  | gate hlt => exact fun h => { h with gate := hlt.elim id h.held, held := nofun }
  | emboss hlt => exact fun h => { h with emboss := hlt }
  | verdict mask hlt => exact fun h => trackLegal_verdict h hlt mask
  | oldest => exact trackLegal_dropOldest
  | newest => exact trackLegal_dropNewest
  | create o r w => exact fun h => trackLegal_createIn h o r w

/-! ## What the moves keep of the positions (R36) -/

/-- The positions of the records, the oldest first. -/
def positions (t : Track) : List Pos := t.records.map (·.r)

/-- The positions of `u` are some of those of `t`, in order, and then some of at most `n` records made since. -/
def Extends (n : Nat) (t u : Track) : Prop :=
  ∃ m ≤ n, u.nextSerial = t.nextSerial + BitVec.ofNat 16 m ∧ ∃ old new,
    positions u = old ++ new ∧ old.Sublist (positions t) ∧ new.length ≤ m

theorem extends_of_sublist {n : Nat} {t u : Track} (hserial : u.nextSerial = t.nextSerial)
    (h : (positions u).Sublist (positions t)) : Extends n t u :=
  ⟨0, Nat.zero_le n, by simp [hserial], positions u, [], by simp, h, Nat.le_refl 0⟩

theorem extends_trans {m n : Nat} {t u v : Track} (h : Extends m t u) (h' : Extends n u v) :
    Extends (m + n) t v := by
  obtain ⟨a, ha, hserial, old, new, hu, hold, hnew⟩ := h
  obtain ⟨b, hb, hserial', old', new', hv, hold', hnew'⟩ := h'
  rw [hu] at hold'
  obtain ⟨kept, made, rfl, hkept, hmade⟩ := List.sublist_append_iff.1 hold'
  refine ⟨a + b, Nat.add_le_add ha hb, ?_, kept, made ++ new', by rw [hv, List.append_assoc],
    hkept.trans hold, ?_⟩
  · rw [hserial', hserial, BitVec.ofNat_add, BitVec.add_assoc]
  · have := hmade.length_le
    rw [List.length_append]
    omega

theorem positions_of_stamps {t : Track} {l : List LabelRecord} (h : l.map stamp = t.records.map stamp) :
    positions { t with records := l } = positions t := by
  have hfst (l : List LabelRecord) : l.map (·.r) = (l.map stamp).map (·.1) := by simp [stamp]
  simp only [positions]
  rw [hfst, hfst, h]

theorem positions_verdictIn (mask : Reasons) (k : Nat) (t : Track) :
    positions (verdictIn mask k t) = positions t := by
  have hmodify (v : Verdict) : (changeAt k (fun r => { r with verdict := v }) t.records).map (·.r) =
      t.records.map (·.r) := by
    refine List.ext_getElem? fun j => ?_
    rw [changeAt, List.getElem?_map, List.getElem?_map, List.getElem?_modify]
    split <;> cases t.records[j]? <;> rfl
  unfold verdictIn
  (repeat' split)
  · rfl
  · exact hmodify .reject
  · exact hmodify .good

/-- R36, R37: the new position is the last. -/
theorem extends_createIn (o : Origin) (r : Pos) (w : Option Nat) (t : Track) :
    Extends 1 t (createIn o r w t) := by
  have hroom : (makeRoom t).nextSerial = t.nextSerial ∧
      (positions (makeRoom t)).Sublist (positions t) := by
    unfold makeRoom
    split
    · exact ⟨rfl, (List.tail_sublist _).map _⟩
    · exact ⟨rfl, .refl _⟩
  refine ⟨1, Nat.le_refl 1, ?_, positions (makeRoom t), [r], ?_, hroom.2, Nat.le_refl 1⟩
  · rw [← hroom.1]
    rfl
  · simp [createIn, positions, newRecord]

theorem extends_of_moves {n : Nat} {t u : Track} (h : TrackMoves n t u) : Extends n t u := by
  induction h with
  | trans _ _ ih ih' => exact extends_trans ih ih'
  | mono hle _ ih =>
    obtain ⟨m, hm, h⟩ := ih
    exact ⟨m, hm.trans hle, h⟩
  | annotate h => exact extends_of_sublist rfl (positions_of_stamps h ▸ .refl _)
  | verdict mask _ =>
    exact extends_of_sublist (verdictIn_cursors mask _ _).2.2.2
      ((congrArg (List.Sublist · _) (positions_verdictIn mask _ _)).mpr (.refl _))
  | oldest => exact extends_of_sublist rfl ((List.tail_sublist _).map _)
  | newest => exact extends_of_sublist rfl ((List.dropLast_sublist _).map _)
  | create o r w t => exact extends_createIn o r w t
  | nip => exact extends_of_sublist rfl (.refl _)
  | hold => exact extends_of_sublist rfl (.refl _)
  | gate => exact extends_of_sublist rfl (.refl _)
  | emboss => exact extends_of_sublist rfl (.refl _)

end Sys2Proof.Proofs
end

section
/-! The stations, the trackers and reverse motion change the track by `TrackMoves` alone, and make few records
(R25 to R31, R38 to R47). -/
namespace Sys2Proof.Proofs

open Sys2Proof.Machine Sys2Proof.Safety

/-! ## The loops (R57 to R65) -/

/-- Of the track, at most the fields of records are written that are no position and no verdict. -/
def Annotates (s t : State) : Prop :=
  ∃ l, t.track = { s.track with records := l } ∧ l.map stamp = s.track.records.map stamp

theorem annotates_of_track {s t : State} (h : t.track = s.track) : Annotates s t :=
  ⟨s.track.records, h, rfl⟩

theorem annotates_trans {s t u : State} (h : Annotates s t) (h' : Annotates t u) : Annotates s u := by
  obtain ⟨l, ht, hl⟩ := h
  obtain ⟨m, hu, hm⟩ := h'
  rw [ht] at hu hm
  exact ⟨m, hu, hm.trans hl⟩

theorem annotates_changeRecord (k : Nat) {g : LabelRecord → LabelRecord} (hg : ∀ r, stamp (g r) = stamp r)
    (s : State) : Annotates s (s.changeRecord k g) := by
  refine ⟨_, rfl, List.ext_getElem? fun j => ?_⟩
  rw [changeAt, List.getElem?_map, List.getElem?_map, List.getElem?_modify]
  split <;> cases s.track.records[j]? <;> simp [hg]

theorem trackMoves_of_annotates {s t : State} (h : Annotates s t) : TrackMoves 0 s.track t.track := by
  obtain ⟨l, ht, hl⟩ := h
  exact ht ▸ .annotate hl

theorem stamp_putError (c : Cyl) (e : Int) (r : LabelRecord) : stamp (putError c e r) = stamp r := by
  cases c <;> rfl

theorem stamp_putCorr (c : Cyl) (x : Int) (r : LabelRecord) : stamp (putCorr c x r) = stamp r := by
  cases c <;> rfl

theorem stamp_withReason (x : Reason) (r : LabelRecord) : stamp (withReason x r) = stamp r := rfl

theorem stamp_nipFields (gen : Option Nat) (usesF on : Bool) (p : PerLane Bool) (r : LabelRecord) :
    stamp (nipFields gen usesF on p r) = stamp r := rfl

theorem stamp_embossFields (used : RefUsed) (off : Bool) (r : LabelRecord) :
    stamp (embossFields used off r) = stamp r := rfl

theorem stamp_putFoil (n : Nat) (mf : Pos) (r : LabelRecord) : stamp (putFoil n mf r) = stamp r := rfl

theorem annotates_correct (c : Cyl) (k : Nat) (n : BitVec 16) (e : Int) (s : State) :
    Annotates s (correct c k n e s) := by
  have hraised (b : Bool) (r : Raise) : Annotates s (raiseIf b r s) := annotates_of_track (by simp)
  have hput (t : State) (x : Int) : Annotates t (t.changeRecord k (putCorr c x)) :=
    annotates_changeRecord k (stamp_putCorr c x) t
  have hcommit (t : State) (l : Loop) (x : Int) : Annotates t (commitTrim c x (t.setLoop c l)) :=
    annotates_of_track (by simp)
  exact annotates_trans (annotates_trans (hraised _ _) (hput _ _)) (hcommit _ _ _)

theorem annotates_judge (c : Cyl) (k : Nat) (n : BitVec 16) (e : Int) (s : State) :
    Annotates s (judge c k n e s) := by
  have hput : Annotates s (if (s.items.loop.get c).tol < e.natAbs then
      (s.changeRecord k (putError c e)).changeRecord k (withReason (outOfRegister c))
      else s.changeRecord k (putError c e)) := by
    have herror := annotates_changeRecord k (stamp_putError c e) s
    split
    · exact annotates_trans herror (annotates_changeRecord k (stamp_withReason _) _)
    · exact herror
  have hraised (b : Bool) (r : Raise) (x : Loop) (t : State) : Annotates t (raiseIf b r (t.setLoop c x)) :=
    annotates_of_track (by simp)
  unfold judge
  dsimp only
  split
  · exact annotates_trans (annotates_trans hput (hraised _ _ _ _)) (annotates_correct c k n e _)
  · exact annotates_trans hput (hraised _ _ _ _)

theorem annotates_measure (c : Cyl) (k : Nat) (r : LabelRecord) (b : Bool) (due : Pos) (s : State) :
    Annotates s (Machine.measure c k r b due s) := by
  unfold Machine.measure
  dsimp only
  (repeat' split)
  · exact annotates_of_track rfl
  · exact annotates_of_track rfl
  · exact annotates_changeRecord k (stamp_withReason _) s
  · exact annotates_judge c k _ _ s

/-! ## The stations (R38 to R46) -/

section
variable {s : State} {r : LabelRecord}

theorem lt_of_getElem? {l : List LabelRecord} {k : Nat} (h : l[k]? = some r) : k < l.length :=
  (List.getElem?_eq_some_iff.1 h).1

theorem lt_changeRecord {k : Nat} (h : s.track.records[k]? = some r) (g : LabelRecord → LabelRecord) :
    k < (s.changeRecord k g).track.records.length := by
  simpa [changeAt] using lt_of_getElem? h

theorem trackMoves_nipEvent (h : s.track.records[s.track.nip]? = some r) :
    TrackMoves 0 s.track (nipEvent r s).track := by
  refine trackMoves_after ?_ (trackMoves_of_annotates (annotates_measure _ _ _ _ _ _))
  exact trackMoves_after
    (trackMoves_of_annotates (annotates_changeRecord s.track.nip (stamp_nipFields _ _ _ _) s))
    (.nip (lt_changeRecord h _))

/-- A record written at the emboss nip, and the cursor behind it. -/
theorem trackMoves_embossed {k : Nat} (h : s.track.records[k]? = some r) {g : LabelRecord → LabelRecord}
    (hg : ∀ r, stamp (g r) = stamp r) : TrackMoves 0 s.track
      { (s.changeRecord k g).track with emboss := k + 1 } :=
  trackMoves_after (trackMoves_of_annotates (annotates_changeRecord k hg s)) (.emboss (lt_changeRecord h g))

theorem trackMoves_embossEvent (h : s.track.records[s.track.emboss]? = some r) :
    TrackMoves 0 s.track (embossEvent r s).track := by
  refine trackMoves_after ?_ (trackMoves_of_annotates (annotates_measure _ _ _ _ _ _))
  exact trackMoves_embossed h (stamp_embossFields _ _)

variable (s)

theorem trackMoves_serveNip (n : Nat) : TrackMoves 0 s.track (serveNip n s).track := by
  induction n generalizing s with
  | zero => exact trackMoves_refl _
  | succ n ih =>
    unfold serveNip
    split
    · exact trackMoves_refl _
    · next hr =>
      split
      · exact trackMoves_after (trackMoves_nipEvent hr) (ih _)
      · exact trackMoves_refl _

theorem trackMoves_serveGate (n : Nat) : TrackMoves 0 s.track (serveGate n s).track := by
  induction n generalizing s with
  | zero => exact trackMoves_refl _
  | succ n ih =>
    unfold serveGate
    split
    · exact trackMoves_refl _
    · next hr =>
      have hlt := lt_of_getElem? hr
      (repeat' split)
      · exact trackMoves_refl _
      · exact .hold hlt
      · exact trackMoves_after (.gate (.inl hlt)) (ih (gateTaken s))
      · exact trackMoves_refl _

theorem trackMoves_serveEmboss (n : Nat) : TrackMoves 0 s.track (serveEmboss n s).track := by
  induction n generalizing s with
  | zero => exact trackMoves_refl _
  | succ n ih =>
    unfold serveEmboss
    split
    · exact trackMoves_refl _
    · next hr =>
      split
      · exact trackMoves_after (trackMoves_embossEvent hr) (ih _)
      · exact trackMoves_refl _

variable {s}

/-- R43, R44: the record at the marker stays where it is while the emboss nip is brought forward. -/
theorem trackMoves_markerEvent (h : s.track.records[s.track.marker]? = some r) :
    TrackMoves 0 s.track (markerEvent r s).track := by
  have hlt := lt_of_getElem? h
  unfold markerEvent
  dsimp only
  split
  · have hlength : (embossByMarker s.track.marker r s).track.records.length = s.track.records.length :=
      (serveEmboss_length _ _).trans (List.length_modify _ _ _)
    have hemboss : TrackMoves 0 s.track (embossByMarker s.track.marker r s).track := by
      refine trackMoves_after ?_ (trackMoves_serveEmboss _ _)
      exact trackMoves_embossed h fun r => (stamp_withReason _ _).trans (stamp_embossFields _ _ r)
    exact trackMoves_after hemboss (.verdict _ (hlength ▸ hlt))
  · exact .verdict _ hlt

variable (s)

theorem trackMoves_serveMarker (n : Nat) : TrackMoves 0 s.track (serveMarker n s).track := by
  induction n generalizing s with
  | zero => exact trackMoves_refl _
  | succ n ih =>
    unfold serveMarker
    split
    · exact trackMoves_refl _
    · next hr =>
      split
      · exact trackMoves_after (trackMoves_markerEvent hr) (ih _)
      · exact trackMoves_refl _

theorem trackMoves_serveRemoval (n : Nat) : TrackMoves 0 s.track (serveRemoval n s).track := by
  induction n generalizing s with
  | zero => exact trackMoves_refl _
  | succ n ih =>
    unfold serveRemoval
    (repeat' split)
    · exact trackMoves_refl _
    · refine trackMoves_after ?_ (ih _)
      exact .oldest s.track
    · exact trackMoves_refl _

/-- R38: the five stations. -/
theorem trackMoves_serveStations : TrackMoves 0 s.track (serveStations s).track :=
  trackMoves_after (trackMoves_serveNip s _) (trackMoves_after (trackMoves_serveGate _ _)
    (trackMoves_after (trackMoves_serveEmboss _ _) (trackMoves_after (trackMoves_serveMarker _ _)
      (trackMoves_serveRemoval _ _))))

/-- R40: the event that is released is one that is held. -/
theorem trackMoves_releaseGate : TrackMoves 0 s.track (releaseGate s).track := by
  unfold releaseGate
  split
  · next hheld =>
    exact trackMoves_after (.gate (.inr hheld)) (trackMoves_after
      (trackMoves_serveGate (gateTaken s) s.track.records.length) (trackMoves_serveEmboss _ _))
  · exact trackMoves_refl _

/-- R28, R47. -/
theorem trackMoves_reverseRemoval (n : Nat) : TrackMoves 0 s.track (reverseRemoval n s).track := by
  induction n generalizing s with
  | zero => exact trackMoves_refl _
  | succ n ih =>
    unfold reverseRemoval
    (repeat' split)
    · exact trackMoves_refl _
    · refine trackMoves_after ?_ (ih _)
      exact .newest s.track
    · exact trackMoves_refl _

/-! ## The trackers (R22 to R31) -/

theorem trackMoves_coast : TrackMoves 1 s.track (coast s).track := by
  have hmade : TrackMoves 1 s.track (createRecord .predicted (roundSub s.tracker.eSub) none s).track :=
    .create _ _ _ _
  unfold coast
  dsimp only
  (repeat' split)
  · exact hmade
  · simpa using hmade
  · exact hmade

theorem trackMoves_coastTest : TrackMoves 1 s.track (coastTest s).track := by
  by_cases h : Expects s
  · rw [coastTest_expects h]
    (repeat' split)
    · exact trackMoves_refl _
    · exact trackMoves_refl _
    · exact trackMoves_coast s
    · exact trackMoves_refl _
  · have hrest : coastTest s = s := by unfold coastTest; split <;> simp_all [Expects]
    exact trackMoves_of_eq (congrArg State.track hrest)

theorem trackMoves_acquire (x : Pos) (w : Nat) : TrackMoves 1 s.track (acquire x w s).track := by
  unfold acquire
  dsimp only
  (repeat' split)
  · exact trackMoves_refl _
  · exact .create _ _ _ _
  · exact trackMoves_refl _

theorem trackMoves_qualified (x : Sensor) (p : Pos) (w : Nat) :
    TrackMoves 1 s.track (qualified x p w s).track := by
  cases x with
  | print =>
    have hgate : TrackMoves 1 s.track (if inPrintGate s p then acceptMark p w s
        else countStray .print s).track := by
      split
      · exact .create _ _ _ _
      · exact trackMoves_refl _
    unfold qualified printMark
    dsimp only
    split
    · exact trackMoves_refl _
    · exact trackMoves_acquire s p w
    · exact trackMoves_acquire s p w
    · exact hgate
    · exact hgate
  | foil =>
    unfold qualified foilMark
    dsimp only
    split
    · exact .mono (Nat.zero_le 1) (trackMoves_of_annotates (annotates_changeRecord _ (stamp_putFoil _ _) s))
    · exact trackMoves_refl _

/-- R20, R25, R31. -/
theorem trackMoves_measurementEnded (x : Sensor) : TrackMoves 1 s.track (measurementEnded x s).track := by
  unfold measurementEnded
  split
  · split
    · exact trackMoves_coast { s with tracker := { s.tracker with waiting := false } }
    · exact trackMoves_refl _
  · exact .mono (Nat.zero_le 1) (trackMoves_releaseGate s)

theorem trackMoves_rejectMark (x : Sensor) (st : QualState) :
    TrackMoves 1 s.track (rejectMark x st s).track := trackMoves_measurementEnded (s.setQual x _) x

theorem trackMoves_trailingEdge (x : Sensor) : TrackMoves 2 s.track (trailingEdge x s).track := by
  unfold trailingEdge
  dsimp only
  (repeat' split)
  · exact trackMoves_refl _
  · exact trackMoves_refl _
  · exact .trans (trackMoves_qualified (s.setQual x _) x _ _) (trackMoves_measurementEnded _ x)
  · exact .mono (Nat.le_succ 1) (trackMoves_rejectMark s x _)

theorem trackMoves_qualForward (x : Sensor) : TrackMoves 1 s.track (qualForward x s).track := by
  unfold qualForward
  dsimp only
  split
  · exact trackMoves_rejectMark s x _
  · exact trackMoves_refl _

theorem trackMoves_qualReverse (x : Sensor) : TrackMoves 1 s.track (qualReverse x s).track := by
  unfold qualReverse
  split
  · exact trackMoves_rejectMark s x _
  · exact trackMoves_refl _

/-- R2, R20: both qualifiers on a forward count, and the coast test. -/
theorem trackMoves_trackers :
    TrackMoves 3 s.track (coastTest (qualForward .foil (qualForward .print s))).track :=
  .trans (.trans (trackMoves_qualForward s .print) (trackMoves_qualForward _ .foil)) (trackMoves_coastTest _)

/-- R20: both qualifiers on a reverse count. -/
theorem trackMoves_qualsBack : TrackMoves 2 s.track (qualsBack s).track :=
  .trans (trackMoves_qualReverse s .print) (trackMoves_qualReverse _ .foil)

end

end Sys2Proof.Proofs
end

section
/-! The bounds of the track and the reject output hold after every step (R36, R45). -/
namespace Sys2Proof.Proofs

open Sys2Proof.Machine Sys2Proof.Safety

/-- The bounds of the track and the reject output as an invariant of states. -/
def Legal (s : State) : Prop := TrackLegal s.track

theorem legal_of_track {s t : State} (h : Legal s) (ht : t.track = s.track) : Legal t := by
  rw [Legal, ht]
  exact h

theorem legal_of_moves {n : Nat} {s t : State} (h : TrackMoves n s.track t.track) (hs : Legal s) :
    Legal t := trackLegal_of_moves h hs

theorem trackLegal_emptyTrack (t : Track) : TrackLegal (emptyTrack t) := by
  constructor <;> simp [emptyTrack, rejectLevel]

theorem legal_reset : Legal State.reset := by
  obtain ⟨-, -, htrack, -, hrej⟩ := track_reset
  exact trackLegal_iff.1 ⟨htrack, hrej⟩

theorem legal_forwardCount {s : State} (h : Legal s) : Legal (forwardCount s) := by
  have hcounted : Legal (publish (stepBoth .advance { s with web := moveWeb .forward s.web })) :=
    legal_of_track h (by simp)
  have hserved := legal_of_moves (trackMoves_serveStations _) hcounted
  exact legal_of_track (legal_of_moves (trackMoves_trackers _) hserved) (by simp [forwardCount])

theorem legal_reverseCount {s : State} (h : Legal s) : Legal (reverseCount s) := by
  have hcounted : Legal (publish (stepBoth .retard { s with web := moveWeb .reverse s.web })) :=
    legal_of_track h (by simp)
  exact legal_of_moves (trackMoves_reverseRemoval _ _) (legal_of_moves (trackMoves_qualsBack _) hcounted)

theorem writeMark_track (i : MarkItem) (v : Nat) (s : State) : (writeMark i v s).1.track = s.track := by
  rw [writeMark_eq]
  (repeat' split) <;> rfl

theorem writeGeo_track (i : GeoItem) (v : Nat) (s : State) : (writeGeo i v s).1.track = s.track := by
  rw [writeGeo_eq]
  (repeat' split) <;> simp

theorem gateEnd_frame (s : State) : (gateEnd s).track = s.track ∧ (gateEnd s).items = s.items ∧
    (gateEnd s).web = gateWeb s.items.web s.web := by
  unfold gateEnd gateEndStore
  dsimp only
  split <;> simp

theorem indexArrival_frame (c : Cyl) (s : State) : (indexArrival c s).track = s.track ∧
    (indexArrival c s).items = s.items ∧ (indexArrival c s).web = s.web := by
  unfold indexArrival takeIndex countArrival
  split <;> simp

theorem markRise_frame (x : Sensor) (s : State) : (markRise x s).track = s.track ∧
    (markRise x s).items = s.items ∧ (markRise x s).web = s.web := by
  unfold markRise
  split <;> simp

theorem placeSheet_frame (sh : Sheet) (s : State) : (placeSheet sh s).1.track = s.track ∧
    (placeSheet sh s).1.items = s.items ∧ (placeSheet sh s).1.web = s.web := by
  unfold placeSheet
  split <;> simp

theorem commitSheet_frame (s : State) : (commitSheet s).1.track = s.track ∧
    (commitSheet s).1.items = s.items ∧ (commitSheet s).1.web = s.web := by
  unfold commitSheet noteCommit
  (repeat' split) <;> simp [placeSheet_frame]

theorem trackMoves_markFall (x : Sensor) (s : State) : TrackMoves 2 s.track (markFall x s).track := by
  unfold markFall
  split
  · simpa using trackMoves_trailingEdge (setLevel x false s) x
  · exact trackMoves_refl _

theorem persists_legal : Persists Legal where
  same hsame h := legal_of_track h hsame.track
  forward := legal_forwardCount
  reverse := legal_reverseCount
  gate h := legal_of_track h (gateEnd_frame _).1
  index c h := legal_of_track h (indexArrival_frame c _).1
  rise x h := legal_of_track h (markRise_frame x _).1
  fall x := legal_of_moves (trackMoves_markFall x _)
  pulse c h := legal_of_track h (by simp)
  mark i v h := legal_of_track h (writeMark_track i v _)
  geo i v h := legal_of_track h (writeGeo_track i v _)
  commit h := legal_of_track h (commitSheet_frame _).1
  flush _ := trackLegal_emptyTrack _
  clear h := ⟨h.length, h.nip, h.gate, h.emboss, h.marker, h.held, h.rej⟩
  runtime _ := trackLegal_emptyTrack _
  full _ _ := legal_of_track legal_reset rfl

end Sys2Proof.Proofs
end

section
/-! Records in strictly increasing R between W and the removal point: what a count, a removal and a new record
do to it (R2, R36, R46, R47). -/
namespace Sys2Proof.Proofs

open Sys2Proof.Machine Sys2Proof.Safety

/-! ## Ages: how far W has run past a position (R2) -/

section
variable {a b w : Pos}

/-- R2: W moved on by one. -/
theorem age_succ (h : (w - a).toInt < 2147483647) : (w + 1 - a).toInt = (w - a).toInt + 1 := by
  simp only [BitVec.toInt_eq_toNat_cond] at *
  bv_omega

/-- R2: W moved back by one. -/
theorem age_pred (h : -2147483648 < (w - a).toInt) : (w - 1 - a).toInt = (w - a).toInt - 1 := by
  simp only [BitVec.toInt_eq_toNat_cond] at *
  bv_omega

/-- Of two ages that do not wrap, the greater R has the smaller. -/
theorem age_lt (ha : -1 ≤ (w - a).toInt) (ha' : (w - a).toInt < 1073741824)
    (hb : -1 ≤ (w - b).toInt) (hb' : (w - b).toInt < 1073741824) (h : 0 < (b - a).toInt) :
    (w - b).toInt < (w - a).toInt := by
  simp only [BitVec.toInt_eq_toNat_cond] at *
  bv_omega

/-- The age past a point `n` counts on. -/
theorem age_posAdd {n : Nat} (hn : n < 1073741824) (h : 0 ≤ (w - a).toInt) :
    (w - posAdd a n).toInt = (w - a).toInt - n := by
  simp only [posAdd, BitVec.toInt_eq_toNat_cond] at *
  bv_omega

/-- A position is ahead of W as W is behind it. -/
theorem age_neg (h : -2147483648 < (w - a).toInt) : (a - w).toInt = -(w - a).toInt := by
  simp only [BitVec.toInt_eq_toNat_cond] at *
  bv_omega

end

/-! ## Positions in order, and their ages in a range (R36) -/

/-- The positions strictly increase, and their ages at `w` lie between `lo` and `hi`. -/
def Spread (lo hi : Int) (w : Pos) (ps : List Pos) : Prop :=
  ps.Pairwise (fun a b => 0 < (b - a).toInt) ∧ ∀ p ∈ ps, lo ≤ (w - p).toInt ∧ (w - p).toInt ≤ hi

/-- R46: the age at which a record is removed. -/
def removalAge (s : State) : Nat := s.items.geo.dR + s.items.geo.markerWidth

theorem orderSound_iff {s : State} :
    OrderSound s ↔ Spread 0 (removalAge s) s.web.w (positions s.track) := by
  simp [OrderSound, Spread, removalAge, positions, List.pairwise_map]

section
variable {lo hi : Int} {w : Pos} {ps : List Pos}

theorem spread_sublist {qs : List Pos} (h : Spread lo hi w ps) (hq : qs.Sublist ps) : Spread lo hi w qs :=
  ⟨h.1.sublist hq, fun p hp => h.2 p (hq.subset hp)⟩

theorem spread_mono {lo' hi' : Int} (h : Spread lo hi w ps) (hlo : lo' ≤ lo) (hhi : hi ≤ hi') :
    Spread lo' hi' w ps :=
  ⟨h.1, fun p hp => ⟨hlo.trans (h.2 p hp).1, (h.2 p hp).2.trans hhi⟩⟩

theorem spread_succ (h : Spread lo hi w ps) (hhi : hi < 2147483647) :
    Spread (lo + 1) (hi + 1) (w + 1) ps := by
  refine ⟨h.1, fun p hp => ?_⟩
  obtain ⟨hle, hge⟩ := h.2 p hp
  rw [age_succ (hge.trans_lt hhi)]
  omega

theorem spread_pred (h : Spread lo hi w ps) (hlo : -2147483648 < lo) :
    Spread (lo - 1) (hi - 1) (w - 1) ps := by
  refine ⟨h.1, fun p hp => ?_⟩
  obtain ⟨hle, hge⟩ := h.2 p hp
  rw [age_pred (hlo.trans_le hle)]
  omega

/-- R46: with the oldest not at its removal point, no record is past it. -/
theorem spread_removed {n : Nat} (h : Spread 0 hi w ps) (hhi : hi < 1073741824) (hn : n < 1073741824)
    (hhead : ∀ p, ps.head? = some p → (w - posAdd p n).toInt < 0) : Spread 0 n w ps := by
  obtain ⟨horder, hage⟩ := h
  refine ⟨horder, fun p hp => ⟨(hage p hp).1, ?_⟩⟩
  cases ps with
  | nil => cases hp
  | cons q qs =>
    have hq := hage q (by simp)
    have hdue := hhead q rfl
    rw [age_posAdd hn hq.1] at hdue
    rcases List.mem_cons.1 hp with rfl | hmem
    · omega
    · have hbehind := hage p hp
      have hlt := age_lt (w := w) (by omega) (by omega) (by omega) (by omega)
        (List.rel_of_pairwise_cons horder hmem)
      omega

/-- R47: with the newest not ahead of W, no record is. -/
theorem spread_behind (h : Spread (-1) hi w ps) (hhi : hi < 1073741824)
    (hlast : ∀ p, ps.getLast? = some p → (p - w).toInt ≤ 0) : Spread 0 hi w ps := by
  obtain ⟨horder, hage⟩ := h
  refine ⟨horder, fun p hp => ⟨?_, (hage p hp).2⟩⟩
  rcases List.eq_nil_or_concat ps with rfl | ⟨qs, q, rfl⟩
  · cases hp
  · rw [List.concat_eq_append] at horder hage hlast hp
    have hq := hage q (by simp)
    have hnot := hlast q (by simp)
    rw [age_neg (by omega)] at hnot
    rcases List.mem_append.1 hp with hmem | hmem
    · have hbehind := hage p hp
      have hlt := age_lt (w := w) (by omega) (by omega) (by omega) (by omega)
        ((List.pairwise_append.1 horder).2.2 p hmem q (by simp))
      omega
    · obtain rfl := List.mem_singleton.1 hmem
      omega

theorem spread_concat {x : Pos} (h : Spread lo hi w ps) (hx : ∀ a ∈ ps, 0 < (x - a).toInt)
    (hlo : lo ≤ (w - x).toInt) (hhi : (w - x).toInt ≤ hi) : Spread lo hi w (ps ++ [x]) := by
  refine ⟨List.pairwise_append.2 ⟨h.1, List.pairwise_singleton _ _, fun a ha b hb => ?_⟩, fun p hp => ?_⟩
  · exact List.mem_singleton.1 hb ▸ hx a ha
  · rcases List.mem_append.1 hp with hmem | hmem
    · exact h.2 p hmem
    · exact List.mem_singleton.1 hmem ▸ ⟨hlo, hhi⟩

end

/-! ## Few records are made, and the tracker makes them in order (R36) -/

theorem made_of_serial {n : BitVec 16} {m k : Nat} (hm : m ≤ 3) (hk : k ≤ 3)
    (h : n + BitVec.ofNat 16 m = n + BitVec.ofNat 16 k) : m = k := by
  bv_omega

/-- What a step makes of the positions in order, where it owes its new record to the order. -/
theorem spread_of_extends {n : Nat} {lo hi : Int} {s t : State} {u : Track} (hn : n ≤ 3)
    (hserial : u.nextSerial = s.track.nextSerial) (he : Extends n u t.track)
    (hu : Spread lo hi t.web.w (positions u)) (hlo : lo ≤ 0) (hhi : (removalAge t : Int) ≤ hi)
    (hc : CreatesInOrder s t) : Spread lo hi t.web.w (positions t.track) := by
  obtain ⟨m, hm, hmade, old, new, ht, hold, hnew⟩ := he
  have hkept := spread_sublist hu hold
  rw [hserial] at hmade
  rcases hc with hsame | ⟨hone, older, r, hrecords, habove, hage, hremoval⟩
  · have hzero : m = 0 := made_of_serial (k := 0) (hm.trans hn) (Nat.zero_le 3)
      (hmade.symm.trans (hsame.trans (by simp)))
    obtain rfl : new = [] := List.length_eq_zero_iff.1 (Nat.le_zero.1 (hzero ▸ hnew))
    rw [ht, List.append_nil]
    exact hkept
  · have hlength : m = 1 := made_of_serial (k := 1) (hm.trans hn) (by omega) (hmade.symm.trans hone)
    have hpositions : positions t.track = older.map (·.r) ++ [r.r] := by simp [positions, hrecords]
    rcases List.eq_nil_or_concat new with rfl | ⟨made, x, rfl⟩
    · rw [ht, List.append_nil]
      exact hkept
    · obtain rfl : made = [] := List.length_eq_zero_iff.1 (by simp at hnew; omega)
      obtain ⟨rfl, -⟩ := List.append_inj' (ht.symm.trans hpositions) rfl
      rw [hpositions]
      refine spread_concat hkept (fun a ha => ?_) (hlo.trans hage) ?_
      · obtain ⟨q, hq, rfl⟩ := List.mem_map.1 ha
        exact habove q hq
      · refine le_trans hremoval (le_trans (le_of_eq ?_) hhi)
        simp [removalAge]

theorem sublist_of_moves {t u : Track} (h : TrackMoves 0 t u) :
    u.nextSerial = t.nextSerial ∧ (positions u).Sublist (positions t) := by
  obtain ⟨m, hm, hserial, old, new, hu, hold, hnew⟩ := extends_of_moves h
  obtain rfl := Nat.le_zero.1 hm
  obtain rfl : new = [] := List.length_eq_zero_iff.1 (Nat.le_zero.1 hnew)
  exact ⟨by simpa using hserial, by simpa [hu] using hold⟩

theorem removalAge_le {s : State} (h : ItemSound s) : removalAge s ≤ 2035680 := by
  have hR : s.items.geo.dR ≤ 2031585 := h (.geo .dR)
  have hwidth : 1 ≤ s.items.geo.markerWidth ∧ s.items.geo.markerWidth ≤ 4095 := h (.geo .markerWidth)
  unfold removalAge
  omega

/-! ## Mark edges and counts -/

/-- R20: a falling edge makes its records in order, or breaks what the tracker owes. -/
theorem orderSound_markFall {s : State} (x : Sensor) (hs : OrderSound s)
    (hc : CreatesInOrder s (markFall x s)) : OrderSound (markFall x s) := by
  have hframe : (markFall x s).web = s.web ∧ (markFall x s).items = s.items := by
    unfold markFall
    split <;> simp
  have hage : removalAge (markFall x s) = removalAge s := by rw [removalAge, hframe.2]; rfl
  rw [orderSound_iff] at *
  refine spread_of_extends (by omega) rfl (extends_of_moves (trackMoves_markFall x s)) ?_ (Int.le_refl 0)
    (Int.le_refl _) hc
  rw [hage, hframe.1]
  exact hs

/-- R38, R46: the stations leave no record at its removal point. -/
theorem spread_serveStations {s : State} {hi : Int} (h : Spread 0 hi s.web.w (positions s.track))
    (hhi : hi < 1073741824) (hn : removalAge s < 1073741824) :
    Spread 0 (removalAge s) s.web.w (positions (serveStations s).track) := by
  set n := s.track.records.length with hfuel
  set u := serveMarker n (serveEmboss n (serveGate n (serveNip n s))) with hu
  have hmoves : TrackMoves 0 s.track u.track :=
    trackMoves_after (trackMoves_serveNip s n) (trackMoves_after (trackMoves_serveGate _ n)
      (trackMoves_after (trackMoves_serveEmboss _ n) (trackMoves_serveMarker _ n)))
  have hlength : u.track.records.length ≤ n := by
    simpa [positions] using (sublist_of_moves hmoves).2.length_le
  have hstops := station_stops station_removal n u hlength
  have hkept := (sublist_of_moves (trackMoves_serveStations s)).2
  refine spread_removed (spread_sublist h hkept) hhi hn fun p hp => ?_
  obtain ⟨r, hr, rfl⟩ : ∃ r, (serveStations s).track.records[0]? = some r ∧ r.r = p := by
    simpa [positions, List.head?_map, List.head?_eq_getElem?] using hp
  have hnot : ¬ reached (serveRemoval n u).web.w (posAdd r.r (removalAge (serveRemoval n u))) = true :=
    hstops r hr
  rw [reached_iff, Int.not_le] at hnot
  simpa [hu, removalAge] using hnot

theorem orderSound_forwardCount {s : State} (hs : OrderSound s) (hi : ItemSound s)
    (hc : CreatesInOrder s (forwardCount s)) : OrderSound (forwardCount s) := by
  have hage := removalAge_le hi
  set u := publish (stepBoth .advance { s with web := moveWeb .forward s.web }) with hu
  have htrack : u.track = s.track := by simp [hu]
  have hw : u.web.w = s.web.w + 1 := by simp [hu, moveWeb]
  have hitems : removalAge u = removalAge s := by simp [hu, removalAge]
  have hmoved : Spread 0 (removalAge s + 1) u.web.w (positions u.track) := by
    rw [htrack, hw]
    exact spread_mono (spread_succ (orderSound_iff.1 hs) (by omega)) (by omega) (Int.le_refl _)
  have hserved := spread_serveStations hmoved (by omega) (by omega)
  have hserial := (sublist_of_moves (trackMoves_serveStations u)).1
  have hforward : (forwardCount s).web = u.web ∧ (forwardCount s).items = u.items ∧
      (forwardCount s).track =
        (coastTest (qualForward .foil (qualForward .print (serveStations u)))).track := by
    simp [forwardCount, hu]
  obtain ⟨hweb, hitem, hmade⟩ := hforward
  have hremoval : removalAge (forwardCount s) = removalAge u := by rw [removalAge, hitem]; rfl
  rw [orderSound_iff, hremoval]
  refine spread_of_extends (u := (serveStations u).track) (Nat.le_refl 3)
    (hserial.trans (by rw [htrack])) ?_ ?_ (Int.le_refl 0) (by rw [hremoval]) hc
  · rw [hmade]
    exact extends_of_moves (trackMoves_trackers _)
  · rw [hweb]
    exact hserved

theorem reverseRemoval_succ {s : State} {r : LabelRecord} (n : Nat)
    (h : s.track.records.getLast? = some r) : reverseRemoval (n + 1) s =
    if 0 < posDiff r.r s.web.w then
      reverseRemoval n { s with
        track := dropNewest s.track, tracker := rollback s.lSub r.origin s.tracker }
    else s := by
  simp only [reverseRemoval, h, State.lSub]

/-- R47: records are taken back till the newest is not ahead of W. -/
theorem station_reverse : Station reverseRemoval (fun s => s.track.records.length)
    (fun s => ∀ r, s.track.records.getLast? = some r → ¬ 0 < posDiff r.r s.web.w) where
  none_ahead n s h := by
    have hempty := List.length_eq_zero_iff.1 h
    rw [reverseRemoval_none n (by simp [hempty])]
    simp [hempty]
  one_ahead n s h := by
    have hne : s.track.records ≠ [] := fun h' => h (by simp [h'])
    have hlast := List.getLast?_eq_some_getLast hne
    rw [reverseRemoval_succ n hlast]
    split
    · refine .inr ⟨_, ?_, rfl⟩
      have hdrop : (dropNewest s.track).records.length = s.track.records.length - 1 := List.length_dropLast
      simp only [hdrop]
      omega
    · next hbehind => exact .inl fun r hr => Option.some.inj (hlast.symm.trans hr) ▸ hbehind

theorem orderSound_reverseCount {s : State} (hs : OrderSound s) (hi : ItemSound s)
    (hc : CreatesInOrder s (reverseCount s)) : OrderSound (reverseCount s) := by
  have hage := removalAge_le hi
  set u := publish (stepBoth .retard { s with web := moveWeb .reverse s.web }) with hu
  have htrack : u.track = s.track := by simp [hu]
  have hw : u.web.w = s.web.w - 1 := by simp [hu, moveWeb]
  have hreverse : (reverseCount s).web = u.web ∧ (reverseCount s).items = s.items := by
    simp [reverseCount, hu]
  obtain ⟨hweb, hitem⟩ := hreverse
  have hremoval : removalAge (reverseCount s) = removalAge s := by rw [removalAge, hitem]; rfl
  have hmoved : Spread (-1) (removalAge s) u.web.w (positions u.track) := by
    rw [htrack, hw]
    exact spread_mono (spread_pred (orderSound_iff.1 hs) (by omega)) (by omega) (by omega)
  have hmoves : TrackMoves 2 u.track (reverseCount s).track :=
    trackMoves_before (trackMoves_qualsBack u) (trackMoves_reverseRemoval _ _)
  have hkept : Spread (-1) (removalAge s) (reverseCount s).web.w (positions (reverseCount s).track) :=
    spread_of_extends (Nat.le_succ 2) (by rw [htrack]) (extends_of_moves hmoves) (hweb ▸ hmoved)
      (by omega) (by rw [hremoval]) hc
  rw [orderSound_iff, hremoval]
  refine spread_behind hkept (by omega) fun p hp => ?_
  obtain ⟨r, hr, rfl⟩ : ∃ r, (reverseCount s).track.records.getLast? = some r ∧ r.r = p := by
    simpa [positions] using hp
  have hstops := station_stops station_reverse (qualsBack u).track.records.length (qualsBack u) (Nat.le_refl _)
  exact Int.not_lt.1 (hstops r hr)

end Sys2Proof.Proofs
end

section
/-! The order of the records after every step at which the tracker creates in order (R36): counts and falling mark
edges may make records, every other command leaves records, W and removal point, or empties the track. -/
namespace Sys2Proof.Proofs

open Sys2Proof.Machine Sys2Proof.Safety

/-! ## What leaves the order alone -/

/-- The records, W and the removal point stay. -/
structure Stands (s t : State) : Prop where
  records : t.track.records = s.track.records
  w : t.web.w = s.web.w
  geo : t.items.geo = s.items.geo

theorem orderSound_of_stands {s t : State} (h : Stands s t) (hs : OrderSound s) : OrderSound t := by
  rw [OrderSound, h.records, h.w, h.geo]
  exact hs

theorem orderSound_of_empty {s : State} (h : s.track.records = []) : OrderSound s := by
  simp [OrderSound, h]

theorem stands_of_marks {s t : State} (h : SameMarks s t) (hweb : t.web = s.web) : Stands s t :=
  ⟨by rw [h.track], by rw [hweb], h.geo⟩

/-- An operation by what its frame lemma says. -/
theorem stands_of_frame {s t : State} (h : t.track = s.track ∧ t.items = s.items ∧ t.web = s.web) :
    Stands s t := ⟨by rw [h.1], by rw [h.2.2], by rw [h.2.1]⟩

theorem stands_link (s : State) (l : Link) : Stands s { s with link := l } := ⟨rfl, rfl, rfl⟩

theorem stands_staged (s : State) (x : Staged) :
    Stands s { s with sheets := { s.sheets with staged := x } } := ⟨rfl, rfl, rfl⟩

theorem stands_gateEnd (s : State) : Stands s (gateEnd s) := by
  obtain ⟨htrack, hitems, hweb⟩ := gateEnd_frame s
  exact ⟨by rw [htrack], by rw [hweb]; rfl, by rw [hitems]⟩

theorem stands_spaceEnd (c : Cyl) (s : State) : Stands s (spaceEnd c s) := by
  unfold spaceEnd
  dsimp only
  (repeat' split) <;> exact stands_of_frame (by simp)

theorem frameCutOff_web (cause : CutCause) (s : State) : (frameCutOff cause s).web = s.web := by
  unfold frameCutOff
  dsimp only
  (repeat' split) <;> rfl

theorem overlap_web (s : State) : (overlap s).web = s.web := by
  unfold overlap
  split <;> rfl

theorem beginReply_web (s : State) : (beginReply s).web = s.web := by
  unfold beginReply
  split <;> rfl

/-! ## The operations of the requests (10.2 to 10.7) -/

section
variable {s : State} (hs : OrderSound s)
include hs

/-- R49: the removal point moves over an empty track alone. -/
theorem orderSound_writeItem (i : Item) (v : Nat) : OrderSound (writeItem i v s).1 := by
  have hrest : (writeItem i v s).1.web = s.web ∧ (writeItem i v s).1.track = s.track := by
    rcases writeItem_taken_or_same i v s with ⟨-, h⟩ | h
    · obtain ⟨hweb, htrack, -⟩ := h.block.rest
      exact ⟨hweb, htrack⟩
    · rw [h]
      exact ⟨rfl, rfl⟩
  by_cases hg : ∃ g, i = .geo g
  · obtain ⟨g, rfl⟩ := hg
    by_cases hempty : s.track.records = []
    · exact orderSound_of_empty (by rw [hrest.2, hempty])
    · have hsame : (writeGeo g v s).1 = s := by
        rw [writeGeo_eq]
        have hbusy : (!s.track.records.isEmpty) = true := by simp [hempty]
        rw [if_pos hbusy]
        split <;> rfl
      exact hsame.symm ▸ hs
  · refine orderSound_of_stands ⟨by rw [hrest.2], by rw [hrest.1], ?_⟩ hs
    rcases writeItem_taken_or_same i v s with ⟨-, h⟩ | h
    · exact geoItems_ext fun g => h.put.2 _ fun hi => hg ⟨g, hi.symm⟩
    · rw [h]

theorem orderSound_configWrite (i : Item) (v : Nat) :
    OrderSound (configWriteWith i (writeItem i v) s).1 :=
  orderSound_of_stands (stands_of_marks (sameMarks_noteWrite _ _) (beside_noteWrite _ _).web)
    (orderSound_writeItem hs i v)

/-- R169: what any request does. -/
theorem orderSound_requestOp {op : State → State × Reply} (hop : RequestOp op) : OrderSound (op s).1 := by
  have hstands {t : State} (h : Stands s t) : OrderSound t := orderSound_of_stands h hs
  have hframe {t : State} (h : t.track = s.track ∧ t.items = s.items ∧ t.web = s.web) : OrderSound t :=
    hstands (stands_of_frame h)
  cases hop with
  | reads hread => rw [hread]; exact hs
  | write i v => exact orderSound_configWrite hs i v
  | writeNumber n v =>
    unfold configWriteNumber
    split
    · exact orderSound_configWrite hs _ _
    · exact hs
  | curve l as =>
    unfold curveWriteReq
    split
    · exact hs
    · refine persists_withLane (fun l => ?_) hs
      dsimp only
      split
      · have hstored : Stands s (storeCurve l (as.map (·.toNat)) s) :=
          stands_of_marks (sameMarks_storeCurve l _ s) (by simp [storeCurve])
        exact orderSound_of_stands (stands_of_marks (sameMarks_noteWrite .ok _) (beside_noteWrite .ok _).web)
          (orderSound_of_stands hstored hs)
      · exact hs
  | params =>
    unfold sheetParamWrite
    split
    · exact hstands (stands_staged s _)
    · exact hs
  | windows =>
    unfold windowWrite
    (repeat' split)
    · exact hs
    · exact hs
    · exact hstands (stands_staged s _)
  | edit =>
    unfold windowEdit
    split
    · exact hs
    · exact hstands (stands_staged s _)
  | copyBack =>
    unfold sheetCopyBack
    split
    · exact hstands (stands_staged s _)
    · exact hs
  | clearSheet => exact hstands (stands_staged s _)
  | commit => exact hframe (commitSheet_frame s)
  | engage => exact persists_withCyl (fun c => hframe (by simp)) hs
  | disengage =>
    unfold disengageReq
    split
    · exact hs
    · exact hstands (stands_of_marks (sameMarks_disengageCyls _ s) (beside_disengageCyls _ s).web)
  | loopMode =>
    refine persists_withCyl (fun c => ?_) hs
    dsimp only
    (repeat' split)
    · exact hs
    · exact hs
    · exact hframe (by simp)
  | nudge => exact persists_withCyl (fun c => hframe (by simp)) hs
  | trimMove => exact persists_withCyl (fun c => hframe (by simp)) hs
  | trimZero =>
    refine persists_withCyl (fun c => ?_) hs
    dsimp only
    split
    · exact hframe (by simp)
    · exact hs
  | park => exact persists_withLane (fun l => hframe (by simp)) hs
  | release => exact persists_withLane (fun l => hframe (by simp)) hs
  | roll =>
    refine persists_withLane (fun l => ?_) hs
    dsimp only
    (repeat' split) <;> exact hframe (by simp)
  | check =>
    refine persists_withLane (fun l => ?_) hs
    dsimp only
    split <;> exact hframe (by simp)
  | flush => exact orderSound_of_empty rfl
  | clearFaults =>
    unfold faultClearReq
    split
    · exact hs
    · exact hframe (by simp [clearFaults])
  | clearCounters => exact hstands ⟨rfl, rfl, rfl⟩
  | restart =>
    unfold restartReq
    (repeat' split)
    · exact hstands (stands_link s _)
    · exact hstands (stands_link s _)
    · exact hs

/-! ## The Link Port (9.1 to 9.5) -/

theorem orderSound_link (l : Link) : OrderSound { s with link := l } :=
  orderSound_of_stands (stands_link s l) hs

theorem orderSound_takeAddressed {op : State → State × Reply} (hop : RequestOp op) (kind : Nat) :
    OrderSound (takeAddressed kind op s) :=
  orderSound_link (orderSound_requestOp (orderSound_link hs _) hop) _

theorem orderSound_takeBroadcastFrame (kind : Nat) (body : List Byte) :
    OrderSound (takeBroadcastFrame kind body s) := by
  have htake {op : State → State × Reply} (hop : RequestOp op) : OrderSound (takeBroadcast op s) :=
    orderSound_requestOp (orderSound_link hs _) hop
  unfold takeBroadcastFrame
  (repeat' split)
  · exact htake .commit
  · exact htake (.disengage _)
  · exact orderSound_link hs _
  · exact orderSound_link hs _

theorem orderSound_endFrame (lo hi : Byte) : OrderSound (endFrame lo hi s) := by
  unfold endFrame
  dsimp only
  (repeat' split)
  · exact orderSound_takeAddressed hs (requestOp_requestOf _ _) _
  · exact orderSound_takeBroadcastFrame hs _ _
  · exact orderSound_link hs _

theorem orderSound_receive (b : Byte) (err : Bool) : OrderSound (receive b err s) := by
  have hlink := orderSound_link hs
  unfold receive
  dsimp only
  split
  · exact hlink _
  · split
    · exact hs
    · exact hs
    · exact hs
    · split <;> exact hlink _
    · exact hlink _
    · exact hlink _
    · exact hlink _
    · exact hlink _
    · split
      · exact hlink _
      · exact orderSound_endFrame hs _ _

theorem orderSound_takeChar (b : Byte) (parity stop : Bool) : OrderSound (takeChar b parity stop s) := by
  unfold takeChar
  (repeat' split)
  · exact hs
  · exact orderSound_link hs _
  · exact orderSound_receive (orderSound_link hs _) b _

theorem orderSound_takeFrame (dest kind : Byte) (body : List Byte) (check : BitVec 16) :
    OrderSound (takeFrame dest kind body check s) :=
  List.foldlRecOn _ _ (orderSound_link hs _) fun _ h b _ => orderSound_takeChar h b _ true

theorem orderSound_hostRequest (kind : Nat) {op : State → State × Reply} (hop : RequestOp op) :
    OrderSound (hostRequest kind op s) := by
  unfold hostRequest
  dsimp only
  (repeat' split)
  · exact hs
  · exact orderSound_link hs _
  · exact orderSound_link hs _
  · exact orderSound_takeAddressed (orderSound_link hs _) hop kind

theorem orderSound_hostBroadcast (kind : Nat) (body : List Byte) :
    OrderSound (hostBroadcast (takeBroadcastFrame kind body) s) := by
  unfold hostBroadcast
  (repeat' split)
  · exact hs
  · exact orderSound_link hs _
  · exact orderSound_takeBroadcastFrame (orderSound_link hs _) kind body

theorem orderSound_characterReceived (d : RxData) (parity stop : Bool) :
    OrderSound (characterReceived d parity stop s) := by
  cases d with
  | startBit => exact orderSound_link hs _
  | lineHigh => exact orderSound_link hs _
  | byte b => exact orderSound_takeChar hs b parity stop

/-- R174, R187: a reset at the end of a reply empties the track. -/
theorem orderSound_replyEnd (adr : BitVec 5) (bdr : BitVec 2) : OrderSound (replyEnd adr bdr s) := by
  unfold replyEnd
  split
  · cases s.link.restart with
    | none => exact orderSound_link hs _
    | some level => cases level <;> exact orderSound_of_empty rfl
  · exact hs

end

/-! ## Commands and ticks -/

/-- R1: levels without a count, and errors, leave W. -/
theorem orderSound_encoderTransition {s : State} (a b : Bool) (hs : OrderSound s) (hi : ItemSound s)
    (hc : CreatesInOrder s (encoderTransition a b s)) : OrderSound (encoderTransition a b s) := by
  have href : OrderSound (setReference a b s) := orderSound_of_stands ⟨rfl, rfl, rfl⟩ hs
  unfold encoderTransition at hc ⊢
  dsimp only at hc ⊢
  split at hc
  · exact href
  · exact orderSound_forwardCount href hi hc
  · exact orderSound_reverseCount href hi hc
  · exact orderSound_of_stands ⟨rfl, rfl, rfl⟩ href

/-- A command answers a state whose records are in order, if it makes its record in order. -/
def Owed (i : Instr) (s : State) : Prop :=
  ∃ t, exec i s = .next t ∧ (CreatesInOrder s t → OrderSound t)

section
variable {s : State} {i : Instr}

theorem owed_of_order {t : State} (he : exec i s = .next t) (h : OrderSound t) : Owed i s :=
  ⟨t, he, fun _ => h⟩

theorem owed_request {kind : Nat} {op : State → State × Reply}
    (he : exec i s = .next (hostRequest kind op s)) (hop : RequestOp op) (hs : OrderSound s) : Owed i s :=
  owed_of_order he (orderSound_hostRequest hs kind hop)

theorem owed_stands {t : State} (he : exec i s = .next t) (h : Stands s t) (hs : OrderSound s) :
    Owed i s := owed_of_order he (orderSound_of_stands h hs)

theorem owed_marks {t : State} (he : exec i s = .next t) (h : SameMarks s t) (hweb : t.web = s.web)
    (hs : OrderSound s) : Owed i s := owed_stands he (stands_of_marks h hweb) hs

theorem owed_frame {t : State} (he : exec i s = .next t)
    (h : t.track = s.track ∧ t.items = s.items ∧ t.web = s.web) (hs : OrderSound s) : Owed i s :=
  owed_stands he (stands_of_frame h) hs

theorem owed_exec (i : Instr) (hs : OrderSound s) (hi : ItemSound s) : Owed i s := by
  have hwrite (i : Item) (v : BitVec 32) : Owed (writeRow i v) s :=
    owed_request (exec_writeRow i v s) (.write i _) hs
  cases i with
  | encoderTransition a b => exact ⟨_, rfl, orderSound_encoderTransition a b hs hi⟩
  | markTrailingEdge x => exact ⟨_, rfl, orderSound_markFall x hs⟩
  | speedGateEnd => exact owed_stands rfl (stands_gateEnd s) hs
  | indexArrival c => exact owed_frame rfl (indexArrival_frame c s) hs
  | markLeadingEdge x => exact owed_frame rfl (markRise_frame x s) hs
  | spaceEnd c => exact owed_stands rfl (stands_spaceEnd c s) hs
  | stepTimeEnd c => exact owed_marks rfl (sameMarks_stepTimeEnd c s) (beside_stepTimeEnd c s).web hs
  | confirmRise x => exact owed_frame rfl (by simp) hs
  | confirmFall x => exact owed_frame rfl (by simp) hs
  | engageTimerExpiry c =>
    exact owed_marks rfl (sameMarks_engageExpiry c s) (beside_engageExpiry c s).web hs
  | releaseTimerExpiry c =>
    exact owed_marks rfl (sameMarks_releaseExpiry c s) (beside_releaseExpiry c s).web hs
  | stopDwellExpiry =>
    exact owed_marks rfl (sameMarks_stopDwellExpiry s) (beside_stopDwellExpiry s).web hs
  | motionPulse l => exact owed_marks rfl (sameMarks_setLane l _ s) rfl hs
  | checkTimerExpiry l =>
    exact owed_marks rfl (sameMarks_checkExpiry l s) (beside_checkExpiry l s).web hs
  | idleGap => exact owed_stands rfl (stands_link s _) hs
  | frameReceived d k b c => exact owed_of_order rfl (orderSound_takeFrame hs d k b c)
  | frameCutOff cause => exact owed_marks rfl (sameMarks_frameCutOff cause s) (frameCutOff_web cause s) hs
  | overlap => exact owed_marks rfl (sameMarks_overlap s) (overlap_web s) hs
  | replyWaitEnd => exact owed_marks rfl (sameMarks_beginReply s) (beginReply_web s) hs
  | replyEnd adr bdr => exact owed_of_order rfl (orderSound_replyEnd hs adr bdr)
  | resetInput p => exact owed_of_order rfl (orderSound_of_empty rfl)
  | powerOn p => exact owed_of_order rfl (orderSound_of_empty rfl)
  | statusRead => exact owed_request rfl (.reads fun _ => rfl) hs
  | configWrite n v => exact owed_request rfl (.writeNumber n v) hs
  | webTimingConfigWrite i v => exact hwrite (.web i) v
  | indexConfigWrite i c v => exact hwrite (.index i c) v
  | markConfigWrite i v => exact hwrite (.mark i) v
  | geometryWrite i v => exact hwrite (.geo i) v
  | rejectMaskWrite v => exact hwrite .rejectMask v
  | loopConfigWrite i c v => exact hwrite (.loop i c) v
  | trimIntervalWrite v => exact hwrite .trimInterval v
  | actuationConfigWrite i v => exact hwrite (.act i) v
  | driveMappingWrite l v => exact hwrite (.mapping l) v
  | laneConfigWrite i l v => exact hwrite (.lane i l) v
  | freezeOnFirstWrite v => exact hwrite .freezeOnFirst v
  | alarmMaskWrite v => exact hwrite .alarmMask v
  | configRead n => exact owed_request rfl (requestOp_configRead n) hs
  | curveWrite l as => exact owed_request rfl (.curve l as) hs
  | curveRead l => exact owed_request rfl (requestOp_curveRead l) hs
  | sheetParamWrite l f e p q u r => exact owed_request rfl (.params l f e p q u r) hs
  | windowWrite i es => exact owed_request rfl (.windows i es) hs
  | windowRead t i n => exact owed_request rfl (requestOp_windowRead t i n) hs
  | windowEdit lc tc ec m nl nt ne d => exact owed_request rfl (.edit lc tc ec m nl nt ne d) hs
  | sheetCopyBack => exact owed_request rfl .copyBack hs
  | sheetClear => exact owed_request rfl .clearSheet hs
  | commit broadcast =>
    cases broadcast with
    | true => exact owed_of_order rfl (orderSound_hostBroadcast hs 0x16 [])
    | false => exact owed_request rfl .commit hs
  | sheetParamRead x => exact owed_request rfl (requestOp_paramRead x) hs
  | engage c => exact owed_request rfl (.engage c) hs
  | disengage set broadcast =>
    cases broadcast with
    | true => exact owed_of_order rfl (orderSound_hostBroadcast hs 0x21 [set])
    | false => exact owed_request rfl (.disengage set) hs
  | loopMode c m => exact owed_request rfl (.loopMode c m) hs
  | nudge c d => exact owed_request rfl (.nudge c d) hs
  | trimMove c d => exact owed_request rfl (.trimMove c d) hs
  | trimZero c => exact owed_request rfl (.trimZero c) hs
  | loopRead c => exact owed_request rfl (requestOp_loopRead c) hs
  | lanePark l => exact owed_request rfl (.park l) hs
  | laneRelease l => exact owed_request rfl (.release l) hs
  | rollLoad l n => exact owed_request rfl (.roll l n) hs
  | laneCheck l => exact owed_request rfl (.check l) hs
  | laneRead l => exact owed_request rfl (requestOp_laneRead l) hs
  | trackRead x n k => exact owed_request rfl (requestOp_trackRead x n k) hs
  | trackFlush => exact owed_request rfl .flush hs
  | faultRead => exact owed_request rfl (.reads fun _ => rfl) hs
  | faultClear codes option => exact owed_request rfl (.clearFaults codes option) hs
  | countersRead => exact owed_request rfl (.reads fun _ => rfl) hs
  | countersClear => exact owed_request rfl .clearCounters hs
  | restart l => exact owed_request rfl (.restart l) hs
  | characterReceived d parity stop => exact owed_of_order rfl (orderSound_characterReceived hs d parity stop)

end

theorem orderSound_step {s t : State} (hs : OrderSound s) (hi : ItemSound s) (hstep : step s = .next t)
    (hc : CreatesInOrder s t) : OrderSound t := by
  unfold step at hstep
  split at hstep
  · next i rest _ =>
    obtain ⟨u, hu, howed⟩ := owed_exec (s := { s with pending := rest }) i hs hi
    obtain rfl : u = t := Host.Outcome.next.inj (hu.symm.trans hstep)
    exact howed hc
  · obtain rfl : tick s = t := Host.Outcome.next.inj hstep
    exact hs

/-- Settles O12: a track moves only as `TrackMoves` says, which keeps its bounds and adds few positions; a count
moves W and the stations or the reverse removal follow it. -/
theorem stepKeepsTrack : Obligations.StepKeepsTrack := by
  refine ⟨fun s t hs hstep => ?_, fun s t hs hi hstep hc => orderSound_step hs hi hstep hc⟩
  exact trackLegal_iff.2 (persists_step persists_legal hstep (trackLegal_iff.1 hs))

end Sys2Proof.Proofs
end

section
/-! LOOP MODE, NUDGE and TRIM ZERO (R68 to R70, R72, R183). -/
namespace Sys2Proof.Proofs

open Sys2Proof.Machine Sys2Proof.Safety Sys2Proof.Laws

/-- A number held to lo..hi, by the end that it passes. -/
theorem clamp_eq {lo hi : Int} (h : lo ≤ hi) (x : Int) :
    clamp lo hi x = if hi < x then hi else if x < lo then lo else x := by
  simp only [clamp]; omega

theorem ofByte_modeByte (m : LoopMode) : LoopMode.ofByte (modeByte m) = some m := by cases m <;> rfl

theorem setMode_eq (m : LoopMode) (x : Loop) : setMode m x =
    if m = .off then { x with mode := .off, run := 0, a := x.a - x.p, p := 0 }
    else { x with mode := m, run := 0 } := by cases m <;> rfl

/-! ## What each request answers for a cylinder -/

theorem loopModeReq_eq (c : Cyl) (m : LoopMode) (s : State) :
    let x := s.loop.get c
    loopModeReq (cylByte c) (modeByte m) s =
      if m = x.mode then (s, ⟨.already, modeBody x⟩)
      else (s.setLoop c (setMode m x), ⟨.ok, modeBody (setMode m x)⟩) := by
  simp only [loopModeReq, withCyl, ofByte_cylByte, ofByte_modeByte]

/-- R70: the nudge is held to 1,000 either way. -/
theorem nudgeReq_eq (c : Cyl) (d : BitVec 16) (s : State) :
    let x := s.loop.get c
    let n := clamp (-1000) 1000 (x.nudge + d.toInt)
    nudgeReq (cylByte c) d s = (s.setLoop c { x with nudge := n },
      ⟨if n = x.nudge + d.toInt then .ok else .clamped, intBytes 2 n⟩) := by
  simp only [nudgeReq, withCyl, ofByte_cylByte]
  rfl

theorem trimZeroReq_eq (c : Cyl) (s : State) :
    let x := s.loop.get c
    trimZeroReq (cylByte c) s =
      if x.p.natAbs ≤ (s.items.loop.get c).amax then
        (s.setLoop c { x with a := x.p, n := 0 }, ⟨.ok, zeroBody { x with a := x.p, n := 0 }⟩)
      else (s, ⟨.badState, zeroBody x⟩) := by
  simp only [trimZeroReq, withCyl, ofByte_cylByte]

/-- R70, R183: NUDGE answered, by the value that the nudge is held to. -/
theorem exec_nudge {s : State} (h : Ready s) (c : Cyl) (d : BitVec 16) {n : Int} {r : Result}
    (hn : clamp (-1000) 1000 ((s.loop.get c).nudge + d.toInt) = n)
    (hr : (if n = (s.loop.get c).nudge + d.toInt then .ok else .clamped) = r) :
    exec (.nudge (cylByte c) d) s = .next (answered 0x23 ⟨r, intBytes 2 n⟩
      (s.setLoop c { s.loop.get c with nudge := n })) := by
  subst hn hr
  exact congrArg Host.Outcome.next (hostRequest_answered h 0x23 (nudgeReq_eq c d (heard s)) rfl)

/-- Settles O36: each row answers its request, which moves one loop or none. -/
theorem loopRequestsTakeEffect : Obligations.LoopRequestsTakeEffect := by
  intro c s h x
  refine ⟨fun m hm => ?_, ?_, fun d hhi hlo => ?_, fun d hhi => ?_, fun d hlo => ?_,
    fun hp => ?_, fun hp => ?_⟩
  · intro y
    have hreq := (loopModeReq_eq c m (heard s)).trans (if_neg hm)
    rw [setMode_eq] at hreq
    exact congrArg Host.Outcome.next (hostRequest_answered h 0x22 (t := s.setLoop c y) hreq rfl)
  · have hreq := (loopModeReq_eq c x.mode (heard s)).trans (if_pos rfl)
    exact congrArg Host.Outcome.next (hostRequest_answered h 0x22 (t := s) hreq rfl)
  · refine exec_nudge h c d ?_ (if_pos rfl)
    rw [clamp_eq (by decide), if_neg (Int.not_lt.2 hhi), if_neg (Int.not_lt.2 hlo)]
  · refine exec_nudge h c d ?_ (if_neg (ne_of_lt hhi))
    rw [clamp_eq (by decide), if_pos hhi]
  · refine exec_nudge h c d ?_ (if_neg (ne_of_gt hlo))
    rw [clamp_eq (by decide), if_neg (lt_asymm (hlo.trans (by decide))), if_pos hlo]
  · have hreq := (trimZeroReq_eq c (heard s)).trans (if_pos hp)
    exact congrArg Host.Outcome.next
      (hostRequest_answered h 0x25 (t := s.setLoop c { x with a := x.p, n := 0 }) hreq rfl)
  · have hreq := (trimZeroReq_eq c (heard s)).trans (if_neg (Nat.not_le.2 hp))
    exact congrArg Host.Outcome.next (hostRequest_answered h 0x25 (t := s) hreq rfl)

end Sys2Proof.Proofs
end

section
/-! The error and the correction as numbers, and what a measurement writes (R57 to R65). -/
namespace Sys2Proof.Proofs

open Sys2Proof.Machine Sys2Proof.Safety

/-! ## Rounding, the error and the correction (R61, R62, R64) -/

/-- The nearest whole number of 256ths, a tie away from zero. -/
theorem roundDiv_256 (n : Int) : (256 * roundDiv n 256 - n).natAbs ≤ 128 ∧
    n.natAbs ≤ 256 * (roundDiv n 256).natAbs + 127 := by
  unfold roundDiv; omega

/-- The nearest whole number of 16ths, a tie away from zero, with the sign of the number rounded. -/
theorem roundDiv_16 (n : Int) : (16 * roundDiv n 16 - n).natAbs ≤ 8 ∧
    n.natAbs ≤ 16 * (roundDiv n 16).natAbs + 7 ∧ (0 ≤ n → 0 ≤ roundDiv n 16) ∧
    (n ≤ 0 → roundDiv n 16 ≤ 0) := by
  unfold roundDiv; omega

/-- R61: the residue of the distance, wrapped at half a revolution. -/
theorem errorSub_wraps {lSub : Nat} (h : 0 < lSub) (measured live : Int) :
    let half : Int := ((lSub + 1) / 2 : Nat)
    half - lSub ≤ errorSub lSub measured live ∧ errorSub lSub measured live ≤ half - 1 ∧
      (lSub : Int) ∣ measured - live - errorSub lSub measured live := by
  intro half
  have hpos : (0 : Int) < lSub := by omega
  have hlo := Int.emod_nonneg (measured - live) hpos.ne'
  have hhi := Int.emod_lt_of_pos (measured - live) hpos
  have hdvd : (lSub : Int) ∣ measured - live - (measured - live) % lSub := Int.dvd_self_sub_emod
  unfold errorSub
  dsimp only
  split
  · refine ⟨by omega, by omega, ?_⟩
    rw [show measured - live - ((measured - live) % lSub - lSub) =
      measured - live - (measured - live) % lSub + lSub by omega]
    exact dvd_add hdvd dvd_rfl
  · exact ⟨by omega, by omega, hdvd⟩

section
variable {it : LoopItems} {e : Int}

theorem correction_deadband (h : e.natAbs ≤ it.deadband) : correction it e = 0 := if_pos h

/-- R64: past the deadband the rounded product, negated and cut to the slew limit. -/
theorem correction_beyond (h : it.deadband < e.natAbs) : correction it e =
    if (it.slew : Int) < -roundDiv (e * it.gain) 16 then (it.slew : Int)
    else if -roundDiv (e * it.gain) 16 < -(it.slew : Int) then -(it.slew : Int)
    else -roundDiv (e * it.gain) 16 := by
  rw [correction, if_neg (Nat.not_le.2 h), clamp_eq (by omega)]

/-- R64: the correction is held to the slew limit and opposes the error. -/
theorem correction_bounds (it : LoopItems) (e : Int) : (correction it e).natAbs ≤ it.slew ∧
    (0 ≤ e → correction it e ≤ 0) ∧ (e ≤ 0 → 0 ≤ correction it e) := by
  by_cases h : e.natAbs ≤ it.deadband
  · simp [correction_deadband h]
  · obtain ⟨-, -, hpos, hneg⟩ := roundDiv_16 (e * it.gain)
    have hgain : (0 : Int) ≤ it.gain := Int.natCast_nonneg _
    rw [correction_beyond (Nat.not_le.1 h)]
    refine ⟨by omega, fun he => ?_, fun he => ?_⟩
    · have := hpos (Int.mul_nonneg he hgain)
      omega
    · have := hneg (Int.mul_nonpos_of_nonpos_of_nonneg he hgain)
      omega

/-- R64: a correction that the slew limit does not cut is the rounded product, negated. -/
theorem correction_uncut (h : it.deadband < e.natAbs) (hcut : (correction it e).natAbs < it.slew) :
    (16 * correction it e + e * it.gain).natAbs ≤ 8 ∧
      e.natAbs * it.gain ≤ 16 * (correction it e).natAbs + 7 := by
  have hprod : e.natAbs * it.gain = (e * it.gain).natAbs := by simp [Int.natAbs_mul]
  obtain ⟨hnear, htie, -, -⟩ := roundDiv_16 (e * it.gain)
  rw [hprod]
  rw [correction_beyond h] at hcut ⊢
  omega

/-- R64: a product that rounds to the slew limit or past it gives the slew limit. -/
theorem correction_cut (h : it.deadband < e.natAbs) (hcut : 16 * it.slew ≤ e.natAbs * it.gain + 8) :
    (correction it e).natAbs = it.slew := by
  have hprod : e.natAbs * it.gain = (e * it.gain).natAbs := by simp [Int.natAbs_mul]
  obtain ⟨-, htie, -, -⟩ := roundDiv_16 (e * it.gain)
  rw [hprod] at hcut
  rw [correction_beyond h]
  omega

/-- R64: with the full gain of 16 an error within the slew limit is taken back whole. -/
theorem correction_full (hgain : it.gain = 16) (h : it.deadband < e.natAbs) (hs : e.natAbs ≤ it.slew) :
    correction it e = -e := by
  obtain ⟨hnear, -, -, -⟩ := roundDiv_16 (e * it.gain)
  rw [correction_beyond h]
  rw [hgain] at hnear ⊢
  rw [if_neg (by omega), if_neg (by omega)]
  omega

end

/-- R65: the range step, by the end of the range that it keeps to. -/
theorem rangeStep_eq (amax : Nat) (a x : Int) : rangeStep amax a x =
    if amax < a + x then amax - a else if a + x < -amax then -amax - a else x := by
  rw [rangeStep, clamp_eq (by omega)]
  omega

/-! ## What a measurement writes (R57, R58, R62, R63, R65) -/

/-- R147, R148: a raise touches the faults alone, and there hangs on the faults, the items and W. -/
theorem raiseIf_eq_of_same {s t : State} (b : Bool) (r : Raise) (hf : t.faults = s.faults)
    (hi : t.items = s.items) (hw : t.web = s.web) :
    raiseIf b r t = { t with faults := (raiseIf b r s).faults } := by
  cases b
  · simp [raiseIf, ← hf]
  · simp [raiseIf, raise, hf, hi, hw]

/-- R62, R63: the error written into a record, and the reason of an error out of tolerance. -/
def errorPut (c : Cyl) (it : LoopItems) (e : Int) (r : LabelRecord) : LabelRecord :=
  if it.tol < e.natAbs then withReason (outOfRegister c) (putError c e r) else putError c e r

theorem errorPut_eq (c : Cyl) (it : LoopItems) (e : Int) (r : LabelRecord) : errorPut c it e r =
    match c with
    | .f => { r with
        eF := some e, reasons := if it.tol < e.natAbs then r.reasons ||| 0x004#9 else r.reasons }
    | .e => { r with
        eE := some e, reasons := if it.tol < e.natAbs then r.reasons ||| 0x040#9 else r.reasons } := by
  unfold errorPut
  cases c <;> split <;> rfl

theorem runAfter_eq (it : LoopItems) (e : Int) (n : Nat) :
    let out := decide (it.tol < e.natAbs)
    let run := out && decide (it.runLength ≤ n + 1)
    runAfter it e n = (if out && !run then n + 1 else 0, run) := by
  unfold runAfter
  by_cases ht : it.tol < e.natAbs <;> by_cases hr : it.runLength ≤ n + 1 <;> simp [ht, hr]

/-- R62, R63: the loop after a measurement, before a correction. -/
def judgedLoop (it : LoopItems) (n : BitVec 16) (e : Int) (x : Loop) : Loop :=
  { x with
    lastSerial := some n, lastErr := some e, run := (runAfter it e x.run).1,
    lastCorr := if x.mode = .measure then none else x.lastCorr }

/-- R63: REGISTER_RUN where the run count has reached the run length. -/
def runRaised (c : Cyl) (n : BitVec 16) (e : Int) (s : State) : State :=
  raiseIf (runAfter (s.items.loop.get c) e (s.loop.get c).run).2
    ⟨.registerRun, .cyl c, some n, e⟩ s

/-- R62, R63: a record, a loop and the faults as a measurement leaves them, before a correction. -/
def judgedState (c : Cyl) (k : Nat) (n : BitVec 16) (e : Int) (s : State) : State :=
  { s with
    track := { s.track with records := s.track.records.modify k (errorPut c (s.items.loop.get c) e) },
    faults := (runRaised c n e s).faults,
    loop := s.loop.set c (judgedLoop (s.items.loop.get c) n e (s.loop.get c)) }

theorem judge_eq (c : Cyl) (k : Nat) (n : BitVec 16) (e : Int) (s : State) :
    judge c k n e s = if (s.loop.get c).mode = .auto then correct c k n e (judgedState c k n e s)
      else judgedState c k n e s := by
  have hrecords : (if (s.items.loop.get c).tol < e.natAbs then
        (s.changeRecord k (putError c e)).changeRecord k (withReason (outOfRegister c))
      else s.changeRecord k (putError c e)) =
      s.changeRecord k (errorPut c (s.items.loop.get c) e) := by
    by_cases h : (s.items.loop.get c).tol < e.natAbs
    · rw [if_pos h]
      simp only [State.changeRecord, changeAt, List.modify_modify_eq]
      congr 4
      funext r
      simp [errorPut, h]
    · rw [if_neg h]
      congr 1
      funext r
      simp [errorPut, h]
  have hjudged : raiseIf (runAfter (s.items.loop.get c) e (s.loop.get c).run).2
      ⟨.registerRun, .cyl c, some n, e⟩ ((s.changeRecord k (errorPut c (s.items.loop.get c) e)).setLoop c
        (judgedLoop (s.items.loop.get c) n e (s.loop.get c))) = judgedState c k n e s := by
    rw [raiseIf_eq_of_same (s := s)] <;> rfl
  rw [← hjudged, ← hrecords]
  rfl

/-- R64, R65: the correction that a loop makes of an error, held to Amax. -/
def heldCorrection (c : Cyl) (e : Int) (s : State) : Int :=
  rangeStep (s.items.loop.get c).amax (s.loop.get c).a
    (correction (s.items.loop.get c) (e + (s.loop.get c).p))

/-- R65: TRIM_LIMIT where the range cuts a correction. -/
def limitRaised (c : Cyl) (n : BitVec 16) (e : Int) (s : State) : State :=
  let wanted := correction (s.items.loop.get c) (e + (s.loop.get c).p)
  raiseIf (rangeExceeded (s.items.loop.get c).amax (s.loop.get c).a wanted)
    ⟨.trimLimit, .cyl c, some n, wanted⟩ s

theorem correct_eq (c : Cyl) (k : Nat) (n : BitVec 16) (e : Int) (s : State) :
    correct c k n e s = trimChanged c { s with
      track := { s.track with records := s.track.records.modify k (putCorr c (heldCorrection c e s)) },
      faults := (limitRaised c n e s).faults,
      loop := s.loop.set c { s.loop.get c with
        lastCorr := some (heldCorrection c e s), a := (s.loop.get c).a + heldCorrection c e s,
        p := (s.loop.get c).p + heldCorrection c e s } } := by
  unfold correct
  dsimp only
  rw [raiseIf_eq_of_same _ _ rfl rfl rfl]
  simp [commitTrim, State.setLoop, State.changeRecord, changeAt, heldCorrection, limitRaised]

theorem heldCorrection_judged (c : Cyl) (k : Nat) (n : BitVec 16) (e : Int) (s : State) :
    heldCorrection c e (judgedState c k n e s) = heldCorrection c e s := by
  simp [heldCorrection, judgedState, judgedLoop]

theorem limitRaised_judged (c : Cyl) (k : Nat) (n : BitVec 16) (e : Int) (s : State) :
    (limitRaised c n e (judgedState c k n e s)).faults = (limitRaised c n e (runRaised c n e s)).faults := by
  have hl : (judgedState c k n e s).loop.get c = judgedLoop (s.items.loop.get c) n e (s.loop.get c) := by
    simp [judgedState]
  unfold limitRaised
  rw [hl, raiseIf_eq_of_same (s := runRaised c n e s)]
  all_goals simp [runRaised, judgedState, judgedLoop]

/-- R62 to R65: a measurement in AUTO, all at once. -/
theorem judge_auto {c : Cyl} {s : State} (h : (s.loop.get c).mode = .auto) (k : Nat) (n : BitVec 16)
    (e : Int) :
    let x := heldCorrection c e s
    judge c k n e s = trimChanged c { s with
      track := { s.track with
        records := s.track.records.modify k (putCorr c x ∘ errorPut c (s.items.loop.get c) e) },
      faults := (limitRaised c n e (runRaised c n e s)).faults,
      loop := s.loop.set c { judgedLoop (s.items.loop.get c) n e (s.loop.get c) with
        lastCorr := some x, a := (s.loop.get c).a + x, p := (s.loop.get c).p + x } } := by
  rw [judge_eq, if_pos h, correct_eq, heldCorrection_judged, limitRaised_judged]
  simp [judgedState, judgedLoop, List.modify_modify_eq]

/-- R57, R58: a measurement by the sheet, the mode, the index and what is known of the label. -/
theorem measure_of_active {sh : Sheet} {s : State} (h : s.sheets.active = some sh) (c : Cyl) (k : Nat)
    (rec : LabelRecord) (known : Bool) (due : Pos) :
    Machine.measure c k rec known due s =
      if sh.params.uses c = false then s
      else if (s.loop.get c).mode ≠ .off ∧ (s.phase.get c).indexLost = false ∧ known = true then
        judge c k rec.serial (errorCounts (errorSub sh.params.lSub
          (measuredPhase sh.params.lSub (s.phase.get c).pub (posDiff s.web.w due))
          (liveTarget sh.params.lSub (sh.params.target c) (s.loop.get c).nudge))) s
      else s.changeRecord k (withReason (noMeasure c)) := by
  simp only [Machine.measure, State.active?, h, Option.map_some, Bool.not_eq_eq_eq_not, Bool.not_true]
  by_cases hoff : (s.loop.get c).mode = .off <;> cases (s.phase.get c).indexLost <;> cases known <;>
    simp [hoff]

/-- Settles O35: the numbers by their own lemmas, the record, the loop and the emitter by `judge_eq` and
`correct_eq`. -/
theorem errorWrapsAndCorrectionOpposes : Obligations.ErrorWrapsAndCorrectionOpposes := by
  refine ⟨fun lSub m l h => errorSub_wraps h m l, fun e => roundDiv_256 e, fun it e => ?_,
    fun c k rec known due sh s hact => ?_⟩
  · obtain ⟨hslew, hpos, hneg⟩ := correction_bounds it e
    exact ⟨correction_deadband, hslew, hpos, hneg, correction_uncut, correction_cut, correction_full⟩
  intro x it write none_ oor valid phase live e out run judged put s1 wanted top cut s2
  have hmeasure := measure_of_active hact c k rec known due
  have hjudge (hu : sh.params.uses c = true) (hv : valid) :
      Machine.measure c k rec known due s = judge c k rec.serial e s := by
    rw [hmeasure, if_neg (by simp [hu])]
    exact if_pos hv
  have hrun : runAfter it e x.run = (if out && !run then x.run + 1 else 0, run) := runAfter_eq it e x.run
  have hs1 : runRaised c rec.serial e s = s1 := by simp only [runRaised, s1]; rw [hrun]
  have hput : errorPut c it e = put none := by
    funext r
    rw [errorPut_eq]
    cases c <;> simp [put, out, oor]
  refine ⟨fun hu => ?_, fun hu hv => ?_, fun hu hv hm => ?_, fun hu hv hm => ?_, fun hstep => ?_⟩
  · rw [hmeasure, if_pos hu]
  · rw [hmeasure, if_neg (by simp [hu])]
    refine (if_neg hv).trans ?_
    cases c <;> rfl
  · have hx : judgedLoop it rec.serial e x = { judged with lastCorr := none } := by
      rw [judgedLoop, hrun, if_pos hm]
    have hauto : ¬ (s.loop.get c).mode = .auto := by rw [show (s.loop.get c).mode = _ from hm]; decide
    rw [hjudge hu hv, judge_eq, if_neg hauto, judgedState, hs1, hput, hx]
    rfl
  · have hx : judgedLoop it rec.serial e x = judged := by
      rw [judgedLoop, hrun, if_neg (show x.mode ≠ .measure by rw [hm]; decide)]
    have hcut : heldCorrection c e s = cut := rangeStep_eq _ _ _
    have hputs : putCorr c cut ∘ errorPut c it e = put (some cut) := by
      rw [hput]
      cases c <;> rfl
    have hs2 : limitRaised c rec.serial e s1 = s2 := by
      simp [limitRaised, s1, s2, wanted, rangeExceeded, x, it]
    rw [hjudge hu hv, judge_auto hm, hcut, hs1, hs2, hputs, hx]
    rfl
  · exact trimChanged_rest (.inl hstep)

end Sys2Proof.Proofs
end

section
/-! What a step is made of, said once (`Acts`): changes of the Link Port and of the timebase, the operations of
requests, and the events of the blocks. A predicate that each of these keeps holds after every step
(`kept_by_step`). -/
namespace Sys2Proof.Proofs

open Sys2Proof.Machine Sys2Proof.Safety

/-- The events of the blocks of chapters 1 to 7, and the resets. -/
inductive BlockEvent : (State → State) → Prop
  | encoder (a b : Bool) : BlockEvent (encoderTransition a b)
  | gate : BlockEvent gateEnd
  | index (c : Cyl) : BlockEvent (indexArrival c)
  | rise (x : Sensor) : BlockEvent (markRise x)
  | fall (x : Sensor) : BlockEvent (markFall x)
  | space (c : Cyl) : BlockEvent (spaceEnd c)
  | stepTime (c : Cyl) : BlockEvent (stepTimeEnd c)
  | confirm (high : Bool) (x : ConfirmEdge) : BlockEvent (confirmEdge high x)
  | engageTimer (c : Cyl) : BlockEvent (engageExpiry c)
  | releaseTimer (c : Cyl) : BlockEvent (releaseExpiry c)
  | dwell : BlockEvent stopDwellExpiry
  | motion (l : Lane) : BlockEvent (motionPulse l)
  | checkTimer (l : Lane) : BlockEvent (checkExpiry l)
  | runtime : BlockEvent runtimeReset
  | full (p : PinLevels) : BlockEvent (fullReset p)

/-- The states that a state comes to by changes of the Link Port, the timebase and the queue, operations of
requests, and events of the blocks. -/
inductive Acts (s : State) : State → Prop
  | start : Acts s s
  | link {t : State} (l : Link) : Acts s t → Acts s { t with link := l }
  | clock {t : State} (n : Nat) (q : List Instr) : Acts s t → Acts s { t with now := n, pending := q }
  | request {t : State} {op : State → State × Reply} : RequestOp op → Acts s t → Acts s (op t).1
  | event {t : State} {f : State → State} : BlockEvent f → Acts s t → Acts s (f t)

section
variable {s t : State}

/-! ## The Link Port (9.1 to 9.5) -/

theorem acts_takeAddressed {op : State → State × Reply} (hop : RequestOp op) (kind : Nat)
    (h : Acts s t) : Acts s (takeAddressed kind op t) := .link _ (.request hop (.link _ h))

theorem acts_takeBroadcastFrame (kind : Nat) (body : List Byte) (h : Acts s t) :
    Acts s (takeBroadcastFrame kind body t) := by
  unfold takeBroadcastFrame
  (repeat' split)
  · exact .request .commit (.link _ h)
  · exact .request (.disengage _) (.link _ h)
  · exact .link _ h
  · exact .link _ h

theorem acts_endFrame (lo hi : Byte) (h : Acts s t) : Acts s (endFrame lo hi t) := by
  unfold endFrame
  dsimp only
  (repeat' split)
  · exact acts_takeAddressed (requestOp_requestOf _ _) _ h
  · exact acts_takeBroadcastFrame _ _ h
  · exact .link _ h

theorem acts_receive (b : Byte) (err : Bool) (h : Acts s t) : Acts s (receive b err t) := by
  unfold receive
  dsimp only
  split
  · exact .link _ h
  split
  · exact h
  · exact h
  · exact h
  · split <;> exact .link _ h
  · exact .link _ h
  · exact .link _ h
  · exact .link _ h
  · exact .link _ h
  · split
    · exact .link _ h
    · exact acts_endFrame _ _ h

theorem acts_takeChar (b : Byte) (parity stop : Bool) (h : Acts s t) :
    Acts s (takeChar b parity stop t) := by
  unfold takeChar
  (repeat' split)
  · exact h
  · exact .link _ h
  · exact acts_receive b _ (.link _ h)

theorem acts_takeFrame (dest kind : Byte) (body : List Byte) (check : BitVec 16) (h : Acts s t) :
    Acts s (takeFrame dest kind body check t) := by
  have hbytes (bs : List Byte) {u : State} (hu : Acts s u) :
      Acts s (bs.foldl (fun s b => takeChar b (evenParity b) true s) u) := by
    induction bs generalizing u with
    | nil => exact hu
    | cons b bs ih => exact ih (acts_takeChar b _ true hu)
  exact hbytes _ (.link _ h)

theorem acts_hostRequest (kind : Nat) {op : State → State × Reply} (hop : RequestOp op)
    (h : Acts s t) : Acts s (hostRequest kind op t) := by
  unfold hostRequest
  dsimp only
  (repeat' split)
  · exact h
  · exact .link _ h
  · exact .link _ h
  · exact acts_takeAddressed hop kind (.link _ h)

theorem acts_hostBroadcast (kind : Nat) (body : List Byte) (h : Acts s t) :
    Acts s (hostBroadcast (takeBroadcastFrame kind body) t) := by
  unfold hostBroadcast
  (repeat' split)
  · exact h
  · exact .link _ h
  · exact acts_takeBroadcastFrame kind body (.link _ h)

theorem acts_characterReceived (d : RxData) (parity stop : Bool) (h : Acts s t) :
    Acts s (characterReceived d parity stop t) := by
  cases d with
  | startBit => exact .link _ h
  | lineHigh => exact .link _ h
  | byte b => exact acts_takeChar b parity stop h

theorem acts_frameCutOff (cause : CutCause) (h : Acts s t) : Acts s (frameCutOff cause t) := by
  unfold frameCutOff
  dsimp only
  (repeat' split)
  · exact h
  all_goals exact .link _ h

theorem acts_overlap (h : Acts s t) : Acts s (overlap t) := by
  unfold overlap
  split
  · exact .link _ h
  · exact h

theorem acts_beginReply (h : Acts s t) : Acts s (beginReply t) := by
  unfold beginReply
  split
  · exact .link _ h
  · exact h

theorem acts_replyEnd (adr : BitVec 5) (bdr : BitVec 2) (h : Acts s t) :
    Acts s (replyEnd adr bdr t) := by
  unfold replyEnd
  split
  · have hend : Acts s (endReply t) := .link _ h
    cases t.link.restart with
    | none => exact hend
    | some level =>
      cases level with
      | runtime => exact .event .runtime hend
      | full =>
        have hfull (p : PinLevels) : Acts s (fullReset p (endReply t)) := .event (.full p) hend
        exact hfull _
  · exact h

/-! ## Commands and ticks -/

theorem acts_of_request {i : Instr} {kind : Nat} {op : State → State × Reply} (h : Acts s t)
    (he : exec i t = .next (hostRequest kind op t)) (hop : RequestOp op) :
    ∃ u, exec i t = .next u ∧ Acts s u := ⟨_, he, acts_hostRequest kind hop h⟩

theorem acts_of_event {i : Instr} {f : State → State} (h : Acts s t) (he : exec i t = .next (f t))
    (hf : BlockEvent f) : ∃ u, exec i t = .next u ∧ Acts s u := ⟨_, he, .event hf h⟩

/-- Every command, as the rows of the table come: an event of a block or of the Link Port, or a request. -/
theorem exec_acts (i : Instr) (h : Acts s t) : ∃ u, exec i t = .next u ∧ Acts s u := by
  have hwrite (i : Item) (v : BitVec 32) : ∃ u, exec (writeRow i v) t = .next u ∧ Acts s u :=
    acts_of_request h (exec_writeRow i v t) (.write i _)
  cases i with
  | encoderTransition a b => exact acts_of_event h rfl (.encoder a b)
  | speedGateEnd => exact acts_of_event h rfl .gate
  | indexArrival c => exact acts_of_event h rfl (.index c)
  | markLeadingEdge x => exact acts_of_event h rfl (.rise x)
  | markTrailingEdge x => exact acts_of_event h rfl (.fall x)
  | spaceEnd c => exact acts_of_event h rfl (.space c)
  | stepTimeEnd c => exact acts_of_event h rfl (.stepTime c)
  | confirmRise x => exact acts_of_event h rfl (.confirm true x)
  | confirmFall x => exact acts_of_event h rfl (.confirm false x)
  | engageTimerExpiry c => exact acts_of_event h rfl (.engageTimer c)
  | releaseTimerExpiry c => exact acts_of_event h rfl (.releaseTimer c)
  | stopDwellExpiry => exact acts_of_event h rfl .dwell
  | motionPulse l => exact acts_of_event h rfl (.motion l)
  | checkTimerExpiry l => exact acts_of_event h rfl (.checkTimer l)
  | resetInput p => exact acts_of_event h rfl (.full p)
  | powerOn p => exact acts_of_event h rfl (.full p)
  | idleGap => exact ⟨_, rfl, .link _ h⟩
  | frameReceived d k b c => exact ⟨_, rfl, acts_takeFrame d k b c h⟩
  | frameCutOff cause => exact ⟨_, rfl, acts_frameCutOff cause h⟩
  | overlap => exact ⟨_, rfl, acts_overlap h⟩
  | replyWaitEnd => exact ⟨_, rfl, acts_beginReply h⟩
  | replyEnd adr bdr => exact ⟨_, rfl, acts_replyEnd adr bdr h⟩
  | characterReceived d parity stop => exact ⟨_, rfl, acts_characterReceived d parity stop h⟩
  | commit broadcast =>
    cases broadcast with
    | true => exact ⟨_, rfl, acts_hostBroadcast 0x16 [] h⟩
    | false => exact acts_of_request h rfl .commit
  | disengage set broadcast =>
    cases broadcast with
    | true => exact ⟨_, rfl, acts_hostBroadcast 0x21 [set] h⟩
    | false => exact acts_of_request h rfl (.disengage set)
  | webTimingConfigWrite i v => exact hwrite (.web i) v
  | indexConfigWrite i c v => exact hwrite (.index i c) v
  | markConfigWrite i v => exact hwrite (.mark i) v
  | geometryWrite i v => exact hwrite (.geo i) v
  | rejectMaskWrite v => exact hwrite .rejectMask v
  | loopConfigWrite i c v => exact hwrite (.loop i c) v
  | trimIntervalWrite v => exact hwrite .trimInterval v
  | actuationConfigWrite i v => exact hwrite (.act i) v
  | driveMappingWrite l v => exact hwrite (.mapping l) v
  | laneConfigWrite i l v => exact hwrite (.lane i l) v
  | freezeOnFirstWrite v => exact hwrite .freezeOnFirst v
  | alarmMaskWrite v => exact hwrite .alarmMask v
  | statusRead => exact acts_of_request h rfl (.reads fun _ => rfl)
  | configWrite n v => exact acts_of_request h rfl (.writeNumber n v)
  | configRead n => exact acts_of_request h rfl (requestOp_configRead n)
  | curveWrite l as => exact acts_of_request h rfl (.curve l as)
  | curveRead l => exact acts_of_request h rfl (requestOp_curveRead l)
  | sheetParamWrite l f e p q u r => exact acts_of_request h rfl (.params l f e p q u r)
  | windowWrite i es => exact acts_of_request h rfl (.windows i es)
  | windowRead t i n => exact acts_of_request h rfl (requestOp_windowRead t i n)
  | windowEdit lc tc ec m nl nt ne d => exact acts_of_request h rfl (.edit lc tc ec m nl nt ne d)
  | sheetCopyBack => exact acts_of_request h rfl .copyBack
  | sheetClear => exact acts_of_request h rfl .clearSheet
  | sheetParamRead x => exact acts_of_request h rfl (requestOp_paramRead x)
  | engage c => exact acts_of_request h rfl (.engage c)
  | loopMode c m => exact acts_of_request h rfl (.loopMode c m)
  | nudge c d => exact acts_of_request h rfl (.nudge c d)
  | trimMove c d => exact acts_of_request h rfl (.trimMove c d)
  | trimZero c => exact acts_of_request h rfl (.trimZero c)
  | loopRead c => exact acts_of_request h rfl (requestOp_loopRead c)
  | lanePark l => exact acts_of_request h rfl (.park l)
  | laneRelease l => exact acts_of_request h rfl (.release l)
  | rollLoad l n => exact acts_of_request h rfl (.roll l n)
  | laneCheck l => exact acts_of_request h rfl (.check l)
  | laneRead l => exact acts_of_request h rfl (requestOp_laneRead l)
  | trackRead x n k => exact acts_of_request h rfl (requestOp_trackRead x n k)
  | trackFlush => exact acts_of_request h rfl .flush
  | faultRead => exact acts_of_request h rfl (.reads fun _ => rfl)
  | faultClear codes option => exact acts_of_request h rfl (.clearFaults codes option)
  | countersRead => exact acts_of_request h rfl (.reads fun _ => rfl)
  | countersClear => exact acts_of_request h rfl .clearCounters
  | restart l => exact acts_of_request h rfl (.restart l)

/-- A step, on a waiting command or on an empty queue. -/
theorem step_acts (h : step s = .next t) : Acts s t := by
  unfold step at h
  split at h
  · next i rest _ =>
    have hqueue : Acts s { s with pending := rest } := .clock s.now rest .start
    obtain ⟨u, hu, hacts⟩ := exec_acts i hqueue
    exact Host.Outcome.next.inj (hu.symm.trans h) ▸ hacts
  · have hlink : Acts s { s with link := s.link.tick } := .link _ .start
    have htick : Acts s (tick s) := .clock (t := { s with link := s.link.tick }) _ _ hlink
    exact Host.Outcome.next.inj h ▸ htick

/-- What each part of a step keeps, every step keeps. -/
theorem kept_by_step {P : State → Prop} (hlink : ∀ {s} l, P s → P { s with link := l })
    (hclock : ∀ {s} n q, P s → P { s with now := n, pending := q })
    (hrequest : ∀ {s op}, RequestOp op → P s → P (op s).1)
    (hevent : ∀ {s f}, BlockEvent f → P s → P (f s)) (hstep : step s = .next t) (hs : P s) : P t := by
  have hacts := step_acts hstep
  clear hstep
  induction hacts with
  | start => exact hs
  | link l _ ih => exact hlink l ih
  | clock n q _ ih => exact hclock n q ih
  | request hop _ ih => exact hrequest hop ih
  | event hf _ ih => exact hevent hf ih

end

end Sys2Proof.Proofs
end

section
/-! What a count and a mark edge are made of: changes of the track, the trackers, the qualifiers and the faults
alone, measurements, the steps of the phases, and the count at the lanes (`CountKeeps`). -/
namespace Sys2Proof.Proofs

open Sys2Proof.Machine Sys2Proof.Safety

/-- The states differ at most in track, tracker, qualifiers and faults. -/
structure TrackSide (s t : State) : Prop where
  now : t.now = s.now
  inputs : t.inputs = s.inputs
  web : t.web = s.web
  phase : t.phase = s.phase
  loop : t.loop = s.loop
  emit : t.emit = s.emit
  seq : t.seq = s.seq
  stopDwell : t.stopDwell = s.stopDwell
  resume : t.resume = s.resume
  sheets : t.sheets = s.sheets
  lane : t.lane = s.lane
  drives : t.drives = s.drives
  link : t.link = s.link
  configDefault : t.configDefault = s.configDefault
  items : t.items = s.items
  free : t.free = s.free
  pending : t.pending = s.pending

theorem trackSide_serveGate (n : Nat) (s : State) : TrackSide s (serveGate n s) := by
  constructor <;> simp

theorem trackSide_serveRemoval (n : Nat) (s : State) : TrackSide s (serveRemoval n s) := by
  constructor <;> simp

theorem trackSide_reverseRemoval (n : Nat) (s : State) : TrackSide s (reverseRemoval n s) := by
  constructor <;> simp

/-- `P` is kept by what a count and a mark edge are made of. -/
structure CountKeeps (P : State → Prop) : Prop where
  aside : ∀ {s t}, TrackSide s t → P s → P t
  measure : ∀ {s} c k r b due, P s → P (Machine.measure c k r b due s)
  web : ∀ {s} x, x.v = s.web.v → x.stopped = s.web.stopped → x.speed = s.web.speed →
    P s → P { s with web := x }
  level : ∀ {s} x b, P s → P (setLevel x b s)
  both : ∀ {s} d, P s → P (stepBoth d s)
  publish : ∀ {s}, P s → P (publish s)
  lanes : ∀ {s}, P s → P (lanesCount s)

section
variable {P : State → Prop} (h : CountKeeps P) {s : State}
include h

/-! ## The stations (R38 to R46) -/

theorem kept_serveNip (n : Nat) (hs : P s) : P (serveNip n s) := by
  induction n generalizing s with
  | zero => exact hs
  | succ n ih =>
    unfold serveNip
    (repeat' split)
    · exact hs
    · exact ih (h.measure _ _ _ _ _ (h.aside (by constructor <;> simp) hs))
    · exact hs

theorem kept_serveEmboss (n : Nat) (hs : P s) : P (serveEmboss n s) := by
  induction n generalizing s with
  | zero => exact hs
  | succ n ih =>
    unfold serveEmboss
    (repeat' split)
    · exact hs
    · exact ih (h.measure _ _ _ _ _ (h.aside (by constructor <;> simp) hs))
    · exact hs

theorem kept_markerEvent (r : LabelRecord) (hs : P s) : P (markerEvent r s) := by
  have hemboss : P (if s.track.emboss ≤ s.track.marker then embossByMarker s.track.marker r s
      else s) := by
    split
    · exact kept_serveEmboss h _ (h.aside (by constructor <;> simp) hs)
    · exact hs
  exact h.aside (by constructor <;> rfl) hemboss

theorem kept_serveMarker (n : Nat) (hs : P s) : P (serveMarker n s) := by
  induction n generalizing s with
  | zero => exact hs
  | succ n ih =>
    unfold serveMarker
    (repeat' split)
    · exact hs
    · exact ih (kept_markerEvent h _ hs)
    · exact hs

theorem kept_serveStations (hs : P s) : P (serveStations s) :=
  h.aside (trackSide_serveRemoval _ _) (kept_serveMarker h _ (kept_serveEmboss h _
    (h.aside (trackSide_serveGate _ _) (kept_serveNip h _ hs))))

/-! ## The Mark Trackers (R19 to R31) -/

/-- R20: a measurement has ended: a waiting coast decision, or the events of a held gate-close. -/
theorem kept_measurementEnded (x : Sensor) (hs : P s) : P (measurementEnded x s) := by
  unfold measurementEnded releaseGate
  dsimp only
  (repeat' split)
  · exact h.aside (by constructor <;> simp) hs
  · exact hs
  · exact kept_serveEmboss h _ (h.aside (trackSide_serveGate _ _) (h.aside (by constructor <;> simp) hs))
  · exact hs

theorem kept_rejectMark (x : Sensor) (st : QualState) (hs : P s) : P (rejectMark x st s) :=
  kept_measurementEnded h x (h.aside (by constructor <;> simp) hs)

theorem kept_trailingEdge (x : Sensor) (hs : P s) : P (trailingEdge x s) := by
  unfold trailingEdge
  dsimp only
  (repeat' split)
  · exact hs
  · exact h.aside (by constructor <;> simp) hs
  · exact kept_measurementEnded h x (h.aside (by constructor <;> simp) hs)
  · exact kept_rejectMark h x _ hs

theorem kept_qualForward (x : Sensor) (hs : P s) : P (qualForward x s) := by
  unfold qualForward
  dsimp only
  split
  · exact kept_rejectMark h x _ hs
  · exact hs

theorem kept_qualReverse (x : Sensor) (hs : P s) : P (qualReverse x s) := by
  unfold qualReverse
  split
  · exact kept_rejectMark h x _ hs
  · exact hs

theorem kept_markRise (x : Sensor) (hs : P s) : P (markRise x s) := by
  unfold markRise
  split
  · exact hs
  · exact h.aside (by constructor <;> simp) (h.level x true hs)

theorem kept_markFall (x : Sensor) (hs : P s) : P (markFall x s) := by
  unfold markFall
  split
  · exact kept_trailingEdge h x (h.level x false hs)
  · exact hs

/-! ## Counts (R1, R2) -/

theorem kept_moveWeb (d : Direction) (hs : P s) : P { s with web := moveWeb d s.web } := by
  cases d <;> exact h.web _ rfl rfl rfl hs

theorem kept_forwardCount (hs : P s) : P (forwardCount s) := by
  have hserved := kept_serveStations h (h.publish (h.both .advance (kept_moveWeb h .forward hs)))
  exact h.lanes (h.aside (by constructor <;> simp)
    (kept_qualForward h .foil (kept_qualForward h .print hserved)))

theorem kept_reverseCount (hs : P s) : P (reverseCount s) :=
  h.aside (trackSide_reverseRemoval _ _) (kept_qualReverse h .foil (kept_qualReverse h .print
    (h.publish (h.both .retard (kept_moveWeb h .reverse hs)))))

theorem kept_encoderTransition (a b : Bool) (hs : P s) : P (encoderTransition a b s) := by
  have href : P (setReference a b s) := h.web _ rfl rfl rfl hs
  unfold encoderTransition
  dsimp only
  split
  · exact href
  · exact kept_forwardCount h href
  · exact kept_reverseCount h href
  · exact h.web _ rfl rfl rfl href

end

end Sys2Proof.Proofs
end

section
/-! The trim accounts stay in balance and within Amax (R65 to R72, R75, R77). -/
namespace Sys2Proof.Proofs

open Sys2Proof.Machine Sys2Proof.Safety

/-! ## The account of one loop -/

/-- R66, R67: A is N and P together, and A and N are within Amax. -/
structure AccountSound (amax : Nat) (x : Loop) : Prop where
  sum : x.a = x.n + x.p
  a : x.a.natAbs ≤ amax
  n : x.n.natAbs ≤ amax

theorem trimSound_iff {s : State} :
    TrimSound s ↔ ∀ c, AccountSound (s.items.loop.get c).amax (s.loop.get c) :=
  ⟨fun h c => ⟨(h c).1, (h c).2.1, (h c).2.2⟩, fun h c => ⟨(h c).sum, (h c).a, (h c).n⟩⟩

section
variable {amax : Nat} {x y : Loop} (h : AccountSound amax x)
include h

theorem accountSound_of_same (ha : y.a = x.a) (hn : y.n = x.n) (hp : y.p = x.p) :
    AccountSound amax y := ⟨by rw [ha, hn, hp, h.sum], ha ▸ h.a, hn ▸ h.n⟩

/-- R66: a pulse brings N a step nearer to A. -/
theorem accountSound_pulse : AccountSound amax (pulseAccount x) := by
  obtain ⟨hsum, ha, hn⟩ := h
  unfold pulseAccount
  split
  · exact ⟨by simp only; omega, ha, by simp only; omega⟩
  · split
    · exact ⟨by simp only; omega, ha, by simp only; omega⟩
    · exact ⟨hsum, ha, hn⟩

/-- R69, R77: the pending trim discarded leaves A at N. -/
theorem accountSound_discard (ha : y.a = x.a - x.p) (hn : y.n = x.n) (hp : y.p = 0) :
    AccountSound amax y := by
  obtain ⟨hsum, -, hbound⟩ := h
  exact ⟨by omega, by omega, by omega⟩

/-- R65, R71: what is added to A and P is first held to the range of A. -/
theorem accountSound_held (k : Int) (ha : y.a = x.a + rangeStep amax x.a k) (hn : y.n = x.n)
    (hp : y.p = x.p + rangeStep amax x.a k) : AccountSound amax y := by
  obtain ⟨hsum, -, hbound⟩ := h
  rw [rangeStep_eq] at ha hp
  exact ⟨by omega, by omega, by omega⟩

end

/-- R72: TRIM ZERO makes the pending trim the account. -/
theorem accountSound_zero {amax : Nat} {x : Loop} (h : x.p.natAbs ≤ amax) :
    AccountSound amax { x with a := x.p, n := 0 } := ⟨(zero_add _).symm, h, Nat.zero_le _⟩

theorem accountSound_setMode {amax : Nat} {x : Loop} (h : AccountSound amax x) (m : LoopMode) :
    AccountSound amax (setMode m x) := by
  cases m with
  | off => exact accountSound_discard h rfl rfl rfl
  | measure => exact accountSound_of_same h rfl rfl rfl
  | auto => exact accountSound_of_same h rfl rfl rfl

/-! ## The accounts of a state -/

section
variable {s t : State}

theorem trimSound_of_nudged (h : TrimSound s) (hloop : ∀ c, NudgedOnly (s.loop.get c) (t.loop.get c))
    (hitems : t.items.loop = s.items.loop) : TrimSound t := by
  refine trimSound_iff.2 fun c => ?_
  rw [hitems, hloop c]
  exact accountSound_of_same (trimSound_iff.1 h c) rfl rfl rfl

theorem trimSound_of_frame (h : TrimSound s) (hf : t.loop = s.loop ∧ t.items.loop = s.items.loop) :
    TrimSound t := trimSound_of_nudged h (fun c => by rw [hf.1]; rfl) hf.2

theorem trimSound_of_set (h : TrimSound s) {c : Cyl} {x : Loop} (hloop : t.loop = s.loop.set c x)
    (hitems : t.items = s.items) (hx : AccountSound (s.items.loop.get c).amax x) : TrimSound t := by
  refine trimSound_iff.2 fun d => ?_
  rw [hloop, hitems, PerCyl.get_set]
  split
  · next hd => exact hd ▸ hx
  · exact trimSound_iff.1 h d

/-! ## Trim pulses and measurements (R57 to R66) -/

theorem trimSound_handStep (h : TrimSound s) (c : Cyl) (o : PhaseOut) : TrimSound (handStep c o s) :=
  trimSound_of_nudged h (fun d => handStep_loop c d o s) (by simp)

theorem trimSound_stepBoth (h : TrimSound s) (d : TrimDir) : TrimSound (stepBoth d s) := by
  unfold stepBoth
  split
  · next a b _ _ =>
    have hphase : TrimSound { s with phase := ⟨a.phase, b.phase⟩ } := trimSound_of_frame h ⟨rfl, rfl⟩
    exact trimSound_handStep (trimSound_handStep hphase .f a) .e b
  · exact h

theorem trimSound_emitPulse (h : TrimSound s) (c : Cyl) : TrimSound (emitPulse c s) := by
  have hpulsed : TrimSound (pulsedAt c s) :=
    trimSound_of_set h rfl rfl (accountSound_pulse (trimSound_iff.1 h c))
  rw [emitPulse_eq]
  exact trimSound_of_nudged hpulsed (fun d => stepPhase_loop _ c d _) (by simp)

theorem trimSound_trimChanged (h : TrimSound s) (c : Cyl) : TrimSound (trimChanged c s) := by
  unfold trimChanged
  dsimp only
  (repeat' split)
  · exact h
  · exact trimSound_emitPulse h c
  · exact trimSound_of_frame h (by simp)
  · exact trimSound_of_frame h (by simp)
  · exact h

/-- R65, R71: what is committed is held to the range first. -/
theorem trimSound_commitTrim (h : TrimSound s) (c : Cyl) (k : Int) :
    TrimSound (commitTrim c (rangeStep (s.items.loop.get c).amax (s.loop.get c).a k) s) := by
  rw [commitTrim_eq]
  apply trimSound_trimChanged
  exact trimSound_of_set h rfl rfl (accountSound_held (trimSound_iff.1 h c) k rfl rfl rfl)

theorem trimSound_judgedState (h : TrimSound s) (c : Cyl) (k : Nat) (n : BitVec 16) (e : Int) :
    TrimSound (judgedState c k n e s) :=
  trimSound_of_set h rfl rfl (accountSound_of_same (trimSound_iff.1 h c) rfl rfl rfl)

theorem trimSound_correct (h : TrimSound s) (c : Cyl) (k : Nat) (n : BitVec 16) (e : Int) :
    TrimSound (correct c k n e s) := by
  rw [correct_eq]
  apply trimSound_trimChanged
  exact trimSound_of_set h rfl rfl (accountSound_held (trimSound_iff.1 h c) _ rfl rfl rfl)

theorem trimSound_measure (h : TrimSound s) (c : Cyl) (k : Nat) (r : LabelRecord) (b : Bool) (due : Pos) :
    TrimSound (Machine.measure c k r b due s) := by
  cases hact : s.sheets.active with
  | none => simpa [Machine.measure, State.active?, hact] using h
  | some sh =>
    rw [measure_of_active hact]
    split
    · exact h
    · split
      · rw [judge_eq]
        split
        · exact trimSound_correct (trimSound_judgedState h c k _ _) c k _ _
        · exact trimSound_judgedState h c k _ _
      · exact trimSound_of_frame h (by simp)

theorem countKeeps_trimSound : CountKeeps TrimSound where
  aside ht h := trimSound_of_frame h ⟨ht.loop, by rw [ht.items]⟩
  measure c k r b due h := trimSound_measure h c k r b due
  web _ _ _ _ h := trimSound_of_frame h ⟨rfl, rfl⟩
  level x b h := trimSound_of_frame h (by cases x <;> simp [setLevel])
  both d h := trimSound_stepBoth h d
  publish h := trimSound_of_frame h (by simp)
  lanes h := trimSound_of_frame h (by simp)

/-! ## The other events and the resets -/

theorem trimSound_swapPending (h : TrimSound s) : TrimSound (swapPending s) :=
  trimSound_of_nudged h (fun c => swapPending_loop s c) (by simp)

theorem trimSound_gateEnd (h : TrimSound s) : TrimSound (gateEnd s) := by
  unfold gateEnd gateEndStore
  dsimp only
  split
  · exact trimSound_swapPending (trimSound_of_frame h (by simp))
  · exact trimSound_of_frame h (by simp)

theorem trimSound_indexArrival (h : TrimSound s) (c : Cyl) : TrimSound (indexArrival c s) := by
  unfold indexArrival takeIndex
  split
  · next p _ _ _ =>
    have hstepped (o : PhaseOut) : TrimSound (handStep c o (s.setPhase c o.phase)) :=
      trimSound_handStep (trimSound_of_frame h (by simp)) c o
    exact trimSound_of_frame (hstepped (indexStep p.lSub (p.throw c) (s.phase.get c))) (by simp)
  · exact trimSound_of_frame h (by simp [countArrival])

theorem trimSound_spaceEnd (h : TrimSound s) (c : Cyl) : TrimSound (spaceEnd c s) := by
  unfold spaceEnd
  dsimp only
  (repeat' split)
  · exact trimSound_of_frame h (by simp)
  · exact trimSound_emitPulse (trimSound_of_frame h (by simp)) c
  · exact h

theorem trimSound_runtimeReset (h : TrimSound s) : TrimSound (runtimeReset s) := by
  refine trimSound_of_frame (s := { s with loop := ⟨runtimeLoop s.loop.f, runtimeLoop s.loop.e⟩ })
    (trimSound_iff.2 fun c => ?_) (by simp [runtimeReset])
  have hc := trimSound_iff.1 h c
  cases c <;> exact accountSound_discard hc rfl rfl rfl

end

end Sys2Proof.Proofs
end

section
/-! The trim accounts through the events and the requests, and so through every step (R66, R67). -/
namespace Sys2Proof.Proofs

open Sys2Proof.Machine Sys2Proof.Safety

section
variable {s : State}

/-! ## The events of the blocks -/

theorem trimSound_fullReset (p : PinLevels) (s : State) : TrimSound (fullReset p s) := by
  obtain ⟨htrim, -⟩ := actuation_reset
  exact trimSound_of_frame htrim ⟨rfl, rfl⟩

theorem trimSound_event {f : State → State} (hf : BlockEvent f) (h : TrimSound s) : TrimSound (f s) := by
  cases hf with
  | encoder a b => exact kept_encoderTransition countKeeps_trimSound a b h
  | gate => exact trimSound_gateEnd h
  | index c => exact trimSound_indexArrival h c
  | rise x => exact kept_markRise countKeeps_trimSound x h
  | fall x => exact kept_markFall countKeeps_trimSound x h
  | space c => exact trimSound_spaceEnd h c
  | runtime => exact trimSound_runtimeReset h
  | full p => exact trimSound_fullReset p s
  | stepTime c =>
    unfold stepTimeEnd
    dsimp only
    split <;> exact trimSound_of_frame h (by simp)
  | confirm high x => exact trimSound_of_frame h (by simp)
  | engageTimer c =>
    unfold engageExpiry engageTimeout stopDwellOf
    dsimp only
    (repeat' split) <;> exact trimSound_of_frame h (by simp)
  | releaseTimer c =>
    unfold releaseExpiry releaseTimeout
    split <;> exact trimSound_of_frame h (by simp)
  | dwell =>
    unfold stopDwellExpiry
    split <;> exact trimSound_of_frame h (by simp)
  | motion l => exact trimSound_of_frame h (by simp [motionPulse])
  | checkTimer l =>
    unfold checkExpiry checkStep
    dsimp only
    (repeat' split) <;> exact trimSound_of_frame h (by simp)

/-! ## The writes of items (R75, R179) -/

theorem loopWritten_account {i : Item} {t : State} (h : LoopWritten i s t) (c : Cyl) :
    (t.loop.get c).a = (s.loop.get c).a ∧ (t.loop.get c).n = (s.loop.get c).n ∧
    (t.loop.get c).p = (s.loop.get c).p := by
  unfold LoopWritten at h
  split at h <;> rw [h]
  · rw [PerCyl.get_set]
    split
    · next hc => subst hc; exact ⟨rfl, rfl, rfl⟩
    · exact ⟨rfl, rfl, rfl⟩
  · exact ⟨rfl, rfl, rfl⟩

/-- R75: Amax is not written below an account, and no other item bears on the accounts. -/
theorem trimSound_writeTaken {i : Item} {v : Nat} {t : State} (hw : WriteTaken i v s t)
    (ha : WriteAdmitted i v s) (h : TrimSound s) : TrimSound t := by
  refine trimSound_iff.2 fun c => ?_
  have hc := trimSound_iff.1 h c
  obtain ⟨haccount, hn, hp⟩ := loopWritten_account hw.block.loop c
  by_cases hi : i = .loop .amax c
  · subst hi
    have hv : (t.items.loop.get c).amax = v := hw.put.1
    obtain ⟨hav, hnv⟩ := ha
    rw [hv]
    exact ⟨by rw [haccount, hn, hp, hc.sum], haccount ▸ hav, hn ▸ hnv⟩
  · have hv : (t.items.loop.get c).amax = (s.items.loop.get c).amax :=
      hw.put.2 (.loop .amax c) (Ne.symm hi)
    rw [hv]
    exact accountSound_of_same hc haccount hn hp

theorem trimSound_writeItem (i : Item) (v : Nat) (h : TrimSound s) : TrimSound (writeItem i v s).1 := by
  obtain ⟨hout, htaken, hrefused⟩ := writeRule_item i v s
  by_cases hr : itemRange i v
  · by_cases ha : WriteAdmitted i v s
    · obtain ⟨t, ht, hw⟩ := htaken hr ha
      rw [ht]
      exact trimSound_writeTaken hw ha h
    · rw [hrefused ha]
      exact h
  · rw [hout hr]
    exact h

theorem trimSound_noteWrite (r : Result) (h : TrimSound s) : TrimSound (noteWrite r s) := by
  unfold noteWrite
  split <;> exact trimSound_of_frame h ⟨rfl, rfl⟩

theorem trimSound_configWrite (i : Item) (v : Nat) (h : TrimSound s) :
    TrimSound (configWriteWith i (writeItem i v) s).1 :=
  trimSound_noteWrite _ (trimSound_writeItem i v h)

/-! ## The other requests -/

theorem trimSound_swapTo (sh : Sheet) (h : TrimSound s) : TrimSound (swapTo sh s) :=
  trimSound_of_nudged h (fun c => by rw [swapTo_loop]; rfl) (by simp)

theorem trimSound_commitSheet (h : TrimSound s) : TrimSound (commitSheet s).1 := by
  have hplace (sh : Sheet) {t : State} (ht : TrimSound t) : TrimSound (placeSheet sh t).1 := by
    unfold placeSheet
    split
    · exact trimSound_swapTo sh ht
    · exact trimSound_of_frame ht ⟨rfl, rfl⟩
  unfold commitSheet noteCommit
  (repeat' split)
  · exact trimSound_of_frame h ⟨rfl, rfl⟩
  · exact trimSound_of_frame h ⟨rfl, rfl⟩
  · have hgen (x : Sheets) : TrimSound { s with sheets := x } := trimSound_of_frame h ⟨rfl, rfl⟩
    exact trimSound_of_frame (hplace _ (hgen _)) ⟨rfl, rfl⟩

theorem trimSound_disengageCyls (cs : List Cyl) (h : TrimSound s) :
    TrimSound (cs.foldl (fun s c => disengageCyl c s) s) := by
  induction cs generalizing s with
  | nil => exact h
  | cons c cs ih => exact ih (trimSound_of_frame h (by simp [disengageCyl]))

/-- R169: what any request does. -/
theorem trimSound_requestOp {op : State → State × Reply} (hop : RequestOp op) (h : TrimSound s) :
    TrimSound (op s).1 := by
  have hframe {t : State} (hf : t.loop = s.loop ∧ t.items.loop = s.items.loop) : TrimSound t :=
    trimSound_of_frame h hf
  cases hop with
  | reads hread => rw [hread]; exact h
  | write i v => exact trimSound_configWrite i v h
  | writeNumber n v =>
    unfold configWriteNumber
    split
    · exact trimSound_configWrite _ _ h
    · exact h
  | curve =>
    unfold curveWriteReq
    split
    · exact h
    · refine persists_withLane (fun l => ?_) h
      dsimp only
      split
      · exact trimSound_noteWrite _ (hframe (by simp [storeCurve]))
      · exact h
  | params =>
    unfold sheetParamWrite
    split <;> exact hframe ⟨rfl, rfl⟩
  | windows =>
    unfold windowWrite
    (repeat' split) <;> exact hframe ⟨rfl, rfl⟩
  | edit =>
    unfold windowEdit
    split <;> exact hframe ⟨rfl, rfl⟩
  | copyBack =>
    unfold sheetCopyBack
    split <;> exact hframe ⟨rfl, rfl⟩
  | clearSheet => exact hframe ⟨rfl, rfl⟩
  | commit => exact trimSound_commitSheet h
  | engage => exact persists_withCyl (fun c => hframe (by simp)) h
  | disengage =>
    unfold disengageReq
    split
    · exact h
    · exact trimSound_disengageCyls _ h
  | loopMode =>
    refine persists_withCyl (fun c => ?_) h
    dsimp only
    (repeat' split)
    · exact h
    · exact h
    · exact trimSound_of_set h rfl rfl (accountSound_setMode (trimSound_iff.1 h c) _)
  | nudge =>
    refine persists_withCyl (fun c => ?_) h
    exact trimSound_of_set h rfl rfl (accountSound_of_same (trimSound_iff.1 h c) rfl rfl rfl)
  | trimMove => exact persists_withCyl (fun c => trimSound_commitTrim h c _) h
  | trimZero =>
    refine persists_withCyl (fun c => ?_) h
    dsimp only
    split
    · next hp => exact trimSound_of_set h rfl rfl (accountSound_zero hp)
    · exact h
  | park => exact persists_withLane (fun l => hframe ⟨rfl, rfl⟩) h
  | release => exact persists_withLane (fun l => hframe ⟨rfl, rfl⟩) h
  | roll =>
    refine persists_withLane (fun l => ?_) h
    dsimp only
    split <;> exact hframe ⟨rfl, rfl⟩
  | check =>
    refine persists_withLane (fun l => ?_) h
    dsimp only
    split <;> exact hframe ⟨rfl, rfl⟩
  | flush => exact hframe ⟨rfl, rfl⟩
  | clearFaults =>
    unfold faultClearReq
    split <;> exact hframe ⟨rfl, rfl⟩
  | clearCounters => exact hframe ⟨rfl, rfl⟩
  | restart =>
    unfold restartReq
    (repeat' split) <;> exact hframe ⟨rfl, rfl⟩

end

/-- Settles O13: the accounts are kept by whatever a step is made of. -/
theorem stepKeepsTrimAccount : Obligations.StepKeepsTrimAccount := fun _ _ h hstep =>
  kept_by_step (fun _ h => trimSound_of_frame h ⟨rfl, rfl⟩) (fun _ _ h => trimSound_of_frame h ⟨rfl, rfl⟩)
    trimSound_requestOp trimSound_event hstep h

end Sys2Proof.Proofs
end

section
/-! What a step can do to the trim emitters and the impression sequencers, said once: a predicate that the few
operations that reach them keep holds after every step (`Actuates`). -/
namespace Sys2Proof.Proofs

open Sys2Proof.Machine Sys2Proof.Safety

/-- What the sequencers' invariants read of the rest stays. -/
structure SameReads (s t : State) : Prop where
  cnf : t.inputs.cnf = s.inputs.cnf
  edge : t.inputs.edge = s.inputs.edge
  throwOff : t.items.act.throwOff = s.items.act.throwOff
  autoResume : t.items.act.autoResume = s.items.act.autoResume
  stopped : t.web.stopped = s.web.stopped

/-- The sequencers, and all that their invariants read of the rest, stay. -/
structure SameSequencers (s t : State) : Prop extends SameReads s t where
  seq : t.seq = s.seq
  dwell : t.stopDwell = s.stopDwell
  resume : t.resume = s.resume

/-- The sequencers, the emitters and the pending trims stay. -/
structure SameActuation (s t : State) : Prop extends SameSequencers s t where
  emit : t.emit = s.emit
  p : ∀ c, (t.loop.get c).p = (s.loop.get c).p

/-- `P` is kept by the operations that reach the emitters and the sequencers, and by what leaves them. -/
structure Actuates (P : State → Prop) : Prop where
  same : ∀ {s t}, P s → SameActuation s t → P t
  trim : ∀ {s} c k, P s → P (commitTrim c k s)
  mode : ∀ {s} c m, P s → P (s.setLoop c (setMode m (s.loop.get c)))
  space : ∀ {s} c, P s → P (spaceEnd c s)
  stepTime : ∀ {s} c, P s → P (stepTimeEnd c s)
  hand : ∀ {s} c o, P s → P (handStep c o s)
  swap : ∀ {s} sh, P s → P (swapTo sh s)
  order : ∀ {s}, P s → P (laneOrder s)
  gate : ∀ {s}, P s → P (gateEnd s)
  confirm : ∀ {s} high x, P s → P (confirmEdge high x s)
  engageTimer : ∀ {s} c, P s → P (engageExpiry c s)
  releaseTimer : ∀ {s} c, P s → P (releaseExpiry c s)
  dwell : ∀ {s}, P s → P (stopDwellExpiry s)
  engage : ∀ {s} c, P s → P (engageCyl c s).1
  disengage : ∀ {s} c, P s → P (disengageCyl c s)
  write : ∀ {s} i v, P s → P (writeItem i v s).1
  runtime : ∀ {s}, P s → P (runtimeReset s)
  full : ∀ {s} p, P s → P (fullReset p s)

/-! ## What leaves the actuation -/

theorem sameReads_of_frame {s t : State}
    (h : t.inputs = s.inputs ∧ t.items = s.items ∧ t.web = s.web) : SameReads s t := by
  obtain ⟨hin, hitems, hweb⟩ := h
  exact ⟨by rw [hin], by rw [hin], by rw [hitems], by rw [hitems], by rw [hweb]⟩

theorem sameSequencers_of_frame {s t : State}
    (h : t.inputs = s.inputs ∧ t.seq = s.seq ∧ t.stopDwell = s.stopDwell ∧ t.resume = s.resume ∧
      t.items = s.items ∧ t.web = s.web) : SameSequencers s t := by
  obtain ⟨hin, hseq, hdwell, hresume, hitems, hweb⟩ := h
  exact ⟨sameReads_of_frame ⟨hin, hitems, hweb⟩, hseq, hdwell, hresume⟩

/-- An operation by what its frame lemma says. -/
theorem sameActuation_of_frame {s t : State}
    (h : t.inputs = s.inputs ∧ t.seq = s.seq ∧ t.stopDwell = s.stopDwell ∧ t.resume = s.resume ∧
      t.items = s.items ∧ t.web = s.web) (he : t.emit = s.emit ∧ t.loop = s.loop) :
    SameActuation s t :=
  ⟨sameSequencers_of_frame h, he.1, fun c => by rw [he.2]⟩

/-- R62, R70, R72: a loop may change in all but its pending trim. -/
theorem sameActuation_setLoop {s : State} {c : Cyl} {x : Loop} (h : x.p = (s.loop.get c).p) :
    SameActuation s (s.setLoop c x) := by
  refine ⟨sameSequencers_of_frame (by simp), by simp, fun d => ?_⟩
  rw [setLoop_loop, PerCyl.get_set]
  split
  · next hd => rw [h, hd]
  · rfl

theorem sameActuation_trackSide {s t : State} (h : TrackSide s t) : SameActuation s t :=
  sameActuation_of_frame ⟨h.inputs, h.seq, h.stopDwell, h.resume, h.items, h.web⟩ ⟨h.emit, h.loop⟩

theorem sameActuation_setLevel (x : Sensor) (high : Bool) (s : State) :
    SameActuation s (setLevel x high s) := by
  cases x <;> exact ⟨⟨⟨rfl, rfl, rfl, rfl, rfl⟩, rfl, rfl, rfl⟩, rfl, fun _ => rfl⟩

theorem sameActuation_storeCurve (l : Lane) (as : List Nat) (s : State) :
    SameActuation s (storeCurve l as s) := by
  unfold storeCurve
  exact ⟨⟨⟨by simp, by simp, by simp, by simp, by simp⟩, by simp, by simp, by simp⟩, by simp, by simp⟩

section
variable {P : State → Prop} (h : Actuates P) {s : State}
include h

theorem actuates_frame {t : State} (hs : P s)
    (hf : t.inputs = s.inputs ∧ t.seq = s.seq ∧ t.stopDwell = s.stopDwell ∧ t.resume = s.resume ∧
      t.items = s.items ∧ t.web = s.web) (he : t.emit = s.emit ∧ t.loop = s.loop) : P t :=
  h.same hs (sameActuation_of_frame hf he)

/-! ## Lanes (R121, R126 to R135) -/

theorem actuates_enterFaulted (l : Lane) (b low out : Bool) (hs : P s) : P (enterFaulted l b low out s) := by
  have hraised : P (faultRaised l b low out s) :=
    actuates_frame h hs (by simp [faultRaised]) (by simp [faultRaised])
  rw [enterFaulted_eq]
  split
  · exact h.order hraised
  · exact hraised

theorem actuates_laneStep (l : Lane) (hs : P s) : P (laneStep l s) := by
  have hstepped : P (laneStepped l s) :=
    actuates_frame h hs (by simp [laneStepped]) (by simp [laneStepped])
  rw [laneStep_eq]
  (repeat' split)
  · exact actuates_enterFaulted h l _ _ _ hs
  · exact actuates_enterFaulted h l _ _ _ hstepped
  · exact actuates_frame h hstepped (by simp) (by simp)

theorem actuates_laneSteps (l : Lane) (n : Nat) (hs : P s) : P (laneSteps l n s) := by
  induction n generalizing s with
  | zero => exact hs
  | succ n ih =>
    unfold laneSteps
    (repeat' split)
    · exact actuates_laneStep h l hs
    · exact ih (actuates_laneStep h l hs)
    · exact hs

theorem actuates_setLane (l : Lane) (x : LaneCtl) (hs : P s) : P (s.setLane l x) :=
  actuates_frame h hs (by simp) (by simp)

theorem actuates_laneRun (l : Lane) (p : Nat) (hs : P s) : P (laneRun l p s) := by
  have hcount : P (runCount l s) := actuates_laneSteps h l _ (actuates_setLane h l _ hs)
  unfold laneRun
  dsimp only
  split
  · exact actuates_setLane h l _ hcount
  · exact hcount

theorem actuates_laneCount (l : Lane) (p : Nat) (hs : P s) : P (laneCount l p s) := by
  unfold laneCount
  dsimp only
  (repeat' split)
  · exact actuates_laneRun h l p hs
  · exact hs
  · exact actuates_setLane h l _ hs
  · exact actuates_laneRun h l p (actuates_setLane h l _ hs)
  all_goals exact hs

theorem actuates_lanesCount (hs : P s) : P (lanesCount s) :=
  actuates_laneCount h .l3 _ (actuates_laneCount h .l2 _ (actuates_laneCount h .l1 _
    (actuates_laneCount h .l0 _ hs)))

theorem actuates_checkExpiry (l : Lane) (hs : P s) : P (checkExpiry l s) := by
  have hnow (due : Nat) : P (s.reachTime due) := actuates_frame h hs (by simp) (by simp)
  unfold checkExpiry checkStep
  dsimp only
  (repeat' split)
  · exact actuates_laneStep h l (actuates_setLane h l _ (hnow _))
  · exact actuates_setLane h l _ (hnow _)
  · exact hs
  · exact hs

/-! ## Measurements, phases and counts (R2, R6, R57 to R65) -/

theorem actuates_measure (c : Cyl) (k : Nat) (r : LabelRecord) (b : Bool) (due : Pos) (hs : P s) :
    P (Machine.measure c k r b due s) := by
  cases hact : s.sheets.active with
  | none => simpa [Machine.measure, State.active?, hact] using hs
  | some sh =>
    have hjudged (n : BitVec 16) (e : Int) : P (judgedState c k n e s) := by
      have hloop : P (s.setLoop c (judgedLoop (s.items.loop.get c) n e (s.loop.get c))) :=
        h.same hs (sameActuation_setLoop rfl)
      exact actuates_frame h hloop ⟨rfl, rfl, rfl, rfl, rfl, rfl⟩ ⟨rfl, rfl⟩
    have hcorrect {t : State} (n : BitVec 16) (e : Int) (ht : P t) : P (correct c k n e t) := by
      refine h.trim c _ (h.same (actuates_frame h ht ?_ ?_) (sameActuation_setLoop rfl)) <;> simp
    rw [measure_of_active hact]
    (repeat' split)
    · exact hs
    · rw [judge_eq]
      split
      · exact hcorrect _ _ (hjudged _ _)
      · exact hjudged _ _
    · exact actuates_frame h hs (by simp) (by simp)

theorem actuates_stepBoth (d : TrimDir) (hs : P s) : P (stepBoth d s) := by
  unfold stepBoth
  split
  · next a b _ _ =>
    have hphase : P { s with phase := ⟨a.phase, b.phase⟩ } :=
      actuates_frame h hs ⟨rfl, rfl, rfl, rfl, rfl, rfl⟩ ⟨rfl, rfl⟩
    exact h.hand .e b (h.hand .f a hphase)
  · exact hs

theorem countKeeps_of_actuates : CountKeeps P where
  aside ht hs := h.same hs (sameActuation_trackSide ht)
  measure c k r b due hs := actuates_measure h c k r b due hs
  web _ _ hstopped _ hs := h.same hs ⟨⟨⟨rfl, rfl, rfl, rfl, hstopped⟩, rfl, rfl, rfl⟩, rfl, fun _ => rfl⟩
  level x b hs := h.same hs (sameActuation_setLevel x b _)
  both d hs := actuates_stepBoth h d hs
  publish hs := actuates_frame h hs (by simp) (by simp)
  lanes hs := actuates_lanesCount h hs

theorem actuates_indexArrival (c : Cyl) (hs : P s) : P (indexArrival c s) := by
  have hphase (p : Phase) : P (s.setPhase c p) := actuates_frame h hs (by simp) (by simp)
  have hstepped (o : PhaseOut) : P (handStep c o (s.setPhase c o.phase)) := h.hand c o (hphase _)
  unfold indexArrival takeIndex
  split
  · next p _ _ _ =>
    exact actuates_frame h (hstepped (indexStep p.lSub (p.throw c) (s.phase.get c))) (by simp) (by simp)
  · exact hphase _

/-! ## Every step -/

theorem actuates_event {f : State → State} (hf : BlockEvent f) (hs : P s) : P (f s) := by
  have hcount := countKeeps_of_actuates h
  cases hf with
  | encoder a b => exact kept_encoderTransition hcount a b hs
  | gate => exact h.gate hs
  | index c => exact actuates_indexArrival h c hs
  | rise x => exact kept_markRise hcount x hs
  | fall x => exact kept_markFall hcount x hs
  | space c => exact h.space c hs
  | stepTime c => exact h.stepTime c hs
  | confirm high x => exact h.confirm high x hs
  | engageTimer c => exact h.engageTimer c hs
  | releaseTimer c => exact h.releaseTimer c hs
  | dwell => exact h.dwell hs
  | motion l => exact actuates_setLane h l _ hs
  | checkTimer l => exact actuates_checkExpiry h l hs
  | runtime => exact h.runtime hs
  | full p => exact h.full p hs

theorem actuates_noteWrite (r : Result) (hs : P s) : P (noteWrite r s) := by
  unfold noteWrite
  split
  · exact actuates_frame h hs ⟨rfl, rfl, rfl, rfl, rfl, rfl⟩ ⟨rfl, rfl⟩
  · exact hs

theorem actuates_configWrite (i : Item) (v : Nat) (hs : P s) :
    P (configWriteWith i (writeItem i v) s).1 :=
  actuates_noteWrite h _ (h.write i v hs)

theorem actuates_commitSheet (hs : P s) : P (commitSheet s).1 := by
  have hsheets {t : State} (x : Sheets) (ht : P t) : P { t with sheets := x } :=
    actuates_frame h ht ⟨rfl, rfl, rfl, rfl, rfl, rfl⟩ ⟨rfl, rfl⟩
  have hplace (sh : Sheet) {t : State} (ht : P t) : P (placeSheet sh t).1 := by
    unfold placeSheet
    split
    · exact h.swap sh ht
    · exact hsheets _ ht
  unfold commitSheet noteCommit
  (repeat' split)
  · exact hsheets _ hs
  · exact hsheets _ hs
  · exact hsheets _ (hplace _ (hsheets _ hs))

theorem actuates_disengageCyls (cs : List Cyl) (hs : P s) :
    P (cs.foldl (fun s c => disengageCyl c s) s) := by
  induction cs generalizing s with
  | nil => exact hs
  | cons c cs ih => exact ih (h.disengage c hs)

/-- R169: what any request does. -/
theorem actuates_requestOp {op : State → State × Reply} (hop : RequestOp op) (hs : P s) : P (op s).1 := by
  have hrest {t : State} (hf : t.inputs = s.inputs ∧ t.seq = s.seq ∧ t.stopDwell = s.stopDwell ∧
      t.resume = s.resume ∧ t.items = s.items ∧ t.web = s.web) (he : t.emit = s.emit ∧ t.loop = s.loop) :
      P t := actuates_frame h hs hf he
  have hstaged (x : Staged) : P { s with sheets := { s.sheets with staged := x } } :=
    hrest ⟨rfl, rfl, rfl, rfl, rfl, rfl⟩ ⟨rfl, rfl⟩
  cases hop with
  | reads hread => rw [hread]; exact hs
  | write i v => exact actuates_configWrite h i v hs
  | writeNumber n v =>
    unfold configWriteNumber
    split
    · exact actuates_configWrite h _ _ hs
    · exact hs
  | curve l as =>
    unfold curveWriteReq
    split
    · exact hs
    · refine persists_withLane (fun l => ?_) hs
      dsimp only
      split
      · exact actuates_noteWrite h .ok (h.same hs (sameActuation_storeCurve l _ s))
      · exact hs
  | params =>
    unfold sheetParamWrite
    split
    · exact hstaged _
    · exact hs
  | windows =>
    unfold windowWrite
    (repeat' split)
    · exact hs
    · exact hs
    · exact hstaged _
  | edit =>
    unfold windowEdit
    split
    · exact hs
    · exact hstaged _
  | copyBack =>
    unfold sheetCopyBack
    split
    · exact hstaged _
    · exact hs
  | clearSheet => exact hstaged _
  | commit => exact actuates_commitSheet h hs
  | engage => exact persists_withCyl (fun c => h.engage c hs) hs
  | disengage =>
    unfold disengageReq
    split
    · exact hs
    · exact actuates_disengageCyls h _ hs
  | loopMode =>
    refine persists_withCyl (fun c => ?_) hs
    dsimp only
    (repeat' split)
    · exact hs
    · exact hs
    · exact h.mode c _ hs
  | nudge => exact persists_withCyl (fun c => h.same hs (sameActuation_setLoop rfl)) hs
  | trimMove => exact persists_withCyl (fun c => h.trim c _ hs) hs
  | trimZero =>
    refine persists_withCyl (fun c => ?_) hs
    dsimp only
    split
    · exact h.same hs (sameActuation_setLoop rfl)
    · exact hs
  | park => exact persists_withLane (fun l => actuates_setLane h l _ hs) hs
  | release => exact persists_withLane (fun l => actuates_setLane h l _ hs) hs
  | roll =>
    refine persists_withLane (fun l => ?_) hs
    dsimp only
    split
    · exact actuates_setLane h l _ hs
    · exact actuates_setLane h l _ hs
    · exact actuates_setLane h l _ hs
    all_goals exact hs
  | check =>
    refine persists_withLane (fun l => ?_) hs
    dsimp only
    split
    · exact actuates_setLane h l _ hs
    · exact hs
  | flush => exact hrest ⟨rfl, rfl, rfl, rfl, rfl, rfl⟩ ⟨rfl, rfl⟩
  | clearFaults =>
    unfold faultClearReq
    split
    · exact hs
    · exact hrest ⟨rfl, rfl, rfl, rfl, rfl, rfl⟩ ⟨rfl, rfl⟩
  | clearCounters => exact h.same hs ⟨⟨⟨rfl, rfl, rfl, rfl, rfl⟩, rfl, rfl, rfl⟩, rfl, fun _ => rfl⟩
  | restart =>
    unfold restartReq
    (repeat' split)
    · exact hrest ⟨rfl, rfl, rfl, rfl, rfl, rfl⟩ ⟨rfl, rfl⟩
    · exact hrest ⟨rfl, rfl, rfl, rfl, rfl, rfl⟩ ⟨rfl, rfl⟩
    · exact hs

/-- What the operations that reach the actuation keep, every step keeps. -/
theorem actuates_step {t : State} (hstep : step s = .next t) (hs : P s) : P t :=
  kept_by_step (fun _ hs => actuates_frame h hs ⟨rfl, rfl, rfl, rfl, rfl, rfl⟩ ⟨rfl, rfl⟩)
    (fun _ _ hs => actuates_frame h hs ⟨rfl, rfl, rfl, rfl, rfl, rfl⟩ ⟨rfl, rfl⟩)
    (actuates_requestOp h) (actuates_event h) hstep hs

end

end Sys2Proof.Proofs
end

section
/-! The emitters and their pending trims agree after every step (R78, R79), and the ends of a step time and of an
empty SPACE. -/
namespace Sys2Proof.Proofs

open Sys2Proof.Machine Sys2Proof.Safety

/-! ## One emitter -/

/-- R78, R79: an emitter and the trim that it is to emit. -/
structure EmitterAgrees (p : Int) (x : Emitter) : Prop where
  tstp : x.tstp = true ↔ x.state = .step
  idle : x.state = .idle → p = 0
  space : x.state = .space → (0 < p → x.tdir = .advance) ∧ (p < 0 → x.tdir = .retard)

theorem emitterSound_iff {s : State} :
    EmitterSound s ↔ ∀ c, EmitterAgrees (s.loop.get c).p (s.emit.get c) :=
  ⟨fun h c => ⟨(h c).1, (h c).2.1, (h c).2.2⟩, fun h c => ⟨(h c).tstp, (h c).idle, (h c).space⟩⟩

theorem trimDir_advance {p : Int} (h : 0 < p) (old : TrimDir) : trimDir p old = .advance := if_pos h

theorem trimDir_retard {p : Int} (h : p < 0) (old : TrimDir) : trimDir p old = .retard := by
  rw [trimDir, if_neg (by omega), if_pos h]

theorem emitterAgrees_step {x : Emitter} (p : Int) (hstate : x.state = .step) (htstp : x.tstp = true) :
    EmitterAgrees p x := ⟨by simp [hstate, htstp], by simp [hstate], by simp [hstate]⟩

/-- R79: outside STEP, TDIR turned to the sign of P. -/
theorem emitterAgrees_turned {p : Int} {x : Emitter} {old : TrimDir} (hstate : x.state = .space)
    (htstp : x.tstp = false) (hdir : x.tdir = trimDir p old) : EmitterAgrees p x where
  tstp := by simp [hstate, htstp]
  idle := by simp [hstate]
  space _ := ⟨fun h => hdir.trans (trimDir_advance h old), fun h => hdir.trans (trimDir_retard h old)⟩

/-- R69: a pending trim discarded leaves every emitter nothing to emit. -/
theorem emitterAgrees_zero {p : Int} {x : Emitter} (h : EmitterAgrees p x) : EmitterAgrees 0 x where
  tstp := h.tstp
  idle _ := rfl
  space _ := ⟨by simp, by simp⟩

/-! ## The emitters of a state -/

section
variable {s t : State}

theorem emitterSound_of_same (h : EmitterSound s) (he : t.emit = s.emit)
    (hp : ∀ c, (t.loop.get c).p = (s.loop.get c).p) : EmitterSound t :=
  emitterSound_iff.2 fun c => by rw [he, hp c]; exact emitterSound_iff.1 h c

theorem emitterSound_of_frame (h : EmitterSound s) (hf : t.emit = s.emit ∧ t.loop = s.loop) :
    EmitterSound t := emitterSound_of_same h hf.1 fun c => by rw [hf.2]

/-- R73: of the loops, a swap moves the nudges alone. -/
theorem emitterSound_of_nudged (h : EmitterSound s) (he : t.emit = s.emit)
    (hloop : ∀ c, NudgedOnly (s.loop.get c) (t.loop.get c)) : EmitterSound t :=
  emitterSound_of_same h he fun c => by rw [hloop c]

/-- The emitter of one cylinder has changed, or its pending trim. -/
theorem emitterSound_of_one {c : Cyl} (h : EmitterSound s)
    (hother : ∀ d, d ≠ c → t.emit.get d = s.emit.get d ∧ (t.loop.get d).p = (s.loop.get d).p)
    (hc : EmitterAgrees (t.loop.get c).p (t.emit.get c)) : EmitterSound t := by
  refine emitterSound_iff.2 fun d => ?_
  by_cases hd : d = c
  · exact hd ▸ hc
  · obtain ⟨he, hp⟩ := hother d hd
    rw [he, hp]
    exact emitterSound_iff.1 h d

theorem emitterSound_setEmit (h : EmitterSound s) {c : Cyl} {x : Emitter}
    (hx : EmitterAgrees (s.loop.get c).p x) : EmitterSound (s.setEmit c x) :=
  emitterSound_of_one (c := c) h (fun d hd => by simp [PerCyl.get_set_ne _ _ hd]) (by simpa using hx)

/-! ## Pulses (R66, R78, R80) -/

theorem emitterSound_handStep (c : Cyl) (o : PhaseOut) (h : EmitterSound s) :
    EmitterSound (handStep c o s) :=
  emitterSound_of_nudged h (by simp) fun d => handStep_loop c d o s

/-- R78: whatever the emitter was, a pulse leaves it in STEP with TSTP high. -/
theorem emitPulse_emit (c : Cyl) (s : State) : (emitPulse c s).emit =
    s.emit.set c (pulseEmitter s.now s.items.act.trimInterval (s.emit.get c)) := by
  rw [emitPulse_eq]
  simp [pulsedAt]

theorem emitPulse_p_ne {c d : Cyl} (hd : d ≠ c) (s : State) :
    ((emitPulse c s).loop.get d).p = (s.loop.get d).p := by
  have hloop : (pulsedAt c s).loop.get d = s.loop.get d := PerCyl.get_set_ne _ _ hd
  rw [emitPulse_eq, stepPhase_loop _ c d, hloop]

theorem emitPulse_agrees (c : Cyl) (s : State) :
    EmitterAgrees ((emitPulse c s).loop.get c).p ((emitPulse c s).emit.get c) := by
  rw [emitPulse_emit, PerCyl.get_set_self]
  exact emitterAgrees_step _ rfl rfl

theorem emitterSound_emitPulse (c : Cyl) (h : EmitterSound s) : EmitterSound (emitPulse c s) :=
  emitterSound_of_one h (fun d hd => ⟨by rw [emitPulse_emit, PerCyl.get_set_ne _ _ hd],
    emitPulse_p_ne hd s⟩) (emitPulse_agrees c s)

/-! ## P changed by a correction or a TRIM MOVE (R78, R79) -/

/-- R79: an emitter that stands at the sign of P. -/
theorem agrees_of_rest {c : Cyl} (htstp : (s.emit.get c).tstp = true ↔ (s.emit.get c).state = .step)
    (h : (s.emit.get c).state = .step ∨ (s.loop.get c).p = 0 ∨ (s.emit.get c).state = .space ∧
      (s.emit.get c).tdir = trimDir (s.loop.get c).p (s.emit.get c).tdir) :
    EmitterAgrees (s.loop.get c).p (s.emit.get c) := by
  rcases h with h | h | ⟨h, hdir⟩
  · exact emitterAgrees_step _ h (htstp.2 h)
  · exact ⟨htstp, fun _ => h, fun _ => ⟨by omega, by omega⟩⟩
  · exact emitterAgrees_turned h (by simpa [h] using htstp) hdir

/-- R78, R79: the emitter follows its pending trim, whatever P was before. -/
theorem trimChanged_agrees {c : Cyl}
    (htstp : (s.emit.get c).tstp = true ↔ (s.emit.get c).state = .step) :
    EmitterAgrees ((trimChanged c s).loop.get c).p ((trimChanged c s).emit.get c) := by
  by_cases hrest : (s.emit.get c).state = .step ∨ (s.loop.get c).p = 0 ∨
      (s.emit.get c).state = .space ∧
        (s.emit.get c).tdir = trimDir (s.loop.get c).p (s.emit.get c).tdir
  · rw [trimChanged_rest hrest]
    exact agrees_of_rest htstp hrest
  · obtain ⟨hstep, hp, hspace⟩ : _ ∧ _ ∧ _ := by simpa only [not_or] using hrest
    have hlow : (s.emit.get c).tstp = false := by simpa [hstep] using htstp
    by_cases hdir : (s.emit.get c).tdir = trimDir (s.loop.get c).p (s.emit.get c).tdir
    · have hidle : (s.emit.get c).state = .idle := by
        cases hst : (s.emit.get c).state with
        | idle => rfl
        | step => exact absurd hst hstep
        | space => exact absurd ⟨hst, hdir⟩ hspace
      rw [trimChanged_pulse hidle hp hdir]
      exact emitPulse_agrees c s
    · have hout : (s.emit.get c).state = .space ∨ (s.emit.get c).state = .idle := by
        cases hst : (s.emit.get c).state with
        | idle => exact .inr rfl
        | step => exact absurd hst hstep
        | space => exact .inl rfl
      rw [trimChanged_turn hout hp hdir, setEmit_emit, PerCyl.get_set_self]
      exact emitterAgrees_turned (old := (s.emit.get c).tdir) rfl hlow (by simp)

theorem trimChanged_ne {c d : Cyl} (hd : d ≠ c) (s : State) :
    (trimChanged c s).emit.get d = s.emit.get d ∧ ((trimChanged c s).loop.get d).p = (s.loop.get d).p := by
  have hturn : (turnIfNeeded c s).emit.get d = s.emit.get d := by
    unfold turnIfNeeded
    dsimp only
    split
    · rfl
    · exact PerCyl.get_set_ne _ _ hd
  unfold trimChanged
  dsimp only
  (repeat' split)
  · exact ⟨rfl, rfl⟩
  · exact ⟨by rw [emitPulse_emit, PerCyl.get_set_ne _ _ hd], emitPulse_p_ne hd s⟩
  · exact ⟨by rw [setEmit_emit, PerCyl.get_set_ne _ _ hd, hturn], by simp⟩
  · exact ⟨hturn, by simp⟩
  · exact ⟨rfl, rfl⟩

theorem emitterSound_commitTrim (c : Cyl) (k : Int) (h : EmitterSound s) :
    EmitterSound (commitTrim c k s) := by
  have htstp : ((trimmed c k s).emit.get c).tstp = true ↔ ((trimmed c k s).emit.get c).state = .step :=
    (emitterSound_iff.1 h c).tstp
  rw [commitTrim_eq]
  refine emitterSound_of_one h (fun d hd => ?_) (trimChanged_agrees htstp)
  obtain ⟨hemit, hp⟩ := trimChanged_ne hd (trimmed c k s)
  exact ⟨hemit, hp.trans (by simp [trimmed, PerCyl.get_set_ne _ _ hd])⟩

/-! ## The ends of SPACE and of the step time (R78, R79) -/

theorem turnIfNeeded_rest {c : Cyl}
    (h : trimDir (s.loop.get c).p (s.emit.get c).tdir = (s.emit.get c).tdir) :
    turnIfNeeded c s = s := if_pos h

theorem turnIfNeeded_turn {c : Cyl}
    (h : trimDir (s.loop.get c).p (s.emit.get c).tdir ≠ (s.emit.get c).tdir) :
    turnIfNeeded c s = s.setEmit c { s.emit.get c with
      tdir := trimDir (s.loop.get c).p (s.emit.get c).tdir, t := s.items.act.trimInterval,
      lastTurn := some s.now } := if_neg h

/-- R78: TSTP falls at the end of the step time, before TDIR may turn. -/
def stepFallen (c : Cyl) (s : State) : State :=
  (s.reachTime (stepTimeDue (s.emit.get c))).setEmit c
    { s.emit.get c with state := .space, tstp := false }

theorem stepTimeEnd_step {c : Cyl} (h : (s.emit.get c).state = .step) :
    stepTimeEnd c s = turnIfNeeded c (stepFallen c s) := if_pos h

theorem stepTimeEnd_other {c : Cyl} (h : (s.emit.get c).state ≠ .step) : stepTimeEnd c s = s := if_neg h

theorem stepFallen_get (c : Cyl) (s : State) : (stepFallen c s).emit.get c =
    { s.emit.get c with state := .space, tstp := false } := by simp [stepFallen]

theorem emitterSound_stepTimeEnd (c : Cyl) (h : EmitterSound s) : EmitterSound (stepTimeEnd c s) := by
  by_cases hstep : (s.emit.get c).state = .step
  · rw [stepTimeEnd_step hstep]
    refine emitterSound_of_one (c := c) h (fun d hd => ⟨?_, by simp [stepFallen]⟩) ?_
    · unfold turnIfNeeded
      dsimp only
      split <;> simp [stepFallen, PerCyl.get_set_ne _ _ hd]
    · by_cases hdir : trimDir ((stepFallen c s).loop.get c).p ((stepFallen c s).emit.get c).tdir =
          ((stepFallen c s).emit.get c).tdir
      · rw [turnIfNeeded_rest hdir]
        exact emitterAgrees_turned (by rw [stepFallen_get]) (by rw [stepFallen_get]) hdir.symm
      · rw [turnIfNeeded_turn hdir, setEmit_emit, PerCyl.get_set_self, stepFallen_get]
        exact emitterAgrees_turned (old := (s.emit.get c).tdir) rfl rfl (by simp)
  · rw [stepTimeEnd_other hstep]
    exact h

theorem spaceEnd_idle {c : Cyl} (h : (s.emit.get c).state = .space) (hp : (s.loop.get c).p = 0) :
    spaceEnd c s = (s.reachTime (spaceDue (s.emit.get c))).setEmit c { s.emit.get c with state := .idle } := by
  simp [spaceEnd, h, hp]

theorem spaceEnd_other {c : Cyl} (h : (s.emit.get c).state ≠ .space) : spaceEnd c s = s := if_neg h

theorem emitterSound_spaceEnd (c : Cyl) (h : EmitterSound s) : EmitterSound (spaceEnd c s) := by
  have hnow : EmitterSound (s.reachTime (spaceDue (s.emit.get c))) := emitterSound_of_frame h ⟨rfl, rfl⟩
  by_cases hspace : (s.emit.get c).state = .space
  · by_cases hp : (s.loop.get c).p = 0
    · have hlow := (emitterSound_iff.1 h c).tstp
      rw [spaceEnd_idle hspace hp]
      exact emitterSound_setEmit hnow ⟨by simpa [hspace] using hlow, fun _ => hp, by simp⟩
    · have hpulse : spaceEnd c s = emitPulse c (s.reachTime (spaceDue (s.emit.get c))) := by
        simp [spaceEnd, hspace, hp]
      rw [hpulse]
      exact emitterSound_emitPulse c hnow
  · rw [spaceEnd_other hspace]
    exact h

/-! ## Modes, writes and resets -/

theorem emitterSound_setMode (c : Cyl) (m : LoopMode) (h : EmitterSound s) :
    EmitterSound (s.setLoop c (setMode m (s.loop.get c))) := by
  refine emitterSound_of_one (c := c) h (fun d hd => by simp [PerCyl.get_set_ne _ _ hd]) ?_
  rw [setLoop_loop, PerCyl.get_set_self]
  cases m with
  | off => exact emitterAgrees_zero (emitterSound_iff.1 h c)
  | measure => exact emitterSound_iff.1 h c
  | auto => exact emitterSound_iff.1 h c

/-- R75: no item bears on a pending trim. -/
theorem emitterSound_writeItem (i : Item) (v : Nat) (h : EmitterSound s) :
    EmitterSound (writeItem i v s).1 := by
  rcases writeItem_taken_or_same i v s with ⟨-, -, hblock⟩ | hsame
  · obtain ⟨-, -, -, hemit, -⟩ := hblock.rest
    refine emitterSound_of_same h hemit fun c => ?_
    obtain ⟨-, -, hp⟩ := loopWritten_account hblock.loop c
    exact hp
  · rw [hsame]
    exact h

theorem emitterSound_engageExpiry (c : Cyl) (h : EmitterSound s) : EmitterSound (engageExpiry c s) := by
  unfold engageExpiry engageTimeout stopDwellOf
  dsimp only
  (repeat' split) <;> exact emitterSound_of_frame h (by simp)

theorem emitterSound_releaseExpiry (c : Cyl) (h : EmitterSound s) : EmitterSound (releaseExpiry c s) := by
  unfold releaseExpiry releaseTimeout
  split <;> exact emitterSound_of_frame h (by simp)

theorem emitterSound_stopDwellExpiry (h : EmitterSound s) : EmitterSound (stopDwellExpiry s) := by
  unfold stopDwellExpiry
  split <;> exact emitterSound_of_frame h (by simp)

theorem emitterSound_gateEnd (h : EmitterSound s) : EmitterSound (gateEnd s) := by
  unfold gateEnd gateEndStore
  dsimp only
  have hseqs : EmitterSound (gateEndSeqs ((gateWeb s.items.web s.web).stopped != s.web.stopped)
      { s.reachTime s.web.gateEnd with web := gateWeb s.items.web s.web }) :=
    emitterSound_of_frame h (by simp)
  split
  · exact emitterSound_of_nudged hseqs (by simp) fun c => swapPending_loop _ c
  · exact hseqs

/-- R77, R81: a RUNTIME reset discards the pending trims and takes the emitters to IDLE. -/
theorem emitterSound_runtimeReset (s : State) : EmitterSound (runtimeReset s) := by
  intro c
  cases c <;> simp [runtimeReset, runtimeEmitter, runtimeLoop, PerCyl.get]

theorem emitterSound_fullReset (p : PinLevels) (s : State) : EmitterSound (fullReset p s) := by
  obtain ⟨-, hemitter, -⟩ := actuation_reset
  exact emitterSound_of_frame hemitter ⟨rfl, rfl⟩

end

theorem actuates_emitterSound : Actuates EmitterSound where
  same h hs := emitterSound_of_same h hs.emit hs.p
  trim := emitterSound_commitTrim
  mode := emitterSound_setMode
  space := emitterSound_spaceEnd
  stepTime := emitterSound_stepTimeEnd
  hand := emitterSound_handStep
  swap sh h := emitterSound_of_nudged h (by simp) fun c => by rw [swapTo_loop]; rfl
  order h := emitterSound_of_frame h (by simp)
  gate := emitterSound_gateEnd
  confirm _ _ h := emitterSound_of_frame h (by simp)
  engageTimer := emitterSound_engageExpiry
  releaseTimer := emitterSound_releaseExpiry
  dwell := emitterSound_stopDwellExpiry
  engage _ h := emitterSound_of_frame h (by simp)
  disengage _ h := emitterSound_of_frame h (by simp [disengageCyl])
  write := emitterSound_writeItem
  runtime _ := emitterSound_runtimeReset _
  full p _ := emitterSound_fullReset p _

/-- Settles O14: pulses, turns and the ends of STEP and SPACE keep each emitter with its pending trim. -/
theorem stepKeepsEmitter : Obligations.StepKeepsEmitter := fun _ _ h hstep =>
  actuates_step actuates_emitterSound hstep h

/-- Settles O38: TSTP falls and then TDIR may turn; SPACE with nothing pending is left for IDLE. -/
theorem emitterTimesEnd : Obligations.EmitterTimesEnd := by
  intro c s x p down due
  have hfallen : stepFallen c s = { s with now := down }.setEmit c { x with state := .space, tstp := false } :=
    rfl
  have hp : ((stepFallen c s).loop.get c).p = p := by simp [stepFallen, p]
  have hdir : ((stepFallen c s).emit.get c).tdir = x.tdir := by rw [stepFallen_get]
  have hturned (d : TrimDir) (hstep : x.state = .step) (hd : trimDir p x.tdir = d) (hne : d ≠ x.tdir) :
      exec (.stepTimeEnd c) s = .next ({ s with now := down }.setEmit c { x with
        state := .space, tstp := false, tdir := d, t := s.items.act.trimInterval,
        lastTurn := some down }) := by
    refine congrArg Host.Outcome.next ((stepTimeEnd_step hstep).trans ?_)
    rw [turnIfNeeded_turn (by rw [hp, hdir, hd]; exact hne), hp, hdir, hd, stepFallen_get, hfallen]
    simp [State.setEmit, x]
  refine ⟨fun hstep hadv hret => ?_, fun hstep hpos hret => ?_, fun hstep hneg hadv => ?_, fun hstep => ?_,
    fun hspace hzero => ?_, fun hspace => ?_⟩
  · have hrest : trimDir p x.tdir = x.tdir := by
      unfold trimDir
      split
      · next h => exact (hadv h).symm
      · split
        · next h => exact (hret h).symm
        · rfl
    refine congrArg Host.Outcome.next ((stepTimeEnd_step hstep).trans ?_)
    rw [turnIfNeeded_rest (by rw [hp, hdir, hrest]), hfallen]
  · exact hturned .advance hstep (trimDir_advance hpos _) (by simp [hret])
  · exact hturned .retard hstep (trimDir_retard hneg _) (by simp [hadv])
  · exact congrArg Host.Outcome.next (stepTimeEnd_other hstep)
  · exact congrArg Host.Outcome.next (spaceEnd_idle hspace hzero)
  · exact congrArg Host.Outcome.next (spaceEnd_other hspace)

end Sys2Proof.Proofs
end

section
/-! What each operation of the impression sequencers makes of the whole state (R82 to R90, R92, R121). -/
namespace Sys2Proof.Proofs

open Sys2Proof.Machine Sys2Proof.Safety

section
variable {c : Cyl} {s : State}

/-! ## Entries of states and throw-offs -/

/-- R82, R121: a sequencer changes to a state; F's leaving ON cuts the runs. -/
theorem seqTo_eq (c : Cyl) (st : SeqState) (s : State) : seqTo c st s = { s with
    seq := s.seq.set c { s.seq.get c with
      state := st, imp := st == .engaging || st == .on, engage := none, release := none }
    lane := if c = .f ∧ (s.seq.get c).state = .on ∧ st ≠ .on then cutLanes s.lane else s.lane } := by
  unfold seqTo
  dsimp only
  split <;> rfl

/-- R121: without F's leaving ON, the sequencer alone changes. -/
theorem seqTo_uncut {st : SeqState} (h : ¬ (c = .f ∧ (s.seq.get c).state = .on ∧ st ≠ .on)) :
    seqTo c st s = s.setSeq c { s.seq.get c with
      state := st, imp := st == .engaging || st == .on, engage := none, release := none } := by
  rw [seqTo_eq, if_neg h]
  rfl

theorem clearResume_eq (c : Cyl) (s : State) :
    clearResume c s = { s with resume := s.resume && decide (c ≠ .f) } := by
  cases c <;> simp [clearResume]

theorem stopDwellOf_eq (c : Cyl) (s : State) :
    stopDwellOf c s = { s with stopDwell := if c = .f then none else s.stopDwell } := by
  cases c <;> rfl

theorem dropDwell_eq (c : Cyl) (s : State) : dropDwell c s = { s with
    stopDwell := if c = .f then none else s.stopDwell, resume := s.resume && decide (c ≠ .f) } := by
  cases c <;> simp [dropDwell]

/-- R82: entering RELEASING, or with CNF inactive OFF. -/
theorem enterReleasing_eq (c : Cyl) (s : State) : enterReleasing c s = { s with
    seq := s.seq.set c { s.seq.get c with
      state := if s.inputs.cnf.get c then .releasing else .off, imp := false, engage := none,
      release := if s.inputs.cnf.get c then some (s.now + 1000 * s.items.act.release.get c) else none }
    lane := if c = .f ∧ (s.seq.get c).state = .on then cutLanes s.lane else s.lane } := by
  unfold enterReleasing
  cases s.inputs.cnf.get c <;>
    simp [seqTo_eq, State.setSeq, Config.msTicks, Nat.mul_comm] <;> rfl

/-- R82: entering ENGAGING, or with CNF active ON. -/
theorem enterEngaging_eq (h : (s.seq.get c).state ≠ .on) :
    enterEngaging c s = s.setSeq c (thrown s c) := by
  unfold enterEngaging thrown
  cases s.inputs.cnf.get c <;>
    simp [seqTo_eq, State.setSeq, Config.msTicks, Nat.mul_comm, h]

/-- R82, R88: a sequencer that a throw-off acts on, by its confirm input. -/
theorem givenUp_eq (h : thrownOn s c) (x : ThrowCause) : givenUp x s c (s.seq.get c) =
    if (s.seq.get c).state ≠ .waitPhase ∧ s.inputs.cnf.get c = true then { s.seq.get c with
      state := .releasing, imp := false, engage := none, cause := x,
      release := some (s.now + 1000 * s.items.act.release.get c) }
    else { s.seq.get c with
      state := .off, imp := false, engage := none, release := none, cause := x } := by
  unfold givenUp
  rw [if_neg fun hn => not_thrownOn_iff.2 hn h]
  by_cases hrel : (s.seq.get c).state ≠ .waitPhase ∧ s.inputs.cnf.get c = true
  · rw [if_pos hrel]
    simp [hrel.1, hrel.2]
  · have hnot : ((s.seq.get c).state != .waitPhase && s.inputs.cnf.get c) = false := by
      simpa using hrel
    rw [if_neg hrel, hnot]
    rfl

/-- R88: a throw-off that acts. -/
theorem throwOff_eq (h : thrownOn s c) (x : ThrowCause) : throwOff c x s = { s with
    seq := s.seq.set c (givenUp x s c (s.seq.get c))
    lane := if c = .f ∧ (s.seq.get c).state = .on then cutLanes s.lane else s.lane
    stopDwell := if c = .f then none else s.stopDwell, resume := s.resume && decide (c ≠ .f) } := by
  rcases h with h | h | h
  all_goals simp [throwOff, h, seqTo_eq, enterReleasing_eq, setCause, dropDwell_eq, State.setSeq, givenUp]
  rfl

/-! ## Edges of CNF (R85 to R87) -/

theorem takeEdge_rise (hcnf : s.inputs.cnf.get c = true) (hq : (s.seq.get c).state = .engaging) :
    takeEdge c s = s.setSeq c { s.seq.get c with
      state := .on, imp := true, engage := none, release := none } := by
  have hto : takeEdge c s = seqTo c .on s := by simp [takeEdge, takeRise, hcnf, hq]
  rw [hto, seqTo_uncut (by simp)]
  rfl

theorem takeEdge_released (hcnf : s.inputs.cnf.get c = false) (hq : (s.seq.get c).state = .releasing) :
    takeEdge c s = s.setSeq c { s.seq.get c with
      state := .off, imp := false, engage := none, release := none } := by
  have hto : takeEdge c s = seqTo c .off s := by simp [takeEdge, takeFall, hcnf, hq]
  rw [hto, seqTo_uncut (by simp [hq])]
  rfl

/-- R86: CONFIRM_LOST in ON. -/
theorem takeEdge_lost (hcnf : s.inputs.cnf.get c = false) (hq : (s.seq.get c).state = .on) :
    takeEdge c s = { s with
      seq := s.seq.set c { s.seq.get c with
        state := .off, imp := false, engage := none, release := none, cause := .confirmLost }
      faults := (raise ⟨.confirmLost, .cyl c, none, ((s.phase.get c).phi / 256 : Nat)⟩ s).faults
      stopDwell := if c = .f then none else s.stopDwell, resume := s.resume && decide (c ≠ .f)
      lane := if c = .f then cutLanes s.lane else s.lane } := by
  have hto : takeEdge c s = confirmLost c s := by simp [takeEdge, takeFall, hcnf, hq]
  rw [hto, confirmLost, seqTo_eq]
  simp [setCause, dropDwell_eq, State.setSeq, hq, raise]
  rfl

theorem takeEdge_rest (hrise : s.inputs.cnf.get c = true → (s.seq.get c).state ≠ .engaging)
    (hfall : s.inputs.cnf.get c = false → (s.seq.get c).state ≠ .on ∧ (s.seq.get c).state ≠ .releasing) :
    takeEdge c s = s := by
  cases hcnf : s.inputs.cnf.get c with
  | true =>
    have hne := hrise hcnf
    cases hq : (s.seq.get c).state <;> simp_all [takeEdge, takeRise]
  | false =>
    obtain ⟨hon, hrel⟩ := hfall hcnf
    cases hq : (s.seq.get c).state <;> simp_all [takeEdge, takeFall]

/-! ## Timers (R85, R87, R90) -/

/-- R85: the engage timer's expiry throws off with its own cause, and for F ends the stop dwell. -/
theorem engageTimeout_eq (h : (s.seq.get c).state = .engaging) : engageTimeout c s = { s with
    seq := s.seq.set c (givenUp .engageTimeout s c (s.seq.get c))
    faults := (raise ⟨.engageTimeout, .cyl c, none, (s.items.act.engage.get c : Nat)⟩ s).faults
    stopDwell := if c = .f then none else s.stopDwell } := by
  rw [engageTimeout, enterReleasing_eq]
  simp [setCause, stopDwellOf_eq, State.setSeq, givenUp, h, raise]

theorem releaseTimeout_eq (h : (s.seq.get c).state = .releasing) : releaseTimeout c s = { s with
    seq := s.seq.set c { s.seq.get c with state := .off, imp := false, engage := none, release := none }
    faults := (raise ⟨.releaseTimeout, .cyl c, none, (s.items.act.release.get c : Nat)⟩ s).faults
    resume := s.resume && decide (c ≠ .f) } := by
  rw [releaseTimeout, clearResume_eq, seqTo_uncut (by simp [h])]
  simp [State.setSeq, raise]
  rfl

theorem engageExpiry_some {due : Nat} (h : (s.seq.get c).engage = some due) :
    engageExpiry c s = engageTimeout c (s.reachTime due) := by simp [engageExpiry, h]

theorem engageExpiry_none (h : (s.seq.get c).engage = none) : engageExpiry c s = s := by
  simp [engageExpiry, h]

theorem releaseExpiry_some {due : Nat} (h : (s.seq.get c).release = some due) :
    releaseExpiry c s = releaseTimeout c (s.reachTime due) := by simp [releaseExpiry, h]

theorem releaseExpiry_none (h : (s.seq.get c).release = none) : releaseExpiry c s = s := by
  simp [releaseExpiry, h]

theorem stopDwellExpiry_some {due : Nat} (h : s.stopDwell = some due) :
    stopDwellExpiry s = stopThrowOff (s.reachTime due) := by simp [stopDwellExpiry, h]

theorem stopDwellExpiry_none (h : s.stopDwell = none) : stopDwellExpiry s = s := by
  simp [stopDwellExpiry, h]

/-- R90: the stop dwell runs out with F thrown on. -/
theorem stopThrowOff_eq (h : thrownOn s .f) : stopThrowOff s = { s with
    seq := s.seq.set .f (givenUp .stop s .f (s.seq.get .f))
    lane := if (s.seq.get .f).state = .on then cutLanes s.lane else s.lane
    stopDwell := none, resume := s.items.act.autoResume } := by
  have hthrow := throwOff_eq (s := { s with stopDwell := none }) h .stop
  unfold stopThrowOff
  rw [hthrow]
  cases hauto : s.items.act.autoResume <;> simp <;> rfl

/-! ## ENGAGE and DISENGAGE (R83, R89) -/

theorem engageCyl_unconfigured (h : configuredFor c s = false) : engageCyl c s = (s, .notConfigured) := by
  simp [engageCyl, h]

theorem engageCyl_laneFault (h : configuredFor c s = true) (hf : c = .f ∧ faultedWithSpans s = true) :
    engageCyl c s = (s, .laneFault) := by
  rw [engageCyl, if_neg (by simp [h]), if_pos hf]

section
variable (hconf : configuredFor c s = true) (hfree : ¬ (c = .f ∧ faultedWithSpans s = true))
include hconf hfree

/-- R83, R84: on a moving web the throw phase is waited for. -/
theorem engageCyl_moving (hoff : (s.seq.get c).state = .off) (hw : s.web.stopped = false) :
    engageCyl c s = ((clearResume c s).setSeq c { s.seq.get c with
      state := .waitPhase, imp := false, engage := none, release := none }, .pending) := by
  have huncut := seqTo_uncut (c := c) (s := clearResume c s) (st := .waitPhase) (by simp [hoff])
  simp only [engageCyl, hconf, hfree, hoff, hw, huncut, clearResume_frame]
  rfl

/-- R83: on a stopped web it throws on at once. -/
theorem engageCyl_stopped (hoff : (s.seq.get c).state = .off) (hw : s.web.stopped = true) :
    engageCyl c s = ((clearResume c s).setSeq c (thrown s c), .pending) := by
  have hthrown := thrown_congr (s := s) (t := clearResume c s) (c := c) (by simp) (by simp) (by simp) (by simp)
  have henter := enterEngaging_eq (c := c) (s := clearResume c s) (by simp [hoff])
  simp only [engageCyl, hconf, hfree, hoff, hw, henter, hthrown]
  rfl

theorem engageCyl_already (hon : thrownOn s c) : engageCyl c s = (clearResume c s, .already) := by
  rcases hon with h | h | h <;> simp [engageCyl, hconf, hfree, h]

theorem engageCyl_busy (hrel : (s.seq.get c).state = .releasing) : engageCyl c s = (s, .busy) := by
  simp [engageCyl, hconf, hfree, hrel]

end

/-- R83, R89: an ENGAGE that moves no sequencer at most clears resume-pending. -/
theorem engageCyl_other (h : ¬ (configuredFor c s = true ∧ ¬ (c = .f ∧ faultedWithSpans s = true) ∧
    (s.seq.get c).state = .off)) : (engageCyl c s).1 = s ∨ (engageCyl c s).1 = clearResume c s := by
  by_cases hconf : configuredFor c s = true
  · by_cases hfault : c = .f ∧ faultedWithSpans s = true
    · exact .inl (by rw [engageCyl_laneFault hconf hfault])
    · by_cases hon : thrownOn s c
      · exact .inr (by rw [engageCyl_already hconf hfault hon])
      · have hrel := (not_thrownOn_iff.1 hon).resolve_left fun hoff => h ⟨hconf, hfault, hoff⟩
        exact .inl (by rw [engageCyl_busy hconf hfault hrel])
  · exact .inl (by rw [engageCyl_unconfigured (eq_false_of_ne_true hconf)])

end

end Sys2Proof.Proofs
end

section
/-! Each sequencer agrees with its output, its timers and its confirm input, and F with the stop dwell and
resume-pending, from operation to operation (R82 to R93). -/
namespace Sys2Proof.Proofs

open Sys2Proof.Machine Sys2Proof.Safety

/-! ## One sequencer -/

/-- R82: the output and the timers of a sequencer follow its state. -/
structure SequencerTimed (q : Sequencer) : Prop where
  imp : q.imp = true ↔ q.state = .engaging ∨ q.state = .on
  engage : q.engage.isSome = true ↔ q.state = .engaging
  release : q.release.isSome = true ↔ q.state = .releasing

/-- R82 to R87: so does its confirm input, but for an edge that waits. -/
structure SequencerAgrees (cnf edge : Bool) (q : Sequencer) : Prop extends SequencerTimed q where
  engaging : q.state = .engaging → cnf = false ∨ edge = true
  held : q.state = .on ∨ q.state = .releasing → cnf = true ∨ edge = true

theorem sequencerTimed_off {q : Sequencer} (hs : q.state = .off ∨ q.state = .waitPhase) (hi : q.imp = false)
    (he : q.engage = none) (hr : q.release = none) : SequencerTimed q := by
  rcases hs with hs | hs <;> exact ⟨by simp [hs, hi], by simp [hs, he], by simp [hs, hr]⟩

theorem sequencerAgrees_off {q : Sequencer} (cnf edge : Bool) (hs : q.state = .off ∨ q.state = .waitPhase)
    (hi : q.imp = false) (he : q.engage = none) (hr : q.release = none) : SequencerAgrees cnf edge q := by
  refine ⟨sequencerTimed_off hs hi he hr, ?_, ?_⟩ <;> rcases hs with hs | hs <;> simp [hs]

theorem sequencerAgrees_on {q : Sequencer} (edge : Bool) (hs : q.state = .on) (hi : q.imp = true)
    (he : q.engage = none) (hr : q.release = none) : SequencerAgrees true edge q :=
  ⟨⟨by simp [hs, hi], by simp [hs, he], by simp [hs, hr]⟩, by simp [hs], by simp⟩

/-- R84, R85: a throw-phase event. -/
theorem sequencerAgrees_thrown (s : State) (c : Cyl) (edge : Bool) :
    SequencerAgrees (s.inputs.cnf.get c) edge (thrown s c) := by
  unfold thrown
  cases s.inputs.cnf.get c with
  | true => exact sequencerAgrees_on edge rfl rfl rfl rfl
  | false => exact ⟨⟨by simp, by simp, by simp⟩, by simp, by simp⟩

/-- R82, R88: a throw-off that acts. -/
theorem sequencerAgrees_givenUp {s : State} {c : Cyl} (h : thrownOn s c) (x : ThrowCause) (edge : Bool) :
    SequencerAgrees (s.inputs.cnf.get c) edge (givenUp x s c (s.seq.get c)) := by
  rw [givenUp_eq h]
  split
  · next hrel =>
    rw [hrel.2]
    exact ⟨⟨by simp, by simp, by simp⟩, by simp, by simp⟩
  · exact sequencerAgrees_off _ edge (.inl rfl) rfl rfl rfl

theorem givenUp_state {s : State} {c : Cyl} (h : thrownOn s c) (x : ThrowCause) :
    (givenUp x s c (s.seq.get c)).state = .off ∨ (givenUp x s c (s.seq.get c)).state = .releasing := by
  rw [givenUp_eq h]
  split
  · exact .inr rfl
  · exact .inl rfl

/-! ## The sequencers of a state -/

/-- The three invariants together. -/
def ThrowSound (s : State) : Prop :=
  (∀ c, SequencerAgrees (s.inputs.cnf.get c) (s.inputs.edge.get c) (s.seq.get c)) ∧ DwellSound s

theorem throwSound_iff {s : State} :
    ThrowSound s ↔ ImpressionSound s ∧ SequencerSound s ∧ DwellSound s := by
  constructor
  · rintro ⟨h, hdwell⟩
    exact ⟨fun c => (h c).imp, fun c => ⟨(h c).engage, (h c).release, (h c).engaging, (h c).held⟩, hdwell⟩
  · rintro ⟨himp, hseq, hdwell⟩
    refine ⟨fun c => ?_, hdwell⟩
    obtain ⟨hengage, hrelease, hengaging, hheld⟩ := hseq c
    exact ⟨⟨himp c, hengage, hrelease⟩, hengaging, hheld⟩

/-- R90, R91: the stop dwell runs only with F thrown on, and resume-pending is set only without. -/
theorem dwellSound_iff {s : State} : DwellSound s ↔
    (s.stopDwell.isSome = true → thrownOn s .f ∧ s.items.act.throwOff = true ∧ s.web.stopped = true) ∧
    (s.resume = true → ¬ thrownOn s .f ∧ s.items.act.autoResume = true) := by
  rw [not_thrownOn_iff]
  rfl

section
variable {s t : State}

theorem thrownOn_congr {c : Cyl} (h : t.seq.get c = s.seq.get c) : thrownOn t c ↔ thrownOn s c := by
  unfold thrownOn
  rw [h]

/-- The stop dwell and resume-pending are ended, or stand with F as it was. -/
theorem dwellSound_of_cleared (h : DwellSound s) (hr : SameReads s t)
    (hd : t.stopDwell = none ∨ t.stopDwell = s.stopDwell ∧ (thrownOn s .f → thrownOn t .f))
    (hp : t.resume = false ∨ t.resume = s.resume ∧ (thrownOn t .f → thrownOn s .f)) : DwellSound t := by
  obtain ⟨hdwell, hresume⟩ := dwellSound_iff.1 h
  rw [dwellSound_iff, hr.throwOff, hr.autoResume, hr.stopped]
  constructor
  · rcases hd with hd | ⟨hd, hf⟩
    · simp [hd]
    · rw [hd]
      intro hsome
      obtain ⟨hon, hrest⟩ := hdwell hsome
      exact ⟨hf hon, hrest⟩
  · rcases hp with hp | ⟨hp, hf⟩
    · simp [hp]
    · rw [hp]
      intro hset
      obtain ⟨hon, hrest⟩ := hresume hset
      exact ⟨fun ht => hon (hf ht), hrest⟩

theorem throwSound_of_same (h : ThrowSound s) (hs : SameSequencers s t) : ThrowSound t := by
  refine ⟨fun c => by rw [hs.cnf, hs.edge, hs.seq]; exact h.1 c, ?_⟩
  have hf : thrownOn t .f ↔ thrownOn s .f := thrownOn_congr (by rw [hs.seq])
  exact dwellSound_of_cleared h.2 hs.toSameReads (.inr ⟨hs.dwell, hf.2⟩) (.inr ⟨hs.resume, hf.1⟩)

theorem throwSound_of_frame (h : ThrowSound s)
    (hf : t.inputs = s.inputs ∧ t.seq = s.seq ∧ t.stopDwell = s.stopDwell ∧ t.resume = s.resume ∧
      t.items = s.items ∧ t.web = s.web) : ThrowSound t :=
  throwSound_of_same h (sameSequencers_of_frame hf)

/-- One sequencer changes: what it agrees with, and for F what stands of the stop dwell and resume-pending. -/
theorem throwSound_of_set {c : Cyl} {q : Sequencer}
    (h : ∀ d, d ≠ c → SequencerAgrees (s.inputs.cnf.get d) (s.inputs.edge.get d) (s.seq.get d))
    (hdwell : DwellSound s) (hr : SameReads s t) (hseq : t.seq = s.seq.set c q)
    (hq : SequencerAgrees (s.inputs.cnf.get c) (s.inputs.edge.get c) q)
    (hd : t.stopDwell = (if c = .f then none else s.stopDwell) ∨
      t.stopDwell = s.stopDwell ∧ (thrownOn s c → thrownOn t c))
    (hp : t.resume = (s.resume && decide (c ≠ .f)) ∨
      t.resume = s.resume ∧ (thrownOn t c → thrownOn s c)) : ThrowSound t := by
  constructor
  · intro d
    rw [hr.cnf, hr.edge, hseq, PerCyl.get_set]
    split
    · next hdc => exact hdc ▸ hq
    · next hdc => exact h d hdc
  · cases c with
    | f => exact dwellSound_of_cleared hdwell hr (by simpa using hd) (by simpa using hp)
    | e =>
      have hf : thrownOn t .f ↔ thrownOn s .f := thrownOn_congr (by rw [hseq]; rfl)
      have hd' : t.stopDwell = s.stopDwell := by simpa using hd.elim id And.left
      have hp' : t.resume = s.resume := by simpa using hp.elim (fun h => by simpa using h) And.left
      exact dwellSound_of_cleared hdwell hr (.inr ⟨hd', hf.2⟩) (.inr ⟨hp', hf.1⟩)

/-! ## Throws and throw-offs (R82, R84, R88, R92) -/

theorem throwSound_throwOff (c : Cyl) (x : ThrowCause) (h : ThrowSound s) : ThrowSound (throwOff c x s) := by
  by_cases hon : thrownOn s c
  · rw [throwOff_eq hon]
    exact throwSound_of_set (fun d _ => h.1 d) h.2 ⟨rfl, rfl, rfl, rfl, rfl⟩ rfl
      (sequencerAgrees_givenUp hon x _) (.inl rfl) (.inl rfl)
  · rw [throwOff_idle hon]
    exact h

theorem not_thrownOn_throwOff (c : Cyl) (x : ThrowCause) (s : State) : ¬ thrownOn (throwOff c x s) c := by
  by_cases hon : thrownOn s c
  · rw [not_thrownOn_iff, throwOff_seq, PerCyl.get_set_self]
    exact givenUp_state hon x
  · rw [throwOff_idle hon]
    exact hon

theorem throwSound_clearResume (c : Cyl) (h : ThrowSound s) : ThrowSound (clearResume c s) := by
  refine ⟨by simpa using h.1, dwellSound_of_cleared h.2 (sameReads_of_frame (by simp)) ?_ ?_⟩
  · exact .inr ⟨by simp, (thrownOn_congr (by simp)).2⟩
  · cases c with
    | f => exact .inl (by simp)
    | e => exact .inr ⟨by simp, (thrownOn_congr (by simp)).1⟩

theorem throwSound_laneOrder (h : ThrowSound s) : ThrowSound (laneOrder s) :=
  throwSound_clearResume .f (throwSound_throwOff .f .fault h)

theorem throwSound_disengageCyl (c : Cyl) (h : ThrowSound s) : ThrowSound (disengageCyl c s) :=
  throwSound_clearResume c (throwSound_throwOff c .host h)

/-- R84: the throw-phase events that come find their sequencers in WAIT_PHASE. -/
theorem throwSound_of_thrown (h : ThrowSound s) (hr : SameReads s t) (hdwell : t.stopDwell = s.stopDwell)
    (hresume : t.resume = s.resume)
    (hseq : ∀ c, t.seq.get c = s.seq.get c ∨
      (s.seq.get c).state = .waitPhase ∧ t.seq.get c = thrown s c) : ThrowSound t := by
  have hon (c : Cyl) : thrownOn t c ↔ thrownOn s c := by
    rcases hseq c with hsame | ⟨hwait, hthrown⟩
    · exact thrownOn_congr hsame
    · unfold thrownOn
      rw [hthrown, hwait]
      unfold thrown
      split <;> simp
  refine ⟨fun c => ?_, dwellSound_of_cleared h.2 hr (.inr ⟨hdwell, (hon .f).2⟩) (.inr ⟨hresume, (hon .f).1⟩)⟩
  rw [hr.cnf, hr.edge]
  rcases hseq c with hsame | ⟨-, hthrown⟩
  · rw [hsame]; exact h.1 c
  · rw [hthrown]; exact sequencerAgrees_thrown s c _

theorem throwSound_throwPhaseEvent (c : Cyl) (h : ThrowSound s) : ThrowSound (throwPhaseEvent c s) := by
  refine throwSound_of_thrown h (sameReads_of_frame (by simp)) (by simp) (by simp) fun d => ?_
  rw [throwPhaseEvent_get]
  split
  · next hd => exact .inr ⟨hd.1 ▸ hd.2, by rw [hd.1]⟩
  · exact .inl rfl

/-! ## Swaps and boundaries (R15, R93, R114, R136) -/

theorem throwSound_swapSeq (p : SheetParams) (c : Cyl) (h : ThrowSound s) : ThrowSound (swapSeq p c s) := by
  unfold swapSeq
  split
  · exact h
  · exact throwSound_clearResume c (throwSound_throwOff c .sheet h)

theorem throwSound_swapTo (sh : Sheet) (h : ThrowSound s) : ThrowSound (swapTo sh s) := by
  obtain ⟨-, hin, hitems, hweb, -, hresume, hdwell, -⟩ := swapEntered_frame sh s
  have hentered : ThrowSound (swapEntered sh s) := by
    refine throwSound_of_thrown h (sameReads_of_frame ⟨hin, hitems, hweb⟩) hdwell hresume fun c => ?_
    rw [swapEntered_seq]
    split
    · next hc => exact .inr ⟨hc.2, rfl⟩
    · exact .inl rfl
  have hseqs := throwSound_swapSeq sh.params .e (throwSound_swapSeq sh.params .f hentered)
  have horders : ThrowSound (swapOrders sh.params
      (swapSeq sh.params .e (swapSeq sh.params .f (swapEntered sh s)))) := by
    unfold swapOrders
    split
    · exact throwSound_laneOrder hseqs
    · exact hseqs
  rw [swapTo_eq]
  exact throwSound_of_frame horders (by simp)

theorem throwSound_swapPending (h : ThrowSound s) : ThrowSound (swapPending s) := by
  unfold swapPending
  split
  · exact throwSound_swapTo _ h
  · exact h

theorem throwSound_handStep (c : Cyl) (o : PhaseOut) (h : ThrowSound s) : ThrowSound (handStep c o s) := by
  have hbound : ThrowSound (if o.boundary then handBoundary c s else s) := by
    split
    · cases c with
      | f => exact throwSound_of_frame (throwSound_swapPending h) (by simp [handBoundary])
      | e => exact h
    · exact h
  have hthrow (b : Bool) {t : State} (ht : ThrowSound t) : ThrowSound (throwIf b c t) := by
    unfold throwIf
    split
    · exact throwSound_throwPhaseEvent c ht
    · exact ht
  rw [handStep_eq]
  exact throwSound_of_frame (hthrow o.throwEv hbound) (by simp)

theorem throwSound_stepPhase (d : TrimDir) (c : Cyl) (h : ThrowSound s) : ThrowSound (stepPhase d c s) := by
  unfold stepPhase
  split
  · next o _ =>
    have hphase : ThrowSound (s.setPhase c o.phase) := throwSound_of_frame h (by simp)
    exact throwSound_handStep c o hphase
  · exact h

/-! ## Trims (R66, R78, R79) -/

theorem throwSound_emitPulse (c : Cyl) (h : ThrowSound s) : ThrowSound (emitPulse c s) := by
  have hpulsed : ThrowSound (pulsedAt c s) := throwSound_of_frame h ⟨rfl, rfl, rfl, rfl, rfl, rfl⟩
  rw [emitPulse_eq]
  exact throwSound_stepPhase _ c hpulsed

theorem throwSound_trimChanged (c : Cyl) (h : ThrowSound s) : ThrowSound (trimChanged c s) := by
  unfold trimChanged
  dsimp only
  (repeat' split)
  · exact h
  · exact throwSound_emitPulse c h
  · exact throwSound_of_frame h (by simp)
  · exact throwSound_of_frame h (by simp)
  · exact h

theorem throwSound_commitTrim (c : Cyl) (k : Int) (h : ThrowSound s) : ThrowSound (commitTrim c k s) := by
  have htrimmed : ThrowSound (trimmed c k s) := throwSound_of_frame h ⟨rfl, rfl, rfl, rfl, rfl, rfl⟩
  rw [commitTrim_eq]
  exact throwSound_trimChanged c htrimmed

theorem throwSound_spaceEnd (c : Cyl) (h : ThrowSound s) : ThrowSound (spaceEnd c s) := by
  have hnow : ThrowSound (s.reachTime (spaceDue (s.emit.get c))) :=
    throwSound_of_frame h ⟨rfl, rfl, rfl, rfl, rfl, rfl⟩
  unfold spaceEnd
  dsimp only
  (repeat' split)
  · exact throwSound_of_frame hnow (by simp)
  · exact throwSound_emitPulse c hnow
  · exact h

theorem throwSound_stepTimeEnd (c : Cyl) (h : ThrowSound s) : ThrowSound (stepTimeEnd c s) := by
  unfold stepTimeEnd
  dsimp only
  split
  · exact throwSound_of_frame h (by simp)
  · exact h

end

end Sys2Proof.Proofs
end

section
/-! The sequencers' invariants through the edges of CNF, the timers, the gate end, ENGAGE and the writes of items,
and so through every step (R82 to R94). -/
namespace Sys2Proof.Proofs

open Sys2Proof.Machine Sys2Proof.Safety

section
variable {s t : State}

/-! ## Edges of CNF (R85 to R87, R92) -/

/-- R85 to R87: an edge taken settles its sequencer with the level, whatever the level was before. -/
theorem throwSound_takeEdge {c : Cyl}
    (h : ∀ d, d ≠ c → SequencerAgrees (s.inputs.cnf.get d) (s.inputs.edge.get d) (s.seq.get d))
    (hc : SequencerTimed (s.seq.get c)) (hdwell : DwellSound s) : ThrowSound (takeEdge c s) := by
  by_cases hrise : s.inputs.cnf.get c = true ∧ (s.seq.get c).state = .engaging
  · obtain ⟨hcnf, hq⟩ := hrise
    rw [takeEdge_rise hcnf hq]
    exact throwSound_of_set h hdwell ⟨rfl, rfl, rfl, rfl, rfl⟩ rfl
      (by rw [hcnf]; exact sequencerAgrees_on _ rfl rfl rfl rfl) (.inr ⟨rfl, fun _ => by simp [thrownOn]⟩)
      (.inr ⟨rfl, fun _ => .inr (.inl hq)⟩)
  by_cases hlost : s.inputs.cnf.get c = false ∧ (s.seq.get c).state = .on
  · obtain ⟨hcnf, hq⟩ := hlost
    rw [takeEdge_lost hcnf hq]
    exact throwSound_of_set h hdwell ⟨rfl, rfl, rfl, rfl, rfl⟩ rfl
      (sequencerAgrees_off _ _ (.inl rfl) rfl rfl rfl) (.inl rfl) (.inl rfl)
  by_cases hrel : s.inputs.cnf.get c = false ∧ (s.seq.get c).state = .releasing
  · obtain ⟨hcnf, hq⟩ := hrel
    rw [takeEdge_released hcnf hq]
    exact throwSound_of_set h hdwell ⟨rfl, rfl, rfl, rfl, rfl⟩ rfl
      (sequencerAgrees_off _ _ (.inl rfl) rfl rfl rfl)
      (.inr ⟨rfl, fun hon => absurd hon (not_thrownOn_iff.2 (.inr hq))⟩)
      (.inr ⟨rfl, fun hon => by simp [thrownOn] at hon⟩)
  rw [takeEdge_rest (fun hcnf hq => hrise ⟨hcnf, hq⟩)
    (fun hcnf => ⟨fun hq => hlost ⟨hcnf, hq⟩, fun hq => hrel ⟨hcnf, hq⟩⟩)]
  refine ⟨fun d => ?_, hdwell⟩
  by_cases hd : d = c
  · subst hd
    refine ⟨hc, fun hq => .inl (eq_false_of_ne_true fun hcnf => hrise ⟨hcnf, hq⟩), fun hq => .inl ?_⟩
    by_contra hcnf
    rcases hq with hq | hq
    · exact hlost ⟨eq_false_of_ne_true hcnf, hq⟩
    · exact hrel ⟨eq_false_of_ne_true hcnf, hq⟩
  · exact h d hd

theorem throwSound_confirmEdge (high : Bool) (x : ConfirmEdge) (h : ThrowSound s) :
    ThrowSound (confirmEdge high x s) := by
  have hfirst : ThrowSound (if s.inputs.edge.get x.cyl && s.inputs.cnf.get x.cyl != high
      then takeEdge x.cyl s else s) := by
    split
    · exact throwSound_takeEdge (fun d _ => h.1 d) (h.1 x.cyl).toSequencerTimed h.2
    · exact h
  unfold confirmEdge
  dsimp only
  generalize (if s.inputs.edge.get x.cyl && s.inputs.cnf.get x.cyl != high then takeEdge x.cyl s else s) = u
    at hfirst ⊢
  have hother (d : Cyl) (hd : d ≠ x.cyl) : SequencerAgrees
      ((setConfirm x.cyl high (!x.taken) u).inputs.cnf.get d)
      ((setConfirm x.cyl high (!x.taken) u).inputs.edge.get d)
      ((setConfirm x.cyl high (!x.taken) u).seq.get d) := by
    simpa [PerCyl.get_set_ne _ _ hd] using hfirst.1 d
  have htimed := (hfirst.1 x.cyl).toSequencerTimed
  split
  · exact throwSound_takeEdge hother htimed hfirst.2
  · next hwaits =>
    refine ⟨fun d => ?_, hfirst.2⟩
    by_cases hd : d = x.cyl
    · subst hd
      exact ⟨htimed, fun _ => .inr (by simp [hwaits]), fun _ => .inr (by simp [hwaits])⟩
    · exact hother d hd

/-! ## Timers (R85, R87, R90) -/

theorem throwSound_reachTime (due : Nat) (h : ThrowSound s) : ThrowSound (s.reachTime due) :=
  throwSound_of_frame h ⟨rfl, rfl, rfl, rfl, rfl, rfl⟩

theorem throwSound_engageExpiry (c : Cyl) (h : ThrowSound s) : ThrowSound (engageExpiry c s) := by
  cases hdue : (s.seq.get c).engage with
  | none => rw [engageExpiry_none hdue]; exact h
  | some due =>
    have hq : (s.seq.get c).state = .engaging := (h.1 c).engage.1 (by simp [hdue])
    have hnow := throwSound_reachTime due h
    have hon : thrownOn (s.reachTime due) c := .inr (.inl hq)
    rw [engageExpiry_some hdue, engageTimeout_eq (by exact hq)]
    exact throwSound_of_set (fun d _ => hnow.1 d) hnow.2 ⟨rfl, rfl, rfl, rfl, rfl⟩ rfl
      (sequencerAgrees_givenUp hon _ _) (.inl rfl) (.inr ⟨rfl, fun _ => hon⟩)

theorem throwSound_releaseExpiry (c : Cyl) (h : ThrowSound s) : ThrowSound (releaseExpiry c s) := by
  cases hdue : (s.seq.get c).release with
  | none => rw [releaseExpiry_none hdue]; exact h
  | some due =>
    have hq : (s.seq.get c).state = .releasing := (h.1 c).release.1 (by simp [hdue])
    have hnow := throwSound_reachTime due h
    have hoff : ¬ thrownOn (s.reachTime due) c := not_thrownOn_iff.2 (.inr hq)
    rw [releaseExpiry_some hdue, releaseTimeout_eq (by exact hq)]
    exact throwSound_of_set (fun d _ => hnow.1 d) hnow.2 ⟨rfl, rfl, rfl, rfl, rfl⟩ rfl
      (sequencerAgrees_off _ _ (.inl rfl) rfl rfl rfl) (.inr ⟨rfl, fun hon => absurd hon hoff⟩) (.inl rfl)

/-- R90: the stop dwell ended. -/
theorem throwSound_dwellEnded (h : ThrowSound s) : ThrowSound { s with stopDwell := none } :=
  ⟨h.1, dwellSound_of_cleared h.2 ⟨rfl, rfl, rfl, rfl, rfl⟩ (.inl rfl) (.inr ⟨rfl, id⟩)⟩

theorem throwSound_stopThrowOff (h : ThrowSound s) : ThrowSound (stopThrowOff s) := by
  have hoff : ThrowSound (throwOff .f .stop { s with stopDwell := none }) :=
    throwSound_throwOff .f .stop (throwSound_dwellEnded h)
  unfold stopThrowOff
  dsimp only
  split
  · next hauto =>
    refine ⟨hoff.1, dwellSound_iff.2 ⟨(dwellSound_iff.1 hoff.2).1, fun _ => ⟨?_, by simpa using hauto⟩⟩⟩
    exact not_thrownOn_throwOff .f .stop { s with stopDwell := none }
  · exact hoff

theorem throwSound_stopDwellExpiry (h : ThrowSound s) : ThrowSound (stopDwellExpiry s) := by
  cases hdue : s.stopDwell with
  | none => rw [stopDwellExpiry_none hdue]; exact h
  | some due => rw [stopDwellExpiry_some hdue]; exact throwSound_stopThrowOff (throwSound_reachTime due h)

/-! ## The gate end (R84, R90, R91) -/

theorem thrown_iff {s : State} {c : Cyl} : SeqState.thrown (s.seq.get c).state = true ↔ thrownOn s c := by
  unfold SeqState.thrown thrownOn
  simp [or_assoc]

/-- R84: a throw-phase event moves F only among the states that a throw-off acts on. -/
theorem thrownOn_throwPhaseEvent (c d : Cyl) (s : State) : thrownOn (throwPhaseEvent c s) d ↔ thrownOn s d := by
  unfold thrownOn
  rw [throwPhaseEvent_get]
  split
  · next h =>
    obtain ⟨rfl, hwait⟩ := h
    unfold thrown
    split <;> simp [hwait]
  · rfl

theorem throwSound_startDwell {was : SeqState} (h : ThrowSound s) (hstopped : s.web.stopped = true)
    (hwas : SeqState.thrown was = true → thrownOn s .f) : ThrowSound (startDwell was s) := by
  unfold startDwell
  split
  · next hstart =>
    obtain ⟨hset, hthrown⟩ := Bool.and_eq_true_iff.1 hstart
    split
    · exact throwSound_stopThrowOff h
    · exact ⟨h.1, dwellSound_iff.2 ⟨fun _ => ⟨hwas hthrown, hset, hstopped⟩, (dwellSound_iff.1 h.2).2⟩⟩
  · exact h

/-- R90: a gate end at which the web is stopped. -/
theorem throwSound_gateEndSeqs_stopped (b : Bool) (h : ThrowSound s) (hstopped : s.web.stopped = true) :
    ThrowSound (gateEndSeqs b s) := by
  unfold gateEndSeqs
  rw [if_pos hstopped]
  split
  · refine throwSound_startDwell (throwSound_throwPhaseEvent .e (throwSound_throwPhaseEvent .f h))
      (by simpa using hstopped) fun hwas => ?_
    rw [thrownOn_throwPhaseEvent, thrownOn_throwPhaseEvent]
    exact thrown_iff.1 hwas
  · exact h

/-- R90, R91: a gate end at which the web moves ends the stop dwell, and resume-pending once F is OFF. -/
theorem throwSound_moves (h : ThrowSound s) (hr : SameReads s { t with web := s.web })
    (hdwell : t.stopDwell = none) (hresume : t.resume = (s.resume && decide (s.seq.f.state ≠ .off)))
    (hseq : t.seq = if s.resume = true ∧ s.seq.f.state = .off ∧ engageTaken s = true then waiting s
      else s.seq) : ThrowSound t := by
  obtain ⟨-, hset⟩ := dwellSound_iff.1 h.2
  constructor
  · intro c
    have hcnf : t.inputs.cnf = s.inputs.cnf := hr.cnf
    have hedge : t.inputs.edge = s.inputs.edge := hr.edge
    rw [hcnf, hedge, hseq]
    split
    · cases c with
      | f => exact sequencerAgrees_off _ _ (.inr rfl) rfl rfl rfl
      | e => exact h.1 .e
    · exact h.1 c
  · refine dwellSound_iff.2 ⟨by simp [hdwell], fun hres => ?_⟩
    obtain ⟨hpend, hoff⟩ := Bool.and_eq_true_iff.1 (hresume ▸ hres)
    have hkept : t.seq = s.seq := hseq.trans (if_neg fun hn => (of_decide_eq_true hoff) hn.2.1)
    obtain ⟨hnot, hauto⟩ := hset hpend
    exact ⟨fun hon => hnot ((thrownOn_congr (by rw [hkept])).1 hon), hr.autoResume.trans hauto⟩

theorem throwSound_gateEnd (h : ThrowSound s) : ThrowSound (gateEnd s) := by
  have hstore (b : Bool) {t : State} (ht : ThrowSound t) : ThrowSound (gateEndStore b t) := by
    unfold gateEndStore
    split
    · exact throwSound_swapPending ht
    · exact ht
  obtain ⟨hdwell, hset⟩ := dwellSound_iff.1 h.2
  rw [gateEnd_eq]
  refine hstore _ ?_
  cases hnow : (gated s).web.stopped with
  | true =>
    have hgated : ThrowSound (gated s) :=
      ⟨h.1, dwellSound_iff.2 ⟨fun hd => ⟨(hdwell hd).1, (hdwell hd).2.1, hnow⟩, hset⟩⟩
    exact throwSound_gateEndSeqs_stopped _ hgated hnow
  | false =>
    have hended : (if false != s.web.stopped then none else s.stopDwell) = none := by
      cases hwas : s.web.stopped with
      | true => rfl
      | false =>
        by_contra hd
        have hrun := hdwell (Option.isSome_iff_ne_none.2 hd)
        rw [hwas] at hrun
        exact absurd hrun.2.2 (by decide)
    rw [gateEndSeqs_moves hnow]
    exact throwSound_moves h ⟨rfl, rfl, rfl, rfl, rfl⟩ hended rfl rfl

/-! ## ENGAGE (R83) -/

/-- R83, R89: an ENGAGE that is taken in OFF clears resume-pending of F and moves the sequencer. -/
theorem throwSound_engaged {c : Cyl} {q : Sequencer} (h : ThrowSound s) (hoff : (s.seq.get c).state = .off)
    (hq : SequencerAgrees (s.inputs.cnf.get c) (s.inputs.edge.get c) q) :
    ThrowSound ((clearResume c s).setSeq c q) := by
  have hnot : ¬ thrownOn s c := not_thrownOn_iff.2 (.inl hoff)
  refine throwSound_of_set (fun d _ => h.1 d) h.2 (sameReads_of_frame (by simp)) (by simp) hq
    (.inr ⟨by simp, fun hon => absurd hon hnot⟩) (.inl ?_)
  simp [clearResume_eq]

theorem throwSound_engageCyl (c : Cyl) (h : ThrowSound s) : ThrowSound (engageCyl c s).1 := by
  by_cases hgo : configuredFor c s = true ∧ ¬ (c = .f ∧ faultedWithSpans s = true) ∧
      (s.seq.get c).state = .off
  · obtain ⟨hconf, hfree, hoff⟩ := hgo
    cases hstopped : s.web.stopped with
    | true =>
      rw [engageCyl_stopped hconf hfree hoff hstopped]
      exact throwSound_engaged h hoff (sequencerAgrees_thrown s c _)
    | false =>
      rw [engageCyl_moving hconf hfree hoff hstopped]
      exact throwSound_engaged h hoff (sequencerAgrees_off _ _ (.inr rfl) rfl rfl rfl)
  · rcases engageCyl_other hgo with hsame | hclear
    · rw [hsame]; exact h
    · rw [hclear]; exact throwSound_clearResume c h

/-! ## Writes and resets (R94, R96) -/

theorem remap_inputs (l : Lane) (d : Option Drive) (s : State) : (remap l d s).inputs = s.inputs := by
  have hdir (d : Option Drive) (b : Bool) (t : State) : (setDir d b t).inputs = t.inputs := by
    rw [setDir_frame]
  unfold remap
  dsimp only
  split
  · rfl
  · simp [hdir]

/-- R179: no write of an item reaches the inputs. -/
theorem writeItem_inputs (i : Item) (v : Nat) (s : State) : (writeItem i v s).1.inputs = s.inputs := by
  cases i with
  | web i => cases i <;> simp only [writeItem, writeWeb] <;> (repeat' split) <;> rfl
  | index i c => cases i <;> simp only [writeItem, writeIndex] <;> (repeat' split) <;> rfl
  | mark i => simp only [writeItem, writeMark]; (repeat' split) <;> rfl
  | geo i => simp only [writeItem, writeGeo]; (repeat' split) <;> simp [refuse]
  | rejectMask => simp only [writeItem, writeRejectMask]; split <;> rfl
  | loop i c => simp only [writeItem, writeLoop]; (repeat' split) <;> rfl
  | trimInterval => simp only [writeItem, writeTrimInterval]; split <;> rfl
  | act i => cases i <;> simp only [writeItem, writeAct] <;> (repeat' split) <;> rfl
  | mapping l => simp only [writeItem, writeMapping]; (repeat' split) <;> simp [refuse, remap_inputs]
  | lane i l => simp only [writeItem, writeLane]; (repeat' split) <;> simp [refuse]
  | freezeOnFirst => simp only [writeItem, writeFreeze]; split <;> rfl
  | alarmMask => simp only [writeItem, writeAlarmMask]; split <;> simp [refuse]

/-- R179: an item that is a flag stays set at every write but one of 0 to itself. -/
theorem flag_stays {i j : Item} {v : Nat} {x y : Items} {flag : Items → Bool}
    (hflag : ∀ z, itemValue z j = (flag z).toNat) (hput : ItemPut i v x y) (hkept : ¬ (i = j ∧ v = 0))
    (hset : flag x = true) : flag y = true := by
  have hvalue : (flag y).toNat ≠ 0 := by
    rw [← hflag]
    by_cases hj : j = i
    · subst hj
      rw [hput.1]
      exact fun hv => hkept ⟨rfl, hv⟩
    · rw [hput.2 j hj, hflag, hset]
      decide
  cases hy : flag y with
  | true => rfl
  | false => exact absurd (by rw [hy]; rfl) hvalue

/-- R94: clearing throw-off on stop ends the stop dwell, and clearing auto-resume resume-pending. -/
theorem throwSound_writeItem (i : Item) (v : Nat) (h : ThrowSound s) : ThrowSound (writeItem i v s).1 := by
  have hin := writeItem_inputs i v s
  rcases writeItem_taken_or_same i v s with ⟨-, hput, hblock⟩ | hsame
  · obtain ⟨hweb, -, -, -, hseq, -⟩ := hblock.rest
    obtain ⟨hdwell, hresume⟩ := dwellSound_iff.1 h.2
    have hf : thrownOn (writeItem i v s).1 .f ↔ thrownOn s .f := thrownOn_congr (by rw [hseq])
    refine ⟨fun c => by rw [hin, hseq]; exact h.1 c, dwellSound_iff.2 ⟨fun hd => ?_, fun hp => ?_⟩⟩
    · rw [hblock.dwell] at hd
      split at hd
      · cases hd
      · next hkept =>
        obtain ⟨hon, hset, hstopped⟩ := hdwell hd
        refine ⟨hf.2 hon, ?_, hweb ▸ hstopped⟩
        exact flag_stays (flag := (·.act.throwOff)) (fun _ => rfl) hput hkept hset
    · rw [hblock.resume] at hp
      obtain ⟨hpend, hkept⟩ : s.resume = true ∧ ¬ (i = .act .autoResume ∧ v = 0) := by
        simpa [imp_iff_not_or] using hp
      obtain ⟨hoff, hset⟩ := hresume hpend
      exact ⟨fun hon => hoff (hf.1 hon), flag_stays (flag := (·.act.autoResume)) (fun _ => rfl) hput hkept hset⟩
  · rw [hsame]
    exact h

theorem throwSound_runtimeReset (s : State) : ThrowSound (runtimeReset s) := by
  refine ⟨fun c => ?_, by simp [runtimeReset, DwellSound]⟩
  cases c <;> exact sequencerAgrees_off _ _ (.inl rfl) rfl rfl rfl

theorem throwSound_fullReset (p : PinLevels) (s : State) : ThrowSound (fullReset p s) := by
  refine ⟨fun c => ?_, by simp [fullReset, State.reset, DwellSound]⟩
  cases c <;> exact sequencerAgrees_off _ _ (.inl rfl) rfl rfl rfl

end

theorem actuates_throwSound : Actuates ThrowSound where
  same h hs := throwSound_of_same h hs.toSameSequencers
  trim := throwSound_commitTrim
  mode _ _ h := throwSound_of_frame h ⟨rfl, rfl, rfl, rfl, rfl, rfl⟩
  space := throwSound_spaceEnd
  stepTime := throwSound_stepTimeEnd
  hand := throwSound_handStep
  swap := throwSound_swapTo
  order := throwSound_laneOrder
  gate := throwSound_gateEnd
  confirm := throwSound_confirmEdge
  engageTimer := throwSound_engageExpiry
  releaseTimer := throwSound_releaseExpiry
  dwell := throwSound_stopDwellExpiry
  engage := throwSound_engageCyl
  disengage := throwSound_disengageCyl
  write := throwSound_writeItem
  runtime _ := throwSound_runtimeReset _
  full p _ := throwSound_fullReset p _

/-- Settles O15: the three invariants together are kept by every operation that reaches a sequencer. -/
theorem stepKeepsSequencers : Obligations.StepKeepsSequencers := fun _ _ h hstep =>
  throwSound_iff.1 (actuates_step actuates_throwSound hstep (throwSound_iff.2 h))

end Sys2Proof.Proofs
end

section
/-! The edges of CNF and the expiries of the sequencers' timers, as rows (R85 to R87, R90, R92, R121). -/
namespace Sys2Proof.Proofs

open Sys2Proof.Machine Sys2Proof.Safety

section
variable {c : Cyl} {s : State}

/-! ## Edges of CNF (R85 to R87, R92) -/

/-- R92: with no edge the other way waiting, the level is set and the edge is taken or waits. -/
theorem confirmEdge_plain {high : Bool} (taken : Bool)
    (h : s.inputs.edge.get c = false ∨ s.inputs.cnf.get c = high) : confirmEdge high ⟨c, taken⟩ s =
      if taken then takeEdge c (setConfirm c high (!taken) s) else setConfirm c high (!taken) s := by
  have hnone : ¬ (s.inputs.edge.get c && s.inputs.cnf.get c != high) = true := by
    rcases h with h | h <;> simp [h]
  unfold confirmEdge
  dsimp only
  rw [if_neg hnone]

/-- R92: an edge the other way that waits is taken first. -/
theorem confirmEdge_other {high : Bool} (taken : Bool) (hw : s.inputs.edge.get c = true)
    (h : s.inputs.cnf.get c ≠ high) : confirmEdge high ⟨c, taken⟩ s =
      if taken then takeEdge c (setConfirm c high (!taken) (takeEdge c s))
      else setConfirm c high (!taken) (takeEdge c s) := by
  have hother : (s.inputs.edge.get c && s.inputs.cnf.get c != high) = true := by simp [hw, h]
  unfold confirmEdge
  dsimp only
  rw [if_pos hother]

@[simp] theorem setConfirm_setConfirm (c : Cyl) (high high' waits waits' : Bool) (s : State) :
    setConfirm c high waits (setConfirm c high' waits' s) = setConfirm c high waits s := by
  simp [setConfirm]

/-- What an edge does does not turn on whether the input is held to wait. -/
theorem takeEdge_setConfirm {high : Bool} (waits : Bool) (h : s.inputs.cnf.get c = high) :
    takeEdge c (setConfirm c high waits s) = setConfirm c high waits (takeEdge c s) := by
  have hcnf : (setConfirm c high waits s).inputs.cnf.get c = s.inputs.cnf.get c := by simp [h]
  by_cases hrise : s.inputs.cnf.get c = true ∧ (s.seq.get c).state = .engaging
  · obtain ⟨hhigh, hq⟩ := hrise
    rw [takeEdge_rise hhigh hq, takeEdge_rise (hcnf.trans hhigh) (by exact hq)]
    rfl
  by_cases hlost : s.inputs.cnf.get c = false ∧ (s.seq.get c).state = .on
  · obtain ⟨hlow, hq⟩ := hlost
    rw [takeEdge_lost hlow hq, takeEdge_lost (hcnf.trans hlow) (by exact hq)]
    rfl
  by_cases hrel : s.inputs.cnf.get c = false ∧ (s.seq.get c).state = .releasing
  · obtain ⟨hlow, hq⟩ := hrel
    rw [takeEdge_released hlow hq, takeEdge_released (hcnf.trans hlow) (by exact hq)]
    rfl
  have hengaging (h : s.inputs.cnf.get c = true) : (s.seq.get c).state ≠ .engaging :=
    fun hq => hrise ⟨h, hq⟩
  have hheld (h : s.inputs.cnf.get c = false) :
      (s.seq.get c).state ≠ .on ∧ (s.seq.get c).state ≠ .releasing :=
    ⟨fun hq => hlost ⟨h, hq⟩, fun hq => hrel ⟨h, hq⟩⟩
  rw [takeEdge_rest hengaging hheld]
  exact takeEdge_rest (s := setConfirm c high waits s) (fun hhigh => hengaging (hcnf.symm.trans hhigh))
    fun hlow => hheld (hcnf.symm.trans hlow)

/-- R92: an edge that waits is taken, by the same edge given again, before an edge the other way. -/
theorem confirmEdge_after {high : Bool} (taken : Bool) (hw : s.inputs.edge.get c = true)
    (h : s.inputs.cnf.get c = high) : confirmEdge (!high) ⟨c, taken⟩ s =
      confirmEdge (!high) ⟨c, taken⟩ (confirmEdge high ⟨c, true⟩ s) := by
  have hne : s.inputs.cnf.get c ≠ !high := by rw [h]; cases high <;> decide
  have hsettled : confirmEdge high ⟨c, true⟩ s = setConfirm c high false (takeEdge c s) :=
    (confirmEdge_plain true (.inr h)).trans (takeEdge_setConfirm false h)
  have hnone : (setConfirm c high false (takeEdge c s)).inputs.edge.get c = false := by simp
  rw [hsettled, confirmEdge_plain taken (.inl hnone), setConfirm_setConfirm, confirmEdge_other taken hw hne]

theorem endRun_fields (x : LaneCtl) : (endRun x).run = none ∧ (endRun x).acc = 0 ∧
    (endRun x).state = if x.parkPending then .parked else .dwell := by
  unfold endRun parkBegin
  dsimp only
  split <;> exact ⟨rfl, rfl, rfl⟩

/-- R85, R87: an engage timer that expires under a rising edge that waits leaves RELEASING, where the edge does
nothing. -/
theorem confirmRise_after_timeout {due : Nat} (hq : (s.seq.get c).state = .engaging)
    (hdue : (s.seq.get c).engage = some due) :
    let t := engageExpiry c (setConfirm c true true s)
    (confirmEdge true ⟨c, true⟩ t).inputs = (setConfirm c true false s).inputs ∧
    (confirmEdge true ⟨c, true⟩ t).seq.get c = { s.seq.get c with
      state := .releasing, imp := false, engage := none, cause := .engageTimeout,
      release := some (max s.now due + 1000 * s.items.act.release.get c) } := by
  intro t
  set v := (setConfirm c true true s).reachTime due with hv
  have hvq : (v.seq.get c).state = .engaging := hq
  have hvcnf : v.inputs.cnf.get c = true := by simp [hv]
  have ht : t = engageTimeout c v := engageExpiry_some hdue
  have htin : t.inputs = (setConfirm c true true s).inputs := by rw [ht, engageTimeout_eq hvq]; rfl
  have htseq : t.seq.get c = { s.seq.get c with
      state := .releasing, imp := false, engage := none, cause := .engageTimeout,
      release := some (max s.now due + 1000 * s.items.act.release.get c) } := by
    have hgiven := givenUp_eq (.inr (.inl hvq)) .engageTimeout
    rw [if_pos ⟨by simp [hvq], hvcnf⟩] at hgiven
    rw [ht, engageTimeout_eq hvq]
    exact (PerCyl.get_set_self _ c _).trans hgiven
  have htcnf : t.inputs.cnf.get c = true := by simp [htin]
  have hedge : confirmEdge true ⟨c, true⟩ t = setConfirm c true false t := by
    refine (confirmEdge_plain true (.inr htcnf)).trans ((takeEdge_setConfirm false htcnf).trans ?_)
    rw [takeEdge_rest (fun _ => by simp [htseq]) (fun h => by rw [htcnf] at h; cases h)]
  rw [hedge]
  exact ⟨by simp [htin], htseq⟩

/-- Settles O40: an edge sets the level and is taken, but for one the other way that waits and goes first. -/
theorem confirmEdgesMoveSequencer : Obligations.ConfirmEdgesMoveSequencer := by
  intro c s q waits cnf level up down
  refine ⟨fun h => ⟨?_, fun hq => ?_, fun hq => ?_⟩, fun h => ⟨?_, fun hq => ?_, fun hon hrel => ?_, fun hq => ?_⟩,
    fun hw hc taken u hu => ?_, fun hw hc taken u hu => ?_, fun due hw hc hq hdue => ?_⟩
  · exact congrArg Host.Outcome.next (confirmEdge_plain false h)
  · exact congrArg Host.Outcome.next ((confirmEdge_plain true h).trans (takeEdge_rise (by simp) hq))
  · exact congrArg Host.Outcome.next ((confirmEdge_plain true h).trans
      (takeEdge_rest (fun _ => hq) (by simp)))
  · exact congrArg Host.Outcome.next (confirmEdge_plain false h)
  · exact congrArg Host.Outcome.next ((confirmEdge_plain true h).trans (takeEdge_released (by simp) hq))
  · exact congrArg Host.Outcome.next ((confirmEdge_plain true h).trans
      (takeEdge_rest (by simp) fun _ => ⟨hon, hrel⟩))
  · refine ⟨_, congrArg Host.Outcome.next ((confirmEdge_plain true h).trans (takeEdge_lost (by simp) hq)),
      rfl, rfl, rfl, ?_, ?_, rfl⟩
    · rintro rfl
      refine ⟨rfl, by simp, fun l hl => ?_⟩
      have hcut : (cutLanes s.lane).get l = endRun (s.lane.get l) := by simp [cutLanes, hl]
      exact hcut ▸ endRun_fields _
    · rintro rfl
      exact ⟨rfl, by simp, rfl⟩
  · obtain rfl := Host.Outcome.next.inj hu
    exact congrArg Host.Outcome.next (confirmEdge_after (high := false) taken hw hc)
  · obtain rfl := Host.Outcome.next.inj hu
    exact congrArg Host.Outcome.next (confirmEdge_after (high := true) taken hw hc)
  · exact ⟨_, _, _, congrArg Host.Outcome.next (confirmEdge_plain false (.inl hw)), rfl, rfl,
      confirmRise_after_timeout hq hdue⟩

/-! ## Timers (R85, R87, R90) -/

/-- Settles O41: each expiry comes at its timer's instant and is a throw-off, or ends one. -/
theorem sequencerTimersExpire : Obligations.SequencerTimersExpire := by
  intro c s q
  refine ⟨fun due hdue hq => ?_, fun hdue => congrArg Host.Outcome.next (engageExpiry_none hdue),
    fun due hdue hq => ?_, fun hdue => congrArg Host.Outcome.next (releaseExpiry_none hdue),
    fun due hdue hon => ?_, fun hdue => congrArg Host.Outcome.next (stopDwellExpiry_none hdue)⟩
  · have hq' : ((s.reachTime due).seq.get c).state = .engaging := hq
    refine ⟨_, congrArg Host.Outcome.next ((engageExpiry_some hdue).trans (engageTimeout_eq hq')),
      ?_, rfl, rfl, rfl, rfl⟩
    have hgiven := givenUp_eq (.inr (.inl hq')) .engageTimeout
    simp only [hq', ne_eq, reduceCtorEq, not_false_eq_true, true_and] at hgiven
    exact congrArg (s.seq.set c) hgiven
  · have hq' : ((s.reachTime due).seq.get c).state = .releasing := hq
    exact ⟨_, congrArg Host.Outcome.next ((releaseExpiry_some hdue).trans (releaseTimeout_eq hq')),
      rfl, rfl, rfl, rfl, rfl⟩
  · have hon' : thrownOn (s.reachTime due) .f := hon
    exact ⟨_, congrArg Host.Outcome.next ((stopDwellExpiry_some hdue).trans (stopThrowOff_eq hon')),
      congrArg (s.seq.set .f) (givenUp_eq hon' .stop), rfl, rfl, rfl, rfl⟩

end

end Sys2Proof.Proofs
end

section
/-! ENGAGE and DISENGAGE as rows (R83, R84, R88, R89, R121, R183). -/
namespace Sys2Proof.Proofs

open Sys2Proof.Machine Sys2Proof.Safety Sys2Proof.Laws

/-! ## ENGAGE (R83) -/

/-- R83: the sheet in force uses the cylinder, and the geometry is set. -/
theorem configuredFor_iff {c : Cyl} {s : State} : configuredFor c s = true ↔
    ∃ sh, s.sheets.active = some sh ∧ sh.params.uses c = true ∧ s.items.geo.dF ≠ 0 ∧
      s.items.geo.dFS ≠ 0 ∧ s.items.geo.dE ≠ 0 ∧ s.items.geo.dR ≠ 0 := by
  cases hact : s.sheets.active with
  | none => simp [configuredFor, State.active?, hact]
  | some sh => simp [configuredFor, State.active?, hact, geometrySet, and_assoc]

theorem engageReq_eq (c : Cyl) (s : State) : engageReq (cylByte c) s =
    ((engageCyl c s).1, ⟨(engageCyl c s).2,
      [BitVec.ofNat 8 (SeqState.code (((engageCyl c s).1.seq.get c).state))]⟩) := by
  simp [engageReq, withCyl, ofByte_cylByte, seqCode, natBytes]

/-- R83, R183: ENGAGE answered with what becomes of the sequencer. -/
theorem exec_engage {c : Cyl} {s t : State} {r : Result} {q : SeqState} (h : Ready s)
    (he : engageCyl c (heard s) = (heard t, r)) (hl : t.link = s.link) (hq : (t.seq.get c).state = q) :
    exec (.engage (cylByte c)) s =
      .next (answered 0x20 ⟨r, [BitVec.ofNat 8 (SeqState.code q)]⟩ t) := by
  subst hq
  refine congrArg Host.Outcome.next (hostRequest_answered h 0x20 ((engageReq_eq c (heard s)).trans ?_) hl)
  rw [he]
  rfl

theorem thrown_of_active {c : Cyl} {s : State} (h : s.inputs.cnf.get c = true) : thrown s c =
    { s.seq.get c with state := .on, imp := true, engage := none, release := none } := if_pos h

theorem thrown_of_inactive {c : Cyl} {s : State} (h : s.inputs.cnf.get c = false) : thrown s c =
    { s.seq.get c with state := .engaging, imp := true, release := none,
                       engage := some (s.now + 1000 * s.items.act.engage.get c) } :=
  if_neg (by rw [h]; decide)

/-! ## DISENGAGE (R89) -/

/-- R88, R89, R121: a cylinder disengaged: its throw given up with cause HOST, resume-pending of F cleared, and
F's leaving ON handed to the lanes. -/
def disengaged (c : Cyl) (s : State) : State :=
  let q := s.seq.get c
  let s1 : State := { s with resume := s.resume && decide (c ≠ Cyl.f) }
  let releases := q.state != .waitPhase && s.inputs.cnf.get c
  let lanes : PerLane LaneCtl := if c = Cyl.f ∧ q.state = .on then
      s.lane.map (fun _ x => if x.state = .run then endRun x else x)
    else s.lane
  let s2 : State := { s1 with lane := lanes, stopDwell := if c = Cyl.f then none else s.stopDwell }
  if q.state = .off ∨ q.state = .releasing then s1
  else s2.setSeq c { q with
      state := if releases then .releasing else .off, imp := false, engage := none,
      release := if releases then some (s.now + 1000 * s.items.act.release.get c) else none,
      cause := .host }

theorem disengageCyl_eq (c : Cyl) (s : State) : disengageCyl c s = disengaged c s := by
  by_cases hon : thrownOn s c
  · have hacts : ¬ ((s.seq.get c).state = .off ∨ (s.seq.get c).state = .releasing) :=
      fun hn => not_thrownOn_iff.2 hn hon
    simp only [disengageCyl, disengaged, clearResume_eq, throwOff_eq hon, givenUp, if_neg hacts, Bool.and_assoc,
      Bool.and_self]
    rfl
  · rw [disengageCyl, throwOff_idle hon, clearResume_eq, disengaged]
    exact (if_pos (not_thrownOn_iff.1 hon)).symm

theorem disengaged_heard (c : Cyl) (s : State) : disengaged c (heard s) = heard (disengaged c s) := by
  unfold disengaged
  dsimp only
  rw [apply_ite heard]
  rfl

theorem disengaged_link (c : Cyl) (s : State) : (disengaged c s).link = s.link := by
  unfold disengaged
  dsimp only
  split <;> rfl

/-- R89: the cylinders of a set, in order. -/
def disengagedAll (cs : List Cyl) (s : State) : State := cs.foldl (fun s c => disengaged c s) s

theorem disengagedAll_heard (cs : List Cyl) (s : State) :
    disengagedAll cs (heard s) = heard (disengagedAll cs s) :=
  List.foldl_hom heard fun s c => disengaged_heard c s

theorem disengagedAll_link (cs : List Cyl) (s : State) : (disengagedAll cs s).link = s.link := by
  induction cs generalizing s with
  | nil => rfl
  | cons c cs ih => exact (ih (disengaged c s)).trans (disengaged_link c s)

/-- R89, R183: what a DISENGAGE of a set answers and does. -/
theorem disengageReq_eq {b : Byte} {cs : List Cyl} (h : cylSet b = some cs) (s : State) :
    disengageReq b s = (disengagedAll cs s,
      ⟨if cs.any fun c => SeqState.thrown (s.seq.get c).state then .ok else .already,
        [BitVec.ofNat 8 (SeqState.code (disengagedAll cs s).seq.f.state),
          BitVec.ofNat 8 (SeqState.code (disengagedAll cs s).seq.e.state)]⟩) := by
  have hall : cs.foldl (fun s c => disengageCyl c s) s = disengagedAll cs s := by
    simp only [disengageCyl_eq]
    rfl
  simp [disengageReq, h, hall, seqCode, natBytes, PerCyl.get]

theorem exec_disengage {b : Byte} {cs : List Cyl} {s : State} {r : Result} (h : Ready s)
    (hset : cylSet b = some cs)
    (hr : (if cs.any fun c => SeqState.thrown (s.seq.get c).state then Result.ok else .already) = r) :
    exec (.disengage b false) s = .next (answered 0x21 ⟨r,
      [BitVec.ofNat 8 (SeqState.code (disengagedAll cs s).seq.f.state),
        BitVec.ofNat 8 (SeqState.code (disengagedAll cs s).seq.e.state)]⟩ (disengagedAll cs s)) := by
  subst hr
  refine congrArg Host.Outcome.next (hostRequest_answered h 0x21 ((disengageReq_eq hset (heard s)).trans ?_)
    (disengagedAll_link cs s))
  rw [disengagedAll_heard]
  rfl

theorem exec_disengage_broadcast {b : Byte} {cs : List Cyl} {s : State} (h : Ready s)
    (hset : cylSet b = some cs) :
    exec (.disengage b true) s = .next (heard (disengagedAll cs s)) := by
  have htake : hostBroadcast (takeBroadcastFrame 0x21 [b]) s = (disengageReq b (heard s)).1 := by
    rw [hostBroadcast_listening ⟨h.1, h.2.1⟩]
    have hframe (t : State) : takeBroadcastFrame 0x21 [b] t = takeBroadcast (disengageReq b) t :=
      if_pos (by rw [hset]; rfl)
    rw [hframe]
    exact congrArg (fun l => (disengageReq b { s with link := l }).1) (goodFrame_after h.1 h.2.1)
  refine congrArg Host.Outcome.next (htake.trans ?_)
  rw [disengageReq_eq hset, disengagedAll_heard]

theorem cylSet_of_names {b : Byte} {cs : List Cyl}
    (h : b = 0 ∧ cs = [.f] ∨ b = 1 ∧ cs = [.e] ∨ b = 2 ∧ cs = [.f, .e]) : cylSet b = some cs := by
  rcases h with ⟨rfl, rfl⟩ | ⟨rfl, rfl⟩ | ⟨rfl, rfl⟩ <;> rfl

theorem any_thrown_iff {cs : List Cyl} {s : State} :
    (cs.any fun c => SeqState.thrown (s.seq.get c).state) = true ↔ ∃ c ∈ cs, thrownOn s c := by
  simp only [List.any_eq_true, thrown_iff]

/-- Settles O42: ENGAGE by its tests in their order, DISENGAGE as its throw-offs, each over the Link Port. -/
theorem engageAndDisengage : Obligations.EngageAndDisengage := by
  intro c s h q g cleared configured faulted engaged code thrown off
  have hconf : configuredFor c (heard s) = true ↔ configured := configuredFor_iff
  have hfault : (c = .f ∧ faultedWithSpans (heard s) = true) ↔ faulted :=
    and_congr_right fun _ => faultedWithSpans_iff
  have hcleared : clearResume c (heard s) = heard cleared := clearResume_eq c (heard s)
  refine ⟨fun hno => ?_, fun hc hf => ?_, fun hc hf => ⟨fun hq hw => ?_, fun hq hw hcnf => ?_,
    fun hq hw hcnf => ?_, fun hon => ?_, fun hrel => ?_⟩, fun b cs hb => ?_⟩
  · have hno' := eq_false_of_ne_true fun hc => hno (hconf.1 hc)
    exact exec_engage h (engageCyl_unconfigured hno') rfl rfl
  · exact exec_engage h (engageCyl_laneFault (hconf.2 hc) (hfault.2 hf)) rfl rfl
  · have he := engageCyl_moving (hconf.2 hc) (fun hn => hf (hfault.1 hn)) hq hw
    rw [hcleared] at he
    exact exec_engage (q := .waitPhase) h he rfl (by simp)
  · have he := engageCyl_stopped (hconf.2 hc) (fun hn => hf (hfault.1 hn)) hq hw
    rw [hcleared, thrown_of_inactive (by exact hcnf)] at he
    exact exec_engage (q := .engaging) h he rfl (by simp)
  · have he := engageCyl_stopped (hconf.2 hc) (fun hn => hf (hfault.1 hn)) hq hw
    rw [hcleared, thrown_of_active (by exact hcnf)] at he
    exact exec_engage (q := .on) h he rfl (by simp)
  · have he := engageCyl_already (hconf.2 hc) (fun hn => hf (hfault.1 hn)) hon
    rw [hcleared] at he
    exact exec_engage h he rfl rfl
  · have he := engageCyl_busy (hconf.2 hc) (fun hn => hf (hfault.1 hn)) hrel
    exact exec_engage (q := .releasing) h he rfl hrel
  · have hset := cylSet_of_names hb
    refine ⟨fun hsome => ?_, fun hnone => ?_, exec_disengage_broadcast h hset⟩
    · exact exec_disengage h hset (if_pos (any_thrown_iff.2 hsome))
    · refine exec_disengage h hset (if_neg fun hany => ?_)
      obtain ⟨d, hd, hon⟩ := any_thrown_iff.1 hany
      exact hnone d hd hon

end Sys2Proof.Proofs
end

section
/-! Lists of spans: sorted by start, merged where two lie nearer than a gap (R108, R123). The base spans of a
window table and the run list of a lane are both such merges, with gaps of one count and of the min dwell. -/
namespace Sys2Proof.Proofs

open Sys2Proof.Machine Sys2Proof.Safety

/-- A span within the repeat. -/
def SpanWithin (lc : Nat) (x : Span) : Prop := x.start ≤ x.stop ∧ x.stop ≤ lc

/-- Spans within the repeat, in the order of their starts. -/
def SortedWithin (lc : Nat) (xs : List Span) : Prop :=
  (∀ x ∈ xs, SpanWithin lc x) ∧ xs.Pairwise (fun a b => a.start ≤ b.start)

theorem sortedWithin_cons {lc : Nat} {x : Span} {xs : List Span} : SortedWithin lc (x :: xs) ↔
    SpanWithin lc x ∧ (∀ y ∈ xs, x.start ≤ y.start) ∧ SortedWithin lc xs := by
  simp only [SortedWithin, List.forall_mem_cons, List.pairwise_cons]
  tauto

/-! ## Merging -/

/-- What a merge of `n` spans from `start` on comes to. -/
structure Merged (lc gap start n : Nat) (xs : List Span) : Prop where
  length : xs.length ≤ n
  within : ∀ x ∈ xs, SpanWithin lc x
  starts : ∀ x ∈ xs, start ≤ x.start
  apart : xs.Pairwise (fun a b => a.stop + gap ≤ b.start)

theorem mergeRuns_merged {lc : Nat} (gap : Nat) {cur : Span} {xs : List Span}
    (h : SortedWithin lc (cur :: xs)) :
    Merged lc gap cur.start (xs.length + 1) (mergeRuns gap cur xs) := by
  induction xs generalizing cur with
  | nil =>
    obtain ⟨hcur, -, -⟩ := sortedWithin_cons.1 h
    exact ⟨le_rfl, by simpa [mergeRuns] using hcur, by simp [mergeRuns], by simp [mergeRuns]⟩
  | cons x xs ih =>
    obtain ⟨hcur, hstart, hrest⟩ := sortedWithin_cons.1 h
    obtain ⟨hx, -, hxs⟩ := sortedWithin_cons.1 hrest
    unfold mergeRuns
    split
    · have hjoined : SortedWithin lc ({ cur with stop := max cur.stop x.stop } :: xs) := by
        refine sortedWithin_cons.2 ⟨?_, fun y hy => hstart y (List.mem_cons_of_mem x hy), hxs⟩
        exact ⟨hcur.1.trans (Nat.le_max_left _ _), max_le hcur.2 hx.2⟩
      obtain ⟨hlen, hwithin, hstarts, hapart⟩ := ih hjoined
      exact ⟨hlen.trans (Nat.le_succ _), hwithin, hstarts, hapart⟩
    · next hgap =>
      obtain ⟨hlen, hwithin, hstarts, hapart⟩ := ih hrest
      have hfirst := hstart x List.mem_cons_self
      refine ⟨Nat.succ_le_succ hlen, List.forall_mem_cons.2 ⟨hcur, hwithin⟩,
        List.forall_mem_cons.2 ⟨le_rfl, fun y hy => hfirst.trans (hstarts y hy)⟩,
        List.pairwise_cons.2 ⟨fun y hy => ?_, hapart⟩⟩
      exact (Nat.not_lt.1 hgap).trans (hstarts y hy)

/-- R108: base spans merge where they touch, which is a gap below one count. -/
theorem mergeSpans_eq (cur : Span) (xs : List Span) : mergeSpans cur xs = mergeRuns 1 cur xs := by
  induction xs generalizing cur with
  | nil => rfl
  | cons x xs ih =>
    unfold mergeSpans mergeRuns
    simp only [ih, Nat.lt_succ_iff]

/-! ## Base spans (R108) -/

theorem insertSpan_eq (x : Span) (xs : List Span) :
    insertSpan x xs = xs.orderedInsert (fun a b => a.start ≤ b.start) x := by
  induction xs with
  | nil => rfl
  | cons y ys ih => simp only [insertSpan, List.orderedInsert, ih]

theorem sortSpans_eq (xs : List Span) :
    sortSpans xs = xs.insertionSort (fun a b => a.start ≤ b.start) := by
  induction xs with
  | nil => rfl
  | cons x xs ih => rw [List.insertionSort_cons, ← ih, ← insertSpan_eq]; rfl

theorem sortSpans_pairwise (xs : List Span) :
    (sortSpans xs).Pairwise (fun a b => a.start ≤ b.start) := by
  have htotal : Std.Total (fun a b : Span => a.start ≤ b.start) := ⟨fun a b => Nat.le_total _ _⟩
  have htrans : IsTrans Span (fun a b => a.start ≤ b.start) := ⟨fun _ _ _ => Nat.le_trans⟩
  rw [sortSpans_eq]
  exact List.pairwise_insertionSort _ xs

theorem mem_sortSpans {x : Span} {xs : List Span} : x ∈ sortSpans xs ↔ x ∈ xs := by
  rw [sortSpans_eq]
  exact List.mem_insertionSort _

theorem mem_enabledWindows {t : List (Option Window)} {w : Window} :
    w ∈ enabledWindows t ↔ some w ∈ t ∧ w.enabled = true := by
  simp [enabledWindows]

/-- R108: the intervals of a lane's enabled windows. -/
def laneIntervals (t : List (Option Window)) (l : Lane) : List Span :=
  ((enabledWindows t).filter (·.lane == l)).map fun w => ⟨w.start, w.start + w.length⟩

theorem laneSpans_nil {t : List (Option Window)} {l : Lane} (h : sortSpans (laneIntervals t l) = []) :
    laneSpans t l = [] := by
  unfold laneIntervals at h
  unfold laneSpans
  dsimp only
  rw [h]

theorem laneSpans_cons {t : List (Option Window)} {l : Lane} {x : Span} {xs : List Span}
    (h : sortSpans (laneIntervals t l) = x :: xs) : laneSpans t l = mergeRuns 1 x xs := by
  unfold laneIntervals at h
  unfold laneSpans
  dsimp only
  rw [h]
  exact mergeSpans_eq x xs

theorem laneIntervals_sorted {lc : Nat} {t : List (Option Window)} (l : Lane)
    (h : ∀ w, some w ∈ t → w.enabled = true → w.start + w.length ≤ lc) :
    SortedWithin lc (sortSpans (laneIntervals t l)) := by
  refine ⟨fun x hx => ?_, sortSpans_pairwise _⟩
  obtain ⟨w, hw, rfl⟩ := List.mem_map.1 (mem_sortSpans.1 hx)
  obtain ⟨hmem, hen⟩ := mem_enabledWindows.1 (List.mem_of_mem_filter hw)
  exact ⟨Nat.le_add_right _ _, h w hmem hen⟩

/-- R106, R108: windows within the repeat, at most twelve spans on a lane, compile to sound base spans. -/
theorem laneSpans_sound {lc : Nat} {t : List (Option Window)} {l : Lane}
    (h : ∀ w, some w ∈ t → w.enabled = true → w.start + w.length ≤ lc)
    (hcount : (laneSpans t l).length ≤ 12) : spansSound lc (laneSpans t l) := by
  have hsorted := laneIntervals_sorted l h
  refine ⟨hcount, ?_⟩
  cases hs : sortSpans (laneIntervals t l) with
  | nil => simp [laneSpans_nil hs]
  | cons x xs =>
    obtain ⟨-, hbounds, -, hapart⟩ := mergeRuns_merged 1 (hs ▸ hsorted)
    rw [laneSpans_cons hs]
    exact ⟨hbounds, hapart⟩

/-! ## Run lists (R123, R124) -/

theorem sortedWithin_widen {lc lead runOut : Nat} {spans : List Span} (h : spansSound lc spans) :
    SortedWithin lc ((spans.map (widen lead runOut lc)).map (·.1)) := by
  obtain ⟨-, hbounds, hapart⟩ := h
  rw [List.map_map]
  constructor
  · refine List.forall_mem_map.2 fun b hb => ?_
    obtain ⟨hle, hlc⟩ := hbounds b hb
    simp only [SpanWithin, widen, Function.comp_apply]
    omega
  · refine List.pairwise_map.2 (hapart.imp_of_mem fun {a b} ha _ hab => ?_)
    have := (hbounds a ha).1
    simp only [widen, Function.comp_apply]
    omega

/-- R123, R124: a run list built from sound base spans is sound. -/
theorem buildRuns_sound {lc : Nat} {spans : List Span} (h : spansSound lc spans)
    (lead runOut minDwell : Nat) :
    runsSound lc minDwell (buildRuns spans lead runOut minDwell lc).1 := by
  have hsorted := sortedWithin_widen (lead := lead) (runOut := runOut) h
  unfold buildRuns
  dsimp only
  split
  · simp [runsSound]
  · next r rest hruns =>
    rw [hruns] at hsorted
    obtain ⟨hlen, hbounds, -, hapart⟩ := mergeRuns_merged minDwell hsorted
    have hcount : rest.length + 1 = spans.length := by
      simpa using (congrArg List.length hruns).symm
    exact ⟨(hlen.trans_eq hcount).trans h.1, hbounds, hapart⟩

theorem buildRuns_nil (lead runOut minDwell lc : Nat) :
    (buildRuns [] lead runOut minDwell lc).1 = [] := rfl

/-! ## A sheet that passes COMMIT (R106, R108) -/

/-- R106 check 8: a sheet that passes has at most twelve base spans on a lane. -/
theorem spans_of_pass {st : Staged} {it : Items} (h : commitCheck st it = none) (l : Lane) :
    (laneSpans st.windows l).length ≤ 12 := by
  obtain ⟨hparams, hbeyond, hunmapped, -⟩ := within_of_pass h
  rw [commitCheck_within hparams, windowChecks, firstWindow_none (beyond_test st) hbeyond,
    firstWindow_none (unmapped_test it) hunmapped] at h
  cases hcrowded : crowdedLane st.windows with
  | some k => rw [hcrowded] at h; cases h
  | none =>
    have hl := List.find?_eq_none.1 hcrowded l (mem_lanes l)
    exact Nat.not_lt.1 fun hlt => hl (decide_eq_true hlt)

theorem sheetSound_of_pass {st : Staged} {it : Items} (h : commitCheck st it = none) (g : Nat) :
    sheetSound (compile st g) := by
  obtain ⟨-, hbeyond, -⟩ := within_of_pass h
  intro l
  have hget : (compile st g).spans.get l = laneSpans st.windows l := compileSpans_get _ l
  rw [hget]
  exact laneSpans_sound (fun w hw hen => Nat.not_lt.1 fun hlt => hbeyond ⟨w, hw, hen, hlt⟩)
    (spans_of_pass h l)

end Sys2Proof.Proofs
end

section
/-! The orders, edges and timers of the sequencers leave every lane its run list (R82 to R92, R121). -/
namespace Sys2Proof.Proofs

open Sys2Proof.Machine

theorem lanesKept_if {s t : State} {p : Prop} [Decidable p] (h : LanesKept s t) :
    LanesKept s (if p then t else s) := by
  split
  · exact h
  · exact lanesKept_refl s

theorem lanesKept_clearResume (c : Cyl) (s : State) : LanesKept s (clearResume c s) :=
  lanesKept_of_eq (by simp)

theorem lanesKept_throwPhaseEvent (c : Cyl) (s : State) : LanesKept s (throwPhaseEvent c s) :=
  lanesKept_of_eq (by simp)

theorem lanesKept_disengageCyl (c : Cyl) (s : State) : LanesKept s (disengageCyl c s) :=
  lanesKept_trans (lanesKept_throwOff c .host s) (lanesKept_clearResume c _)

theorem lanesKept_disengageCyls (cs : List Cyl) (s : State) :
    LanesKept s (cs.foldl (fun s c => disengageCyl c s) s) := by
  induction cs generalizing s with
  | nil => exact lanesKept_refl s
  | cons c cs ih => exact lanesKept_trans (lanesKept_disengageCyl c s) (ih _)

theorem lanesKept_engageCyl (c : Cyl) (s : State) : LanesKept s (engageCyl c s).1 := by
  have hclear := lanesKept_clearResume c s
  unfold engageCyl
  dsimp only
  (repeat' split)
  · exact lanesKept_refl s
  · exact lanesKept_refl s
  · exact lanesKept_trans hclear (lanesKept_enterEngaging c _)
  · exact lanesKept_trans hclear (lanesKept_seqTo c .waitPhase _)
  · exact hclear
  · exact hclear
  · exact hclear
  · exact lanesKept_refl s

/-! ## The gate end (R84, R90, R91) -/

theorem lanesKept_stopThrowOff (s : State) : LanesKept s (stopThrowOff s) := by
  have hoff : LanesKept s (throwOff .f .stop { s with stopDwell := none }) :=
    lanesKept_throwOff .f .stop _
  unfold stopThrowOff
  dsimp only
  split <;> exact hoff

theorem lanesKept_startDwell (was : SeqState) (s : State) : LanesKept s (startDwell was s) := by
  unfold startDwell
  (repeat' split)
  · exact lanesKept_stopThrowOff s
  · exact lanesKept_of_eq rfl
  · exact lanesKept_refl s

theorem lanesKept_resumeEngage (s : State) : LanesKept s (resumeEngage s) := by
  have hengage : LanesKept s { (engageCyl .f s).1 with resume := false } := lanesKept_engageCyl .f s
  exact lanesKept_if hengage

theorem lanesKept_gateEndSeqs (b : Bool) (s : State) : LanesKept s (gateEndSeqs b s) := by
  unfold gateEndSeqs
  (repeat' split)
  · exact lanesKept_trans (lanesKept_throwPhaseEvent .f s)
      (lanesKept_trans (lanesKept_throwPhaseEvent .e _) (lanesKept_startDwell _ _))
  · exact lanesKept_refl s
  · exact lanesKept_resumeEngage { s with stopDwell := none }
  · exact lanesKept_resumeEngage s

/-! ## Edges of CNF and timers (R85 to R87, R90) -/

theorem lanesKept_takeEdge (c : Cyl) (s : State) : LanesKept s (takeEdge c s) := by
  have hlost : LanesKept s (confirmLost c s) :=
    lanesKept_trans (lanesKept_of_eq (by simp)) (lanesKept_seqTo c .off _)
  unfold takeEdge takeRise takeFall
  (repeat' split)
  · exact lanesKept_seqTo c .on s
  all_goals first | exact lanesKept_refl s | exact hlost | exact lanesKept_seqTo c .off s

theorem lanesKept_confirmEdge (high : Bool) (x : ConfirmEdge) (s : State) :
    LanesKept s (confirmEdge high x s) := by
  have hif (b : Bool) (t : State) : LanesKept t (if b then takeEdge x.cyl t else t) :=
    lanesKept_if (lanesKept_takeEdge x.cyl t)
  exact lanesKept_trans (hif _ s) (lanesKept_trans (lanesKept_of_eq rfl) (hif x.taken _))

theorem lanesKept_engageExpiry (c : Cyl) (s : State) : LanesKept s (engageExpiry c s) := by
  unfold engageExpiry
  split
  · next due _ =>
    have hdwell (t : State) : LanesKept t (stopDwellOf c t) := lanesKept_if (lanesKept_of_eq rfl)
    have hraised (r : Raise) : LanesKept s (raise r (s.reachTime due)) := lanesKept_of_eq (by simp)
    exact lanesKept_trans (hraised _) (lanesKept_trans (hdwell _)
      (lanesKept_of_cutIf (enterReleasing_lane c (setCause c .engageTimeout _))))
  · exact lanesKept_refl s

theorem lanesKept_releaseExpiry (c : Cyl) (s : State) : LanesKept s (releaseExpiry c s) := by
  unfold releaseExpiry
  split
  · next due _ =>
    have hraised (r : Raise) : LanesKept s (raise r (s.reachTime due)) := lanesKept_of_eq (by simp)
    exact lanesKept_trans (hraised _) (lanesKept_trans (lanesKept_seqTo c .off _)
      (lanesKept_clearResume c _))
  · exact lanesKept_refl s

theorem lanesKept_stopDwellExpiry (s : State) : LanesKept s (stopDwellExpiry s) := by
  unfold stopDwellExpiry
  split
  · next due _ => exact lanesKept_stopThrowOff (s.reachTime due)
  · exact lanesKept_refl s

/-! ## The check timer (R141) -/

theorem lanesKept_checkStep (l : Lane) (due : Nat) (s : State) : LanesKept s (checkStep l due s) := by
  unfold checkStep
  dsimp only
  split
  · refine lanesKept_trans (lanesKept_setLane ?_) (lanesKept_laneStep l _)
    exact ⟨rfl, rfl, rfl⟩
  · exact lanesKept_setLane ⟨rfl, rfl, rfl⟩

theorem lanesKept_checkExpiry (l : Lane) (s : State) : LanesKept s (checkExpiry l s) := by
  unfold checkExpiry
  (repeat' split)
  · next due _ _ => exact lanesKept_checkStep l due (s.reachTime due)
  · exact lanesKept_refl s
  · exact lanesKept_refl s

end Sys2Proof.Proofs
end

section
/-! What a step can do to the sheets in force and waiting, the run lists and the web's motion, said once: a
predicate on these holds after every step if the few operations that reach them keep it (`SheetKeeps`). -/
namespace Sys2Proof.Proofs

open Sys2Proof.Machine Sys2Proof.Safety

/-- The sheets in force and waiting, the last generation, whether the web moves, every lane's run list and min
dwell stay. -/
structure SameSheets (s t : State) : Prop where
  active : t.sheets.active = s.sheets.active
  waiting : t.sheets.pending = s.sheets.pending
  lastGen : t.sheets.lastGen = s.sheets.lastGen
  stopped : t.web.stopped = s.web.stopped
  minDwell : ∀ l, (t.items.lane.get l).minDwell = (s.items.lane.get l).minDwell
  runList : ∀ l, (t.lane.get l).runList = (s.lane.get l).runList

/-- `P` speaks of these alone, and is kept by the operations that reach them. -/
structure SheetKeeps (P : State → Prop) : Prop where
  same : ∀ {s t}, SameSheets s t → P s → P t
  hand : ∀ {s} c o, P s → P (handStep c o s)
  gate : ∀ {s}, P s → P (gateEnd s)
  write : ∀ {s} i v, P s → P (writeItem i v s).1
  curve : ∀ {s} l as, P s → P (storeCurve l as s)
  commit : ∀ {s}, P s → P (commitSheet s).1
  runtime : ∀ {s}, P s → P (runtimeReset s)
  full : ∀ {s} p, P s → P (fullReset p s)

/-! ## What leaves the sheets -/

theorem sameSheets_refl (s : State) : SameSheets s s :=
  ⟨rfl, rfl, rfl, rfl, fun _ => rfl, fun _ => rfl⟩

/-- An operation by what its frame lemma says. -/
theorem sameSheets_of_frame {s t : State} (h : t.web = s.web ∧ t.sheets = s.sheets ∧ t.items = s.items)
    (hl : LanesKept s t) : SameSheets s t := by
  obtain ⟨hweb, hsheets, hitems⟩ := h
  exact ⟨by rw [hsheets], by rw [hsheets], by rw [hsheets], by rw [hweb], fun l => by rw [hitems],
    fun l => (hl l).2.2⟩

theorem sameSheets_of_lanes {s t : State}
    (h : t.web = s.web ∧ t.sheets = s.sheets ∧ t.items = s.items ∧ t.lane = s.lane) : SameSheets s t :=
  sameSheets_of_frame ⟨h.1, h.2.1, h.2.2.1⟩ (lanesKept_of_eq h.2.2.2)

theorem sameSheets_setLane {s : State} {l : Lane} {x : LaneCtl}
    (h : x.runList = (s.lane.get l).runList) : SameSheets s (s.setLane l x) := by
  refine ⟨by simp, by simp, by simp, by simp, by simp, fun m => ?_⟩
  rw [setLane_lane, PerLane.get_set]
  split
  · next hm => rw [h, hm]
  · rfl

/-- R97 to R105: the staged sheet alone is edited. -/
theorem sameSheets_staged (s : State) (x : Staged) :
    SameSheets s { s with sheets := { s.sheets with staged := x } } :=
  ⟨rfl, rfl, rfl, rfl, fun _ => rfl, fun _ => rfl⟩

/-- R111: the last commit record is written. -/
theorem sameSheets_noteCommit (r : CommitRecord) (s : State) : SameSheets s (noteCommit r s) :=
  ⟨rfl, rfl, rfl, rfl, fun _ => rfl, fun _ => rfl⟩

theorem sameSheets_noteWrite (r : Result) (s : State) : SameSheets s (noteWrite r s) := by
  unfold noteWrite
  split <;> exact ⟨rfl, rfl, rfl, rfl, fun _ => rfl, fun _ => rfl⟩

theorem sameSheets_clearCounters (s : State) : SameSheets s (clearCounters s) :=
  ⟨rfl, rfl, rfl, rfl, fun _ => rfl, fun l => by cases l <;> rfl⟩

theorem parkLane_runList (x : LaneCtl) : (parkLane x).1.runList = x.runList := by
  unfold parkLane; split <;> rfl

theorem releaseLane_runList (x : LaneCtl) : (releaseLane x).1.runList = x.runList := by
  unfold releaseLane; (repeat' split) <;> rfl

section
variable {P : State → Prop} (h : SheetKeeps P) {s : State}
include h

/-! ## Counts and measurements (R2, R6, R57 to R65) -/

theorem sheetKeeps_lanes {t : State} (hs : P s)
    (hf : t.web = s.web ∧ t.sheets = s.sheets ∧ t.items = s.items ∧ t.lane = s.lane) : P t :=
  h.same (sameSheets_of_lanes hf) hs

theorem sheetKeeps_frame {t : State} (hs : P s) (hl : LanesKept s t)
    (hf : t.web = s.web ∧ t.sheets = s.sheets ∧ t.items = s.items) : P t :=
  h.same (sameSheets_of_frame hf hl) hs

theorem carries_of_sheetKeeps : Carries (fun _ => True) P where
  aside ha hs := sheetKeeps_lanes h hs ⟨ha.web, ha.sheets, ha.items, ha.lane⟩
  pulse d c _ hs := by
    unfold stepPhase
    split
    · exact h.hand c _ (sheetKeeps_lanes h hs (by simp))
    · exact hs

theorem sheetKeeps_stepBoth (d : TrimDir) (hs : P s) : P (stepBoth d s) := by
  unfold stepBoth
  split
  · exact h.hand .e _ (h.hand .f _ (sheetKeeps_lanes h hs ⟨rfl, rfl, rfl, rfl⟩))
  · exact hs

theorem countKeeps_of_sheetKeeps : CountKeeps P where
  aside ht hs := sheetKeeps_lanes h hs ⟨ht.web, ht.sheets, ht.items, ht.lane⟩
  measure _ k r b due hs := carries_measure (carries_of_sheetKeeps h) trivial k r b due hs
  web {s} _ _ hstopped _ hs := h.same (s := s) ⟨rfl, rfl, rfl, hstopped, fun _ => rfl, fun _ => rfl⟩ hs
  level x b hs := sheetKeeps_lanes h hs (by cases x <;> exact ⟨rfl, rfl, rfl, rfl⟩)
  both d hs := sheetKeeps_stepBoth h d hs
  publish hs := sheetKeeps_lanes h hs (by simp)
  lanes {s} hs := sheetKeeps_frame h hs (lanesKept_lanesCount s) (by simp)

/-! ## The events of the blocks -/

theorem sheetKeeps_indexArrival (c : Cyl) (hs : P s) : P (indexArrival c s) := by
  have hphase (p : Phase) : P (s.setPhase c p) := sheetKeeps_lanes h hs (by simp)
  have hstepped (o : PhaseOut) : P (handStep c o (s.setPhase c o.phase)) := h.hand c o (hphase _)
  unfold indexArrival takeIndex
  split
  · next p _ _ _ =>
    exact sheetKeeps_lanes h (hstepped (indexStep p.lSub (p.throw c) (s.phase.get c))) (by simp)
  · exact hphase _

theorem sheetKeeps_spaceEnd (c : Cyl) (hs : P s) : P (spaceEnd c s) := by
  have hnow (due : Nat) : P (s.reachTime due) := sheetKeeps_lanes h hs (by simp)
  unfold spaceEnd
  dsimp only
  (repeat' split)
  · exact sheetKeeps_lanes h hs (by simp)
  · exact carries_emitPulse (carries_of_sheetKeeps h) trivial (hnow _)
  · exact hs

theorem sheetKeeps_event {f : State → State} (hf : BlockEvent f) (hs : P s) : P (f s) := by
  have hcount := countKeeps_of_sheetKeeps h
  cases hf with
  | encoder a b => exact kept_encoderTransition hcount a b hs
  | gate => exact h.gate hs
  | index c => exact sheetKeeps_indexArrival h c hs
  | rise x => exact kept_markRise hcount x hs
  | fall x => exact kept_markFall hcount x hs
  | space c => exact sheetKeeps_spaceEnd h c hs
  | stepTime c =>
    unfold stepTimeEnd
    dsimp only
    split <;> exact sheetKeeps_lanes h hs (by simp)
  | confirm high x => exact sheetKeeps_frame h hs (lanesKept_confirmEdge high x s) (by simp)
  | engageTimer c =>
    refine sheetKeeps_frame h hs (lanesKept_engageExpiry c s) ?_
    unfold engageExpiry engageTimeout stopDwellOf
    dsimp only
    (repeat' split) <;> simp
  | releaseTimer c =>
    refine sheetKeeps_frame h hs (lanesKept_releaseExpiry c s) ?_
    unfold releaseExpiry releaseTimeout
    split <;> simp
  | dwell =>
    refine sheetKeeps_frame h hs (lanesKept_stopDwellExpiry s) ?_
    unfold stopDwellExpiry
    split <;> simp
  | motion l => exact h.same (sameSheets_setLane rfl) hs
  | checkTimer l =>
    refine sheetKeeps_frame h hs (lanesKept_checkExpiry l s) ?_
    unfold checkExpiry checkStep
    dsimp only
    (repeat' split) <;> simp
  | runtime => exact h.runtime hs
  | full p => exact h.full p hs

/-! ## The operations of the requests -/

theorem sheetKeeps_configWrite (i : Item) (v : Nat) (hs : P s) :
    P (configWriteWith i (writeItem i v) s).1 := h.same (sameSheets_noteWrite _ _) (h.write i v hs)

theorem sheetKeeps_disengageReq (b : Byte) (hs : P s) : P (disengageReq b s).1 := by
  unfold disengageReq
  split
  · exact hs
  · next cs _ =>
    have hbeside := beside_disengageCyls cs s
    exact sheetKeeps_frame h hs (lanesKept_disengageCyls cs s)
      ⟨hbeside.web, hbeside.sheets, hbeside.items⟩

/-- R169: what any request does. -/
theorem sheetKeeps_requestOp {op : State → State × Reply} (hop : RequestOp op) (hs : P s) : P (op s).1 := by
  have hstaged (x : Staged) : P { s with sheets := { s.sheets with staged := x } } :=
    h.same (sameSheets_staged s x) hs
  have hlane {l : Lane} {x : LaneCtl} (hx : x.runList = (s.lane.get l).runList) : P (s.setLane l x) :=
    h.same (sameSheets_setLane hx) hs
  have hloop (c : Cyl) (x : Loop) : P (s.setLoop c x) := sheetKeeps_lanes h hs (by simp)
  cases hop with
  | reads hread => rw [hread]; exact hs
  | write i v => exact sheetKeeps_configWrite h i v hs
  | writeNumber n v =>
    unfold configWriteNumber
    split
    · exact sheetKeeps_configWrite h _ _ hs
    · exact hs
  | curve l as =>
    unfold curveWriteReq
    split
    · exact hs
    · refine persists_withLane (fun l => ?_) hs
      dsimp only
      split
      · exact h.same (sameSheets_noteWrite .ok _) (h.curve l _ hs)
      · exact hs
  | params =>
    unfold sheetParamWrite
    split
    · exact hstaged _
    · exact hs
  | windows =>
    unfold windowWrite
    (repeat' split)
    · exact hs
    · exact hs
    · exact hstaged _
  | edit =>
    unfold windowEdit
    split
    · exact hs
    · exact hstaged _
  | copyBack =>
    unfold sheetCopyBack
    split
    · exact hstaged _
    · exact hs
  | clearSheet => exact hstaged _
  | commit => exact h.commit hs
  | engage =>
    exact persists_withCyl (fun c => sheetKeeps_frame h hs (lanesKept_engageCyl c s) (by simp)) hs
  | disengage b => exact sheetKeeps_disengageReq h b hs
  | loopMode =>
    refine persists_withCyl (fun c => ?_) hs
    dsimp only
    (repeat' split)
    · exact hs
    · exact hs
    · exact hloop c _
  | nudge => exact persists_withCyl (fun c => hloop c _) hs
  | trimMove =>
    exact persists_withCyl (fun c => carries_commitTrim (carries_of_sheetKeeps h) trivial _ hs) hs
  | trimZero =>
    refine persists_withCyl (fun c => ?_) hs
    dsimp only
    split
    · exact hloop c _
    · exact hs
  | park => exact persists_withLane (fun l => hlane (parkLane_runList _)) hs
  | release => exact persists_withLane (fun l => hlane (releaseLane_runList _)) hs
  | roll =>
    refine persists_withLane (fun l => ?_) hs
    dsimp only
    split
    · exact hlane rfl
    · exact hlane rfl
    · exact hlane rfl
    all_goals exact hs
  | check =>
    refine persists_withLane (fun l => ?_) hs
    dsimp only
    split
    · exact hlane rfl
    · exact hs
  | flush => exact sheetKeeps_lanes h hs ⟨rfl, rfl, rfl, rfl⟩
  | clearFaults =>
    unfold faultClearReq
    split
    · exact hs
    · exact sheetKeeps_lanes h hs ⟨rfl, rfl, rfl, rfl⟩
  | clearCounters => exact h.same (sameSheets_clearCounters s) hs
  | restart =>
    unfold restartReq
    (repeat' split)
    · exact sheetKeeps_lanes h hs ⟨rfl, rfl, rfl, rfl⟩
    · exact sheetKeeps_lanes h hs ⟨rfl, rfl, rfl, rfl⟩
    · exact hs

/-- What the operations that reach the sheets keep, every step keeps. -/
theorem sheetKeeps_step {t : State} (hstep : step s = .next t) (hs : P s) : P t :=
  kept_by_step (fun _ hs => sheetKeeps_lanes h hs ⟨rfl, rfl, rfl, rfl⟩)
    (fun _ _ hs => sheetKeeps_lanes h hs ⟨rfl, rfl, rfl, rfl⟩)
    (sheetKeeps_requestOp h) (sheetKeeps_event h) hstep hs

end

end Sys2Proof.Proofs
end

section
/-! The pending sheet stays the newest, on a moving web with a sheet of its length in force (R107, R109, R113). -/
namespace Sys2Proof.Proofs

open Sys2Proof.Machine Sys2Proof.Safety

/-- R109: a generation that may be assigned. -/
def GenSound (sh : Sheet) : Prop := 1 ≤ sh.gen ∧ sh.gen ≤ 65535

theorem succGen_sound (g : Nat) : 1 ≤ succGen g ∧ succGen g ≤ 65535 := by
  unfold succGen; split <;> omega

theorem committed_genSound (s : State) : GenSound (committed s) := by
  have hgen : (committed s).gen = nextGen s.sheets.lastGen s.sheets.active := rfl
  unfold GenSound
  rw [hgen]
  unfold nextGen
  split <;> exact succGen_sound _

/-- No sheet waits, and the one in force has a generation. -/
theorem pendingSound_of_none {s : State} (hw : s.sheets.pending = none)
    (ha : ∀ sh, s.sheets.active = some sh → GenSound sh) : PendingSound s := by
  refine ⟨fun p hp => ?_, fun sh hsh => ?_⟩
  · rw [hw] at hp; cases hp
  · rcases hsh with hsh | hsh
    · exact ha sh hsh
    · rw [hw] at hsh; cases hsh

section
variable {s t : State} (h : PendingSound s)
include h

theorem pendingSound_of_same (hactive : t.sheets.active = s.sheets.active)
    (hwaits : t.sheets.pending = s.sheets.pending) (hlast : t.sheets.lastGen = s.sheets.lastGen)
    (hstopped : t.web.stopped = s.web.stopped) : PendingSound t := by
  unfold PendingSound
  rw [hactive, hwaits, hlast, hstopped]
  exact h

theorem pendingSound_of_frame (hf : t.web = s.web ∧ t.sheets = s.sheets) : PendingSound t :=
  pendingSound_of_same h (by rw [hf.2]) (by rw [hf.2]) (by rw [hf.2]) (by rw [hf.1])

theorem genSound_of_pendingSound {sh : Sheet}
    (hsh : s.sheets.active = some sh ∨ s.sheets.pending = some sh) : GenSound sh := h.2 sh hsh

/-- R113, R114: the sheet that waited has come into force, and none waits. -/
theorem pendingSound_of_swapped {p : Sheet} (hp : s.sheets.pending = some p)
    (ht : t.sheets = { s.sheets with active := some p, pending := none }) : PendingSound t := by
  refine pendingSound_of_none (by rw [ht]) fun sh hsh => ?_
  rw [ht] at hsh
  exact Option.some.inj hsh ▸ genSound_of_pendingSound h (.inr hp)

theorem pendingSound_swapPending : PendingSound (swapPending s) := by
  cases hp : s.sheets.pending with
  | none => rw [swapPending_none hp]; exact h
  | some p => rw [swapPending_some hp]; exact pendingSound_of_swapped h hp (swapTo_sheets p s)

theorem pendingSound_handStep (c : Cyl) (o : PhaseOut) : PendingSound (handStep c o s) := by
  have hbound : PendingSound (if o.boundary then handBoundary c s else s) := by
    split
    · cases c with
      | f => exact pendingSound_of_frame (pendingSound_swapPending h) (by simp [handBoundary])
      | e => exact h
    · exact h
  rw [handStep_eq]
  exact pendingSound_of_frame hbound (by simp)

/-- R113: a sheet that waits does so on a moving web, so the gate end that finds the web stopped swaps it. -/
theorem pendingSound_gateEnd : PendingSound (gateEnd s) := by
  rw [gateEnd_eq]
  have hweb (b : Bool) : (gateEndSeqs b (gated s)).web = (gated s).web := by simp
  have hsheets (b : Bool) : (gateEndSeqs b (gated s)).sheets = s.sheets := by simp [gated]
  cases hp : s.sheets.pending with
  | none =>
    rw [gateEndStore_kept (.inr (by rw [hsheets, hp]))]
    exact pendingSound_of_none (by rw [hsheets, hp]) fun sh hsh =>
      genSound_of_pendingSound h (.inl (hsheets _ ▸ hsh))
  | some p =>
    obtain ⟨-, hmoving, -⟩ := h.1 p hp
    cases hstop : (gated s).web.stopped with
    | true =>
      rw [hmoving, show (true != false) = true from rfl,
        gateEndStore_swaps (by rw [hweb, hstop]) (by rw [hsheets, hp])]
      exact pendingSound_of_swapped h hp (by rw [swapTo_sheets, hsheets])
    | false =>
      rw [gateEndStore_kept (.inl (by rw [hweb, hstop, Bool.and_false]))]
      exact pendingSound_of_same h (by rw [hsheets]) (by rw [hsheets]) (by rw [hsheets])
        (by rw [hweb, hstop, hmoving])

theorem pendingSound_noteCommit (r : CommitRecord) : PendingSound (noteCommit r s) :=
  pendingSound_of_same h rfl rfl rfl rfl

/-- R107, R109, R110: a COMMIT that puts its sheet to wait assigns it the next generation, on a moving web with a
sheet of its length in force. -/
theorem pendingSound_commitSheet : PendingSound (commitSheet s).1 := by
  cases hpass : commitCheck s.sheets.staged s.items with
  | some r => rw [commitSheet_invalid hpass]; exact pendingSound_noteCommit h _
  | none =>
    cases hrun : commitRunning s with
    | true => rw [commitSheet_running hpass hrun]; exact pendingSound_noteCommit h _
    | false =>
      by_cases hforce : s.sheets.active = none ∨ s.web.stopped = true
      · rw [commitSheet_inForce hpass hforce]
        refine pendingSound_noteCommit (pendingSound_of_none (by simp) fun sh hsh => ?_) _
        rw [swapTo_sheets] at hsh
        exact Option.some.inj hsh ▸ committed_genSound s
      · obtain ⟨hactive, hw⟩ := not_or.1 hforce
        obtain ⟨a, ha⟩ := Option.ne_none_iff_exists'.1 hactive
        have hmoving := eq_false_of_ne_true hw
        rw [commitSheet_waits hpass ha hmoving hrun]
        refine pendingSound_noteCommit ⟨fun p hp => ?_, fun sh hsh => ?_⟩ _
        · obtain rfl := Option.some.inj hp
          have hgen := nextGen_ne s.sheets.lastGen s.sheets.active
          rw [ha] at hgen
          exact ⟨rfl, hmoving, a, ha, fun hg => hgen (by rw [Option.map_some, hg, ← ha]; rfl),
            length_of_not_running hrun ha hmoving⟩
        · rcases hsh with hsh | hsh
          · exact genSound_of_pendingSound h (.inl hsh)
          · exact Option.some.inj hsh ▸ committed_genSound s

theorem pendingSound_writeItem (i : Item) (v : Nat) : PendingSound (writeItem i v s).1 := by
  rcases writeItem_taken_or_same i v s with ⟨-, -, hblock⟩ | hsame
  · obtain ⟨hweb, -, hsheets, -⟩ := hblock.rest
    exact pendingSound_of_frame h ⟨hweb, hsheets⟩
  · rw [hsame]; exact h

/-- R118: a RUNTIME reset drops the sheet that waits. -/
theorem pendingSound_runtimeReset : PendingSound (runtimeReset s) :=
  pendingSound_of_none rfl fun _ hsh => genSound_of_pendingSound h (.inl hsh)

end

theorem sheetKeeps_pendingSound : SheetKeeps PendingSound where
  same hs h := pendingSound_of_same h hs.active hs.waiting hs.lastGen hs.stopped
  hand c o h := pendingSound_handStep h c o
  gate := pendingSound_gateEnd
  write i v h := pendingSound_writeItem h i v
  curve l as h := pendingSound_of_frame h (by simp [storeCurve])
  commit := pendingSound_commitSheet
  runtime := pendingSound_runtimeReset
  full p _ := pendingSound_of_none rfl (fun _ hsh => by cases hsh)

/-- Settles O16: a sheet waits only from a COMMIT on a moving web, and the boundary or stop that ends this swaps
it. -/
theorem stepKeepsPendingSheet : Obligations.StepKeepsPendingSheet :=
  fun _ _ h hstep => sheetKeeps_step sheetKeeps_pendingSound hstep h

end Sys2Proof.Proofs
end

section
/-! Compiled sheets and run lists stay sound (R108, R123, R124): a COMMIT compiles sound base spans, and whatever
changes a sheet, an item or a lead that a run list is built from builds the list anew. -/
namespace Sys2Proof.Proofs

open Sys2Proof.Machine Sys2Proof.Safety

/-- The compiled sheets held are sound. -/
def SpansSound (s : State) : Prop :=
  ∀ sh, s.sheets.active = some sh ∨ s.sheets.pending = some sh → sheetSound sh

/-- R124: a run list of a lane is sound against the active sheet; with no sheet active it is empty. -/
def ListSound (s : State) (l : Lane) (runs : List Span) : Prop :=
  (∀ sh, s.sheets.active = some sh →
    runsSound (sh.params.lSub / 256) (s.items.lane.get l).minDwell runs) ∧
  (s.sheets.active = none → runs = [])

theorem runListSound_iff {s : State} :
    RunListSound s ↔ SpansSound s ∧ ∀ l, ListSound s l (s.lane.get l).runList := by
  constructor
  · rintro ⟨hactive, hwaits, hruns, hnone⟩
    exact ⟨fun sh hsh => hsh.elim (hactive sh) (hwaits sh), fun l => ⟨fun sh => hruns sh l, fun h => hnone h l⟩⟩
  · rintro ⟨hspans, hlists⟩
    exact ⟨fun sh hsh => hspans sh (.inl hsh), fun sh hsh => hspans sh (.inr hsh),
      fun sh l => (hlists l).1 sh, fun h l => (hlists l).2 h⟩

theorem listSound_congr {s t : State} {l : Lane} {runs : List Span} (h : ListSound s l runs)
    (ha : t.sheets.active = s.sheets.active)
    (hd : (t.items.lane.get l).minDwell = (s.items.lane.get l).minDwell) : ListSound t l runs := by
  unfold ListSound
  rw [ha, hd]
  exact h

/-- R123: a list built anew. -/
theorem listSound_rebuilt {s : State} (h : SpansSound s) (l : Lane) (x : LaneCtl) :
    ListSound s l (rebuilt s l x).runList := by
  constructor
  · intro sh hsh
    have hbuilt := rebuilt_active hsh l x
    dsimp only at hbuilt
    rw [hbuilt]
    exact buildRuns_sound (h sh (.inl hsh) l) _ _ _
  · intro hnone
    have hspans : s.spans l = [] := by simp [State.spans, hnone]
    unfold rebuilt
    rw [hspans]
    rfl

theorem parkAdvance_runList (timeout : Nat) (x : LaneCtl) :
    (parkAdvance timeout x).1.runList = x.runList := by
  unfold parkAdvance
  dsimp only
  (repeat' split) <;> rfl

section
variable {s t : State}

/-! ## Lists built anew -/

theorem runListSound_rebuildAll (h : SpansSound s) : RunListSound (rebuildAll s) := by
  refine runListSound_iff.2 ⟨h, fun l => ?_⟩
  rw [rebuildAll_get]
  exact listSound_rebuilt h l _

/-- One lane's list built anew, with the items that the others read as they were. -/
theorem runListSound_rebuildLane {l : Lane} (h : SpansSound s)
    (hother : ∀ m, m ≠ l → ListSound s m (s.lane.get m).runList) : RunListSound (rebuildLane l s) := by
  refine runListSound_iff.2 ⟨h, fun m => ?_⟩
  unfold rebuildLane
  rw [setLane_lane, PerLane.get_set]
  split
  · next hm => subst hm; exact listSound_rebuilt h m _
  · next hm => exact hother m hm

theorem runListSound_lanesBoundary (h : SpansSound s) : RunListSound (lanesBoundary s) := by
  have hsheets : (lanesBoundary s).sheets = s.sheets := by simp
  have hitems : (lanesBoundary s).items = s.items := by simp
  refine runListSound_iff.2 ⟨by unfold SpansSound; rw [hsheets]; exact h, fun l => ?_⟩
  rw [lanesBoundary_get, boundaryLane, parkAdvance_runList]
  exact listSound_congr (listSound_rebuilt h l _) (by rw [hsheets]) (by rw [hitems])

/-- R114, R123: a sound sheet comes into force, and every list is built from it. -/
theorem runListSound_swapTo {sh : Sheet} (h : sheetSound sh) (s : State) : RunListSound (swapTo sh s) := by
  have hsheets := swapTo_sheets sh s
  rw [swapTo_eq] at hsheets ⊢
  refine runListSound_rebuildAll fun x hx => ?_
  simp only [rebuildAll_frame] at hsheets
  rw [hsheets] at hx
  rcases hx with hx | hx
  · exact Option.some.inj hx ▸ h
  · cases hx

/-! ## What leaves the lists, and the swaps -/

section
variable (h : RunListSound s)
include h

theorem spansSound_of_runListSound : SpansSound s := (runListSound_iff.1 h).1

theorem runListSound_of_same (hactive : t.sheets.active = s.sheets.active)
    (hwaits : t.sheets.pending = s.sheets.pending)
    (hdwell : ∀ l, (t.items.lane.get l).minDwell = (s.items.lane.get l).minDwell)
    (hlist : ∀ l, (t.lane.get l).runList = (s.lane.get l).runList) : RunListSound t := by
  obtain ⟨hspans, hlists⟩ := runListSound_iff.1 h
  refine runListSound_iff.2 ⟨fun sh hsh => hspans sh (by rwa [hactive, hwaits] at hsh), fun l => ?_⟩
  rw [hlist]
  exact listSound_congr (hlists l) hactive (hdwell l)

theorem runListSound_of_frame (hf : t.sheets = s.sheets ∧ t.items = s.items) (hl : LanesKept s t) :
    RunListSound t :=
  runListSound_of_same h (by rw [hf.1]) (by rw [hf.1]) (fun l => by rw [hf.2]) fun l => (hl l).2.2

theorem runListSound_swapPending : RunListSound (swapPending s) := by
  cases hp : s.sheets.pending with
  | none => rw [swapPending_none hp]; exact h
  | some p =>
    rw [swapPending_some hp]
    exact runListSound_swapTo (spansSound_of_runListSound h p (.inr hp)) s

theorem runListSound_handStep (c : Cyl) (o : PhaseOut) : RunListSound (handStep c o s) := by
  have hbound : RunListSound (if o.boundary then handBoundary c s else s) := by
    split
    · cases c with
      | f => exact runListSound_lanesBoundary (spansSound_of_runListSound (runListSound_swapPending h))
      | e => exact h
    · exact h
  rw [handStep_eq]
  exact runListSound_of_frame hbound (by simp) (lanesKept_of_eq (by simp))

theorem runListSound_gateEnd : RunListSound (gateEnd s) := by
  have hseqs (b : Bool) : RunListSound (gateEndSeqs b (gated s)) :=
    runListSound_of_frame h (by simp [gated])
      (lanesKept_trans (lanesKept_of_eq rfl) (lanesKept_gateEndSeqs b (gated s)))
  rw [gateEnd_eq]
  unfold gateEndStore
  split
  · exact runListSound_swapPending (hseqs _)
  · exact hseqs _

/-! ## COMMIT (R106, R108) -/

theorem runListSound_noteCommit (r : CommitRecord) : RunListSound (noteCommit r s) :=
  runListSound_of_same h rfl rfl (fun _ => rfl) fun _ => rfl

theorem runListSound_commitSheet : RunListSound (commitSheet s).1 := by
  cases hpass : commitCheck s.sheets.staged s.items with
  | some r => rw [commitSheet_invalid hpass]; exact runListSound_noteCommit h _
  | none =>
    have hsound : sheetSound (committed s) := sheetSound_of_pass hpass _
    cases hrun : commitRunning s with
    | true => rw [commitSheet_running hpass hrun]; exact runListSound_noteCommit h _
    | false =>
      by_cases hforce : s.sheets.active = none ∨ s.web.stopped = true
      · rw [commitSheet_inForce hpass hforce]
        exact runListSound_noteCommit (runListSound_swapTo hsound _) _
      · obtain ⟨hactive, hw⟩ := not_or.1 hforce
        obtain ⟨a, ha⟩ := Option.ne_none_iff_exists'.1 hactive
        obtain ⟨hspans, hlists⟩ := runListSound_iff.1 h
        rw [commitSheet_waits hpass ha (eq_false_of_ne_true hw) hrun]
        apply runListSound_noteCommit
        refine runListSound_iff.2 ⟨fun sh hsh => ?_, hlists⟩
        rcases hsh with hsh | hsh
        · exact hspans sh (.inl hsh)
        · exact Option.some.inj hsh ▸ hsound

/-! ## Writes of items, leads and resets (R118, R122, R124) -/

theorem runListSound_storeCurve (l : Lane) (as : List Nat) : RunListSound (storeCurve l as s) := by
  obtain ⟨hspans, hlists⟩ := runListSound_iff.1 h
  unfold storeCurve
  refine runListSound_rebuildLane hspans fun m hm => ?_
  rw [setLane_lane, PerLane.get_set_ne _ _ hm]
  exact listSound_congr (hlists m) rfl (by simp [PerLane.get_set_ne _ _ hm])

/-- R124: run-out and min dwell rebuild the list; no other lane item enters one. -/
theorem runListSound_writeLane (i : LaneItem) (l : Lane) (v : Nat) :
    RunListSound (writeLane i l v s).1 := by
  obtain ⟨hspans, hlists⟩ := runListSound_iff.1 h
  rw [writeLane_eq]
  split
  · exact h
  · dsimp only
    split
    · refine runListSound_rebuildLane hspans fun m hm => ?_
      exact listSound_congr (hlists m) rfl (by simp [PerLane.get_set_ne _ _ hm])
    · next hi =>
      refine runListSound_of_same h rfl rfl (fun m => ?_) fun _ => rfl
      simp only [PerLane.get_set]
      split
      · next hm => subst hm; cases i <;> simp_all [putLane]
      · rfl

omit h in
/-- R120: a mapping that changes leaves the run lists. -/
theorem writeMapping_runList (l : Lane) (v : Nat) (s : State) (m : Lane) :
    ((writeMapping l v s).1.lane.get m).runList = (s.lane.get m).runList := by
  have hremap (d : Option Drive) : ((remap l d s).lane.get m).runList = (s.lane.get m).runList := by
    unfold remap
    dsimp only
    split
    · rfl
    · rw [setDir_frame, setDir_frame]
      dsimp only
      rw [setLane_lane, PerLane.get_set]
      split
      · next hm => subst hm; split <;> rfl
      · rfl
  unfold writeMapping
  dsimp only
  (repeat' split)
  · rfl
  · rfl
  · rfl
  · rfl
  · exact hremap _

theorem runListSound_writeItem (i : Item) (v : Nat) : RunListSound (writeItem i v s).1 := by
  by_cases hlane : ∃ j l, i = .lane j l
  · obtain ⟨j, l, rfl⟩ := hlane
    exact runListSound_writeLane h j l v
  rcases writeItem_taken_or_same i v s with ⟨-, hput, hblock⟩ | hsame
  · obtain ⟨-, -, hsheets, -⟩ := hblock.rest
    refine runListSound_of_same h (by rw [hsheets]) (by rw [hsheets]) (fun l => ?_) fun l => ?_
    · exact hput.2 (.lane .minDwell l) fun hi => hlane ⟨_, _, hi.symm⟩
    · have hlanes := hblock.lane
      cases i with
      | lane j k => exact absurd ⟨j, k, rfl⟩ hlane
      | mapping k => exact writeMapping_runList k v s l
      | _ => exact congrArg (fun p => (p.get l).runList) hlanes.1
  · rw [hsame]; exact h

/-- R118: a RUNTIME reset drops the sheet that waits and builds every list anew. -/
theorem runListSound_runtimeReset : RunListSound (runtimeReset s) := by
  refine runListSound_rebuildAll fun sh hsh => ?_
  rcases hsh with hsh | hsh
  · exact spansSound_of_runListSound h sh (.inl hsh)
  · cases hsh

end

theorem runListSound_fullReset (p : PinLevels) (s : State) : RunListSound (fullReset p s) := by
  obtain ⟨-, -, hruns⟩ := sheets_reset
  exact runListSound_of_same hruns rfl rfl (fun _ => rfl) fun _ => rfl

end

theorem sheetKeeps_runListSound : SheetKeeps RunListSound where
  same hs h := runListSound_of_same h hs.active hs.waiting hs.minDwell hs.runList
  hand c o h := runListSound_handStep h c o
  gate := runListSound_gateEnd
  write i v h := runListSound_writeItem h i v
  curve l as h := runListSound_storeCurve h l as
  commit := runListSound_commitSheet
  runtime := runListSound_runtimeReset
  full p _ := runListSound_fullReset p _

/-- Settles O20: merging sorted spans leaves them sorted and apart, and no other operation changes a list. -/
theorem stepKeepsRunLists : Obligations.StepKeepsRunLists :=
  fun _ _ h hstep => sheetKeeps_step sheetKeeps_runListSound hstep h

end Sys2Proof.Proofs
end

section
/-! The requests that write the staged sheet whole (R97, R104, R105). -/
namespace Sys2Proof.Proofs

open Sys2Proof.Machine Sys2Proof.Safety Sys2Proof.Laws

/-- R97: the use and reference bytes within their fields hold the cylinders used and the emboss reference. -/
theorem sheetParamWrite_ok (lSub tF tE : BitVec 24) (throwF throwE : BitVec 16) (usesF usesE foil : Bool)
    (s : State) : sheetParamWrite lSub tF tE throwF throwE
        (BitVec.ofNat 8 (usesF.toNat + 2 * usesE.toNat)) (BitVec.ofNat 8 foil.toNat) s =
      ({ s with sheets := { s.sheets with staged := { s.sheets.staged with params :=
          { lSub := lSub.toNat, tF := tF.toNat, tE := tE.toNat, throwF := throwF.toNat,
            throwE := throwE.toNat, usesF := usesF, usesE := usesE,
            ref := if foil then .foil else .print } } } }, ⟨.ok, []⟩) := by
  cases usesF <;> cases usesE <;> cases foil <;> rfl

theorem sheetParamWrite_refused (lSub tF tE : BitVec 24) (throwF throwE : BitVec 16) {use ref : Byte}
    (h : 4 ≤ use.toNat ∨ 2 ≤ ref.toNat) (s : State) :
    sheetParamWrite lSub tF tE throwF throwE use ref s = (s, ⟨.badValue, []⟩) :=
  if_neg (by omega)

/-- R105, R106: the emptied staged sheet fails COMMIT at its first check. -/
theorem commitCheck_emptyStaged (it : Items) : commitCheck emptyStaged it = some (1, 255) := rfl

theorem exec_sheetClear {s : State} (h : Ready s) : exec .sheetClear s =
    .next (answered 0x15 ⟨.ok, []⟩ { s with sheets := { s.sheets with staged := emptyStaged } }) :=
  congrArg Host.Outcome.next (hostRequest_answered h 0x15 (op := sheetClear) rfl rfl)

/-- Settles O43: each request is its operation on the staged sheet, and the Link Port's answer. -/
theorem stagedSheetRequests : Obligations.StagedSheetRequests := by
  intro s h
  refine ⟨fun lSub tF tE throwF throwE usesF usesE foil => ?_,
    fun lSub tF tE throwF throwE use ref hbad => ?_, exec_sheetClear h, fun t ht => ?_,
    fun sh hsh => ?_, fun hnone => ?_⟩
  · exact congrArg Host.Outcome.next
      (hostRequest_answered h 0x10 (sheetParamWrite_ok lSub tF tE throwF throwE usesF usesE foil _) rfl)
  · exact congrArg Host.Outcome.next
      (hostRequest_answered h 0x10 (sheetParamWrite_refused lSub tF tE throwF throwE hbad _) rfl)
  · rw [exec_sheetClear h] at ht
    cases ht
    exact commitCheck_emptyStaged s.items
  · refine congrArg Host.Outcome.next (hostRequest_answered h 0x14 (op := sheetCopyBack) ?_ rfl)
    simp [sheetCopyBack, heard, hsh]
  · refine congrArg Host.Outcome.next (hostRequest_answered h 0x14 (op := sheetCopyBack) ?_ rfl)
    simp [sheetCopyBack, heard, hnone]

end Sys2Proof.Proofs
end

section
/-! WINDOW WRITE (R99, R100): an entry's bytes, and the walk that stores the good entries in order. -/
namespace Sys2Proof.Proofs

open Sys2Proof.Machine Sys2Proof.Safety Sys2Proof.Laws

/-! ## One entry's bytes (R99, R100) -/

theorem ofByte_laneByte (l : Lane) : Lane.ofByte (laneByte l) = some l := by cases l <;> rfl

theorem laneByte_ne_255 (l : Lane) : laneByte l ≠ 255 := by cases l <;> decide

theorem lane_ofByte_none {b : Byte} (h : 4 ≤ b.toNat) : Lane.ofByte b = none := by
  have hne : ∀ c : Byte, c.toNat < 4 → b ≠ c := fun c hc he => by subst he; omega
  rw [Lane.ofByte, if_neg (hne 0 (by decide)), if_neg (hne 1 (by decide)), if_neg (hne 2 (by decide)),
    if_neg (hne 3 (by decide))]

theorem entryOf_vacant {b : WindowBytes} (h : b.lane = 255) : entryOf b = some none := if_pos h

theorem entryOf_good {b : WindowBytes} {l : Lane} (hlane : b.lane = laneByte l) (hlength : b.length ≠ 0)
    (htag : b.tag.toNat ≤ 15) (henabled : b.enabled.toNat ≤ 1) :
    entryOf b = some (some { lane := l, start := b.start.toNat, length := b.length.toNat,
                             tag := b.tag.toNat, enabled := b.enabled == 1 }) := by
  have hpos : b.length.toNat ≠ 0 := fun h => hlength (BitVec.eq_of_toNat_eq h)
  have hgood : ¬ (b.length.toNat = 0 ∨ 15 < b.tag.toNat ∨ 1 < b.enabled.toNat) := by omega
  simp only [entryOf, hlane, ofByte_laneByte, if_neg (laneByte_ne_255 l), if_neg hgood]

theorem entryOf_bad {b : WindowBytes} (hlane : b.lane ≠ 255)
    (h : 4 ≤ b.lane.toNat ∨ b.length = 0 ∨ 16 ≤ b.tag.toNat ∨ 2 ≤ b.enabled.toNat) :
    entryOf b = none := by
  unfold entryOf
  rw [if_neg hlane]
  cases hl : Lane.ofByte b.lane with
  | none => rfl
  | some l =>
    have hlt : ¬ 4 ≤ b.lane.toNat := fun h4 => by simp [lane_ofByte_none h4] at hl
    have hbad : b.length.toNat = 0 ∨ 15 < b.tag.toNat ∨ 1 < b.enabled.toNat := by
      obtain h4 | h0 | h16 | h2 := h
      · exact absurd h4 hlt
      · exact .inl (by simp [h0])
      · exact .inr (.inl (by omega))
      · exact .inr (.inr (by omega))
    exact if_pos hbad

/-! ## The walk (R100) -/

/-- The table with the entries of a run stored from an index on. -/
def storedAt (index : Nat) (run table : List (Option Window)) : List (Option Window) :=
  table.take index ++ run ++ table.drop (index + run.length)

theorem storedAt_nil (index : Nat) (table : List (Option Window)) : storedAt index [] table = table := by
  simp [storedAt]

/-- An entry stored, then a run behind it, is the run that begins with the entry. -/
theorem storedAt_set (index : Nat) (w : Option Window) (run table : List (Option Window))
    (h : index < table.length) :
    storedAt (index + 1) run (table.set index w) = storedAt index (w :: run) table := by
  have htake : (table.set index w).take (index + 1) = table.take index ++ [w] := by
    rw [List.take_set, List.take_add_one, List.getElem?_eq_getElem h, Option.toList_some,
      List.set_append_right _ _ (by simp), List.length_take, Nat.min_eq_left h.le, Nat.sub_self]
    rfl
  simp [storedAt, htake, List.drop_set_of_lt, Nat.add_assoc, Nat.add_comm 1,
    show index < index + (run.length + 1) by omega]

/-- R100: the good entries at the front are stored one after another, and the walk goes on behind them. -/
theorem storeEntries_good (good : List (WindowBytes × Option Window)) (rest : List WindowBytes)
    (index stored : Nat) (table : List (Option Window)) (hlen : table.length = 48)
    (hfit : index + good.length ≤ 48) (hgood : ∀ e ∈ good, entryOf e.1 = some e.2) :
    storeEntries index stored table (good.map (·.1) ++ rest) =
      storeEntries (index + good.length) (stored + good.length)
        (storedAt index (good.map (·.2)) table) rest := by
  induction good generalizing index stored table with
  | nil => simp [storedAt_nil]
  | cons e good ih =>
    obtain ⟨he, hrest⟩ := List.forall_mem_cons.1 hgood
    rw [List.length_cons] at hfit
    have hroom : ¬ Config.windowSlots ≤ index := by
      simp only [Config.windowSlots]
      omega
    have hone : storeEntries index stored table (e.1 :: (good.map (·.1) ++ rest)) =
        storeEntries (index + 1) (stored + 1) (table.set index e.2) (good.map (·.1) ++ rest) := by
      rw [storeEntries, if_neg hroom, he]
    rw [List.map_cons, List.cons_append, hone,
      ih (index + 1) (stored + 1) _ (by simpa using hlen) (by omega) hrest,
      List.map_cons, storedAt_set _ _ _ _ (by omega), List.length_cons]
    congr 1 <;> omega

/-- R100: the walk past the last index, with entries left over. -/
theorem storeEntries_part {index stored : Nat} {table : List (Option Window)} {rest : List WindowBytes}
    (h : rest ≠ []) (hend : index = 48) :
    storeEntries index stored table rest = (table, .part, stored) := by
  cases rest with
  | nil => exact absurd rfl h
  | cons b rest => exact if_pos hend.ge

/-- R100: the walk at an entry that it cannot store. -/
theorem storeEntries_bad {index stored : Nat} {table : List (Option Window)} {b : WindowBytes}
    (more : List WindowBytes) (hroom : index < 48) (hbad : entryOf b = none) :
    storeEntries index stored table (b :: more) = (table, .badValue, stored) := by
  rw [storeEntries, if_neg (by simp only [Config.windowSlots]; omega), hbad]

/-! ## The request -/

theorem windowWrite_refused {start : Byte} {es : List WindowBytes} (s : State) (h : 48 ≤ start.toNat)
    (h1 : 1 ≤ es.length) (h8 : es.length ≤ 8) :
    windowWrite start es s = (s, ⟨.badValue, [0]⟩) := by
  rw [windowWrite, if_neg (by omega), if_pos (by simpa only [Config.windowSlots] using h)]
  rfl

/-- R100: the table after the walk and the reply with its result and count. -/
theorem windowWrite_walk {start : Byte} {es : List WindowBytes} {s : State} {r : Result} {n : Nat}
    {table : List (Option Window)} (hstart : start.toNat < 48) (h1 : 1 ≤ es.length) (h8 : es.length ≤ 8)
    (hwalk : storeEntries start.toNat 0 s.sheets.staged.windows es = (table, r, n)) :
    windowWrite start es s = (s.setWindows table, ⟨r, natBytes 1 n⟩) := by
  rw [windowWrite, if_neg (by omega), if_neg (by simp only [Config.windowSlots]; omega), hwalk]

/-- R100: WINDOW WRITE as its frame meets the Link Port. -/
theorem exec_windowWrite_walk {start : Byte} {es : List WindowBytes} {s : State} {r : Result} {n : Nat}
    {table : List (Option Window)} (h : Ready s) (hstart : start.toNat < 48) (h1 : 1 ≤ es.length)
    (h8 : es.length ≤ 8)
    (hwalk : storeEntries start.toNat 0 s.sheets.staged.windows es = (table, r, n)) :
    exec (.windowWrite start es) s = .next (answered 0x11 ⟨r, natBytes 1 n⟩ (s.setWindows table)) :=
  congrArg Host.Outcome.next (hostRequest_answered h 0x11 (t := s.setWindows table)
    (windowWrite_walk (s := heard s) hstart h1 h8 hwalk) rfl)

/-- Settles O44: the good entries are stored in order, and the walk ends at the end of the list, past index 47
or at a bad entry. -/
theorem windowWriteStoresPrefix : Obligations.WindowWriteStoresPrefix := by
  refine ⟨fun b => ⟨entryOf_vacant, fun l => entryOf_good, entryOf_bad⟩,
    fun start es s h hstart h1 h8 => ?_, fun start good rest s h hlen hstart h1 h8 hfit hgood => ?_⟩
  · exact congrArg Host.Outcome.next
      (hostRequest_answered h 0x11 (windowWrite_refused (heard s) hstart h1 h8) rfl)
  · have hwalk := storeEntries_good good rest start.toNat 0 _ hlen hfit hgood
    rw [Nat.zero_add] at hwalk
    have hcount : (good.map (·.1) ++ rest).length = good.length + rest.length := by simp
    rw [← hcount] at h1 h8
    rw [show s.sheets.staged.windows.take start.toNat ++ good.map (·.2) ++
        s.sheets.staged.windows.drop (start.toNat + good.length) =
        storedAt start.toNat (good.map (·.2)) s.sheets.staged.windows by simp [storedAt]]
    refine ⟨fun hnil => ?_, fun hrest hend => ?_, fun b more hcons hroom hbad => ?_⟩
    · subst hnil
      exact exec_windowWrite_walk h hstart h1 h8 hwalk
    · exact exec_windowWrite_walk h hstart h1 h8 (hwalk.trans (storeEntries_part hrest hend))
    · subst hcons
      exact exec_windowWrite_walk h hstart h1 h8 (hwalk.trans (storeEntries_bad more hroom hbad))

end Sys2Proof.Proofs
end

section
/-! WINDOW EDIT (R102, R103, R182): its fields decoded, one window edited, and the counts of its reply. -/
namespace Sys2Proof.Proofs

open Sys2Proof.Machine Sys2Proof.Safety Sys2Proof.Laws

/-! ## The fields decoded (R182) -/

theorem ofNat_byte_toNat {n : Nat} (h : n ≤ 15) : (BitVec.ofNat 8 n).toNat = n := by
  rw [BitVec.toNat_ofNat]
  omega

/-- R182: the mask byte with a bit for each change. -/
def editMask (lane tag enabled shift : Bool) : Byte :=
  BitVec.ofNat 8 (lane.toNat + 2 * tag.toNat + 4 * enabled.toNat + 8 * shift.toNat)

theorem editMask_bits (a b c d : Bool) : (editMask a b c d).toNat < 16 ∧
    (editMask a b c d).getLsbD 0 = a ∧ (editMask a b c d).getLsbD 1 = b ∧
    (editMask a b c d).getLsbD 2 = c ∧ (editMask a b c d).getLsbD 3 = d := by
  revert a b c d
  decide

section
variable (laneC : Option Lane) {tagC : Option Nat} (enabledC : Option Bool)

theorem laneCondition_decoded :
    (if (laneC.map laneByte).getD 254 = 254 then some none
      else (Lane.ofByte ((laneC.map laneByte).getD 254)).map some) = some laneC := by
  cases laneC with
  | none => rfl
  | some l => cases l <;> rfl

theorem tagCondition_decoded (h : ∀ n, tagC = some n → n ≤ 15) :
    (if (tagC.map (BitVec.ofNat 8 ·)).getD 254 = (254 : Byte) then some none
      else if ((tagC.map (BitVec.ofNat 8 ·)).getD 254 : Byte).toNat ≤ 15 then
        some (some ((tagC.map (BitVec.ofNat 8 ·)).getD 254 : Byte).toNat)
      else none) = some tagC := by
  cases tagC with
  | none => rfl
  | some n =>
    have hn : (BitVec.ofNat 8 n).toNat = n := ofNat_byte_toNat (h n rfl)
    have hne : BitVec.ofNat 8 n ≠ 254 := fun he => by
      have := congrArg BitVec.toNat he
      rw [hn] at this
      have := h n rfl
      simp_all
    simp only [Option.map_some, Option.getD_some, if_neg hne, hn, if_pos (h n rfl)]

theorem enabledCondition_decoded :
    (if (enabledC.map fun b => BitVec.ofNat 8 b.toNat).getD 254 = (254 : Byte) then some none
      else (flagOf ((enabledC.map fun b => BitVec.ofNat 8 b.toNat).getD 254 : Byte).toNat).map some) =
      some enabledC := by
  cases enabledC with
  | none => rfl
  | some b => cases b <;> rfl

end

theorem laneChange_decoded {lane : Option (Option Lane)} {newLane : Byte}
    (h : ∀ x, lane = some x → newLane = match x with | some l => laneByte l | none => 255) :
    (if !lane.isSome then some none
      else if newLane = 255 then some (some none) else (Lane.ofByte newLane).map (some ∘ some)) =
      some lane := by
  cases lane with
  | none => rfl
  | some x =>
    obtain rfl := h x rfl
    cases x with
    | none => rfl
    | some l => cases l <;> rfl

theorem tagChange_decoded {tag : Option Nat} {newTag : Byte}
    (h : ∀ n, tag = some n → n ≤ 15 ∧ newTag = BitVec.ofNat 8 n) :
    (if !tag.isSome then some none
      else if newTag.toNat ≤ 15 then some (some newTag.toNat) else none) = some tag := by
  cases tag with
  | none => rfl
  | some n =>
    obtain ⟨hn, rfl⟩ := h n rfl
    simp [ofNat_byte_toNat hn, hn]

theorem enabledChange_decoded {enabled : Option Bool} {newEnabled : Byte}
    (h : ∀ b, enabled = some b → newEnabled = BitVec.ofNat 8 b.toNat) :
    (if !enabled.isSome then some none else (flagOf newEnabled.toNat).map some) = some enabled := by
  cases enabled with
  | none => rfl
  | some b =>
    obtain rfl := h b rfl
    cases b <;> rfl

theorem shiftChange_decoded {shift : Option (BitVec 16)} {delta : BitVec 16}
    (h : ∀ d, shift = some d → delta = d) :
    (if shift.isSome then some delta.toInt else none) = shift.map (·.toInt) := by
  cases shift with
  | none => rfl
  | some d => simp [h d rfl]

/-- The two branches of a field's test go on alike. -/
theorem ite_bind_option {α β : Type} (c : Prop) [Decidable c] (a b : Option α) (k : α → Option β) :
    (if c then a >>= k else b >>= k) = (if c then a else b) >>= k :=
  (apply_ite (· >>= k) c a b).symm

/-- R182: fields within their ranges decode to the edit that they spell. -/
theorem editOf_spelled {laneC : Option Lane} {tagC : Option Nat} {enabledC : Option Bool}
    {lane : Option (Option Lane)} {tag : Option Nat} {enabled : Option Bool}
    {shift : Option (BitVec 16)} {newLane newTag newEnabled : Byte} {delta : BitVec 16}
    (hc : ∀ n, tagC = some n → n ≤ 15)
    (ht : ∀ n, tag = some n → n ≤ 15 ∧ newTag = BitVec.ofNat 8 n)
    (hl : ∀ x, lane = some x → newLane = match x with | some l => laneByte l | none => 255)
    (he : ∀ b, enabled = some b → newEnabled = BitVec.ofNat 8 b.toNat)
    (hs : ∀ d, shift = some d → delta = d) :
    editOf ((laneC.map laneByte).getD 254) ((tagC.map (BitVec.ofNat 8 ·)).getD 254)
      ((enabledC.map fun b => BitVec.ofNat 8 b.toNat).getD 254)
      (editMask lane.isSome tag.isSome enabled.isSome shift.isSome) newLane newTag newEnabled delta =
      some { laneC := laneC, tagC := tagC, enabledC := enabledC, lane := lane, tag := tag,
             enabled := enabled, shift := shift.map (·.toInt) } := by
  obtain ⟨hm, h0, h1, h2, h3⟩ := editMask_bits lane.isSome tag.isSome enabled.isSome shift.isSome
  simp only [editOf, ite_bind_option, h0, h1, h2, h3, if_pos hm, laneCondition_decoded,
    tagCondition_decoded hc, enabledCondition_decoded, laneChange_decoded hl, tagChange_decoded ht,
    enabledChange_decoded he, shiftChange_decoded hs]
  rfl

/-! ## One window (R102, R103) -/

/-- R102: a window meets the three conditions. -/
def hit (ed : Edit) (w : Window) : Bool :=
  ed.laneC.all (w.lane == ·) && ed.tagC.all (w.tag == ·) && ed.enabledC.all (w.enabled == ·)

/-- R103: the start that the shift gives. -/
def shifted (ed : Edit) (w : Window) : Int := (w.start : Int) + ed.shift.getD 0

/-- R103: the shift would take the window out of [0, `lc`]. -/
def skips (ed : Edit) (lc : Int) (w : Window) : Bool :=
  ed.lane != some none && ed.shift.isSome &&
    (decide (shifted ed w < 0) || decide (lc < shifted ed w + w.length))

/-- R103: the entry that a matched window becomes. -/
def edited (ed : Edit) (lc : Int) (w : Window) : Option Window :=
  if ed.lane = some none then none
  else if skips ed lc w then some w
  else some { w with lane := ed.lane.join.getD w.lane, tag := ed.tag.getD w.tag,
                     enabled := ed.enabled.getD w.enabled, start := (shifted ed w).toNat }

/-- R102, R103: the entry that any entry becomes. -/
def editedEntry (ed : Edit) (lc : Int) : Option Window → Option Window
  | some w => if hit ed w then edited ed lc w else some w
  | none => none

theorem meets_eq_all {α : Type} [DecidableEq α] (c : Option α) (x : α) : meets c x = c.all (x == ·) := by
  cases c <;> rfl

theorem matched_eq_hit (ed : Edit) (w : Window) : matched ed w = hit ed w := by
  simp only [matched, hit, meets_eq_all]

/-- R103: the model's edit of a matched window: none when it is skipped, else its new entry. -/
theorem editWindow_eq (ed : Edit) (lc : Nat) (w : Window) :
    editWindow ed lc w = if skips ed lc w then none else some (edited ed lc w) := by
  unfold editWindow
  split
  next hvacant => simp [skips, edited, hvacant]
  next hlane =>
    have hlane : ed.lane ≠ some none := hlane
    have hjoin : ed.lane.getD none = ed.lane.join := by cases ed.lane <;> rfl
    have hskips : skips ed lc w = (ed.shift.isSome &&
        (decide (shifted ed w < 0) || decide ((lc : Int) < shifted ed w + w.length))) := by
      rw [skips, bne_iff_ne.2 hlane, Bool.true_and]
    by_cases hs : skips ed lc w = true
    · rw [if_pos hs]
      rw [hskips] at hs
      exact if_pos hs
    · have hs' := hs
      rw [hskips] at hs'
      rw [if_neg hs]
      refine (if_neg hs').trans ?_
      simp only [edited, if_neg hlane, if_neg hs, hjoin, shifted]

/-- R102, R103: one entry of the walk, with its part in each of the three counts. -/
theorem editEntry_eq (ed : Edit) (lc : Nat) (e : Option Window) :
    editEntry ed lc e = (editedEntry ed lc e, (e.any (hit ed)).toNat,
      (e.any fun w => hit ed w && edited ed lc w != some w).toNat,
      (e.any fun w => hit ed w && skips ed lc w).toNat) := by
  cases e with
  | none => rfl
  | some w =>
    simp only [editEntry, editedEntry, matched_eq_hit, editWindow_eq, Option.any_some]
    cases hh : hit ed w with
    | false => rfl
    | true =>
      cases hs : skips ed lc w with
      | false => simp
      | true =>
        have hlane : ed.lane ≠ some none := fun h => by simp [skips, h] at hs
        simp [edited, hlane, hs]

/-! ## The counts of the reply and the request -/

theorem sum_toNat_eq_countP {α : Type} (p : α → Bool) (xs : List α) :
    (xs.map fun x => (p x).toNat).sum = xs.countP p := by
  induction xs with
  | nil => rfl
  | cons x xs ih =>
    rw [List.map_cons, List.sum_cons, ih, List.countP_cons]
    cases p x <;> simp [Nat.add_comm]

/-- R102: the reply byte that counts the staged windows with a property. -/
def countByte (ws : List (Option Window)) (p : Window → Bool) : Byte :=
  BitVec.ofNat 8 (ws.countP fun e => e.any p)

theorem natBytes_countP (ws : List (Option Window)) (p : Window → Bool) :
    natBytes 1 (ws.map fun e => (e.any p).toNat).sum = [countByte ws p] := by
  rw [sum_toNat_eq_countP fun e : Option Window => e.any p]
  simp [natBytes, countByte]

/-- R102, R103: every staged entry edited, and the counts of the matched, the changed and the skipped. -/
def editResult (ed : Edit) (lc : Int) (s : State) : State × Reply :=
  let ws := s.sheets.staged.windows
  (s.setWindows (ws.map (editedEntry ed lc)),
    ⟨.ok, [countByte ws (hit ed), countByte ws fun w => hit ed w && edited ed lc w != some w,
      countByte ws fun w => hit ed w && skips ed lc w]⟩)

/-- R102, R103: WINDOW EDIT of a decoded edit. -/
theorem windowEdit_eq {laneC tagC enabledC mask newLane newTag newEnabled : Byte} {shift : BitVec 16}
    {ed : Edit} (h : editOf laneC tagC enabledC mask newLane newTag newEnabled shift = some ed) (s : State) :
    windowEdit laneC tagC enabledC mask newLane newTag newEnabled shift s =
      editResult ed (lcOf s.sheets.staged.params.lSub) s := by
  simp only [windowEdit, h, List.map_map, Function.comp_def, editEntry_eq, natBytes_countP,
    List.cons_append, List.nil_append]
  rfl

/-- Settles O45: the fields decode to the edit, and each entry of the table is edited on its own. -/
theorem windowEditChangesMatched : Obligations.WindowEditChangesMatched := by
  intro laneC tagC enabledC lane tag enabled shift newLane newTag newEnabled delta s h hc ht hl he hs
  have hedit := windowEdit_eq (editOf_spelled (laneC := laneC) (enabledC := enabledC) hc ht hl he hs)
    (heard s)
  refine (congrArg Host.Outcome.next
    (hostRequest_answered h 0x13 (t := (editResult _ _ s).1) hedit rfl)).trans ?_
  simp only [Bool.and_true]
  cases shift <;> rfl

end Sys2Proof.Proofs
end

section
/-! The layouts of the reply bodies (R175, R188): fields one after another, each at its offset. -/
namespace Sys2Proof.Proofs

open Sys2Proof.Machine Sys2Proof.Safety

/-! ## One field (R175) -/

/-- R175: the number that a run of bytes spells behind a number `acc`. -/
theorem foldl_natBytes (k n acc : Nat) :
    (natBytes k n).foldl (fun v b => 256 * v + b.toNat) acc = acc * 256 ^ k + n % 256 ^ k := by
  induction k generalizing acc with
  | zero => simp [natBytes, Nat.mod_one]
  | succ k ih =>
    have hdigit : n % 256 ^ (k + 1) = n % 256 ^ k + 256 ^ k * (n / 256 ^ k % 2 ^ 8) :=
      Nat.mod_mul (a := 256 ^ k) (b := 256)
    rw [natBytes, List.foldl_cons, ih, BitVec.toNat_ofNat, hdigit]
    ring

theorem natBytes_length (k n : Nat) : (natBytes k n).length = k := by
  induction k with
  | zero => rfl
  | succ k ih => rw [natBytes, List.length_cons, ih]

theorem intBytes_length (k : Nat) (v : Int) : (intBytes k v).length = k := natBytes_length k _

theorem natBytes_mod (k n : Nat) : natBytes k (n % 256 ^ k) = natBytes k n := by
  suffices h : ∀ j, k ≤ j → natBytes k (n % 256 ^ j) = natBytes k n from h k le_rfl
  induction k with
  | zero => exact fun j _ => rfl
  | succ k ih =>
    intro j hj
    obtain ⟨i, rfl⟩ := Nat.exists_eq_add_of_le hj
    have hdigit : BitVec.ofNat 8 (n % 256 ^ (k + 1 + i) / 256 ^ k) = BitVec.ofNat 8 (n / 256 ^ k) := by
      apply BitVec.eq_of_toNat_eq
      rw [show 256 ^ (k + 1 + i) = 256 ^ k * (256 * 256 ^ i) by ring, Nat.mod_mul_right_div_self,
        BitVec.toNat_ofNat, BitVec.toNat_ofNat]
      exact Nat.mod_mul_right_mod _ 256 _
    rw [natBytes, natBytes, hdigit, ih _ (by omega)]

/-- R175: a number that is not negative is held as it is. -/
theorem intBytes_natCast (k n : Nat) : intBytes k (n : Int) = natBytes k n := by
  rw [intBytes, ← Int.natCast_mod, Int.toNat_natCast, natBytes_mod]

/-- R175: a byte of flags as a field. -/
theorem bitsByte_eq (bits : List Bool) : [bitsByte bits] = intBytes 1 (flagByte bits) := by
  have hcast : flagByte bits = ((bits.foldr (fun b n => 2 * n + b.toNat) 0 : Nat) : Int) := by
    unfold flagByte
    induction bits with
    | nil => rfl
    | cons b bits ih => simp [List.foldr_cons, ih]
  rw [hcast, intBytes_natCast]
  simp [natBytes, bitsByte]

/-- R175: the field that a run of bytes holds at its place. -/
theorem field_intBytes (pre post : List Byte) (k : Nat) (v : Int) :
    (field (pre ++ (intBytes k v ++ post)) pre.length k : Int) = v % 256 ^ k := by
  have hpos : (0 : Int) < 256 ^ k := by positivity
  rw [field, List.drop_left, List.take_left' (intBytes_length k v), intBytes, foldl_natBytes,
    Nat.zero_mul, Nat.zero_add]
  push_cast
  rw [Int.toNat_of_nonneg (Int.emod_nonneg _ hpos.ne'), Int.emod_emod_of_dvd _ dvd_rfl]

/-! ## Fields one after another -/

/-- The bytes of fields given by offset, width and value. -/
def packed (fs : List (Nat × Nat × Int)) : List Byte := fs.flatMap fun f => intBytes f.2.1 f.2.2

/-- The bytes that fields take. -/
def width (fs : List (Nat × Nat × Int)) : Nat := (fs.map (·.2.1)).sum

/-- Each field begins where the one before it ends. -/
def Adjoining : Nat → List (Nat × Nat × Int) → Prop
  | _, [] => True
  | o, f :: fs => f.1 = o ∧ Adjoining (o + f.2.1) fs

/-- R188: bytes laid out as fields from an offset on. -/
def Layout (o : Nat) (fs : List (Nat × Nat × Int)) (bs : List Byte) : Prop :=
  Adjoining o fs ∧ bs = packed fs

theorem packed_append (fs gs : List (Nat × Nat × Int)) : packed (fs ++ gs) = packed fs ++ packed gs :=
  List.flatMap_append

theorem packed_length (fs : List (Nat × Nat × Int)) : (packed fs).length = width fs := by
  simp [packed, width, List.length_flatMap, intBytes_length]

theorem Layout.length {o : Nat} {fs : List (Nat × Nat × Int)} {bs : List Byte} (h : Layout o fs bs) :
    bs.length = width fs := by
  rw [h.2, packed_length]

theorem adjoining_append {o : Nat} {fs gs : List (Nat × Nat × Int)} :
    Adjoining o (fs ++ gs) ↔ Adjoining o fs ∧ Adjoining (o + width fs) gs := by
  induction fs generalizing o with
  | nil => simp [Adjoining, width]
  | cons f fs ih => simp [Adjoining, width, ih, and_assoc, Nat.add_assoc]

theorem Layout.append {o : Nat} {fs gs : List (Nat × Nat × Int)} {bs cs : List Byte}
    (h : Layout o fs bs) (h' : Layout (o + bs.length) gs cs) : Layout o (fs ++ gs) (bs ++ cs) := by
  obtain ⟨hf, rfl⟩ := h
  obtain ⟨hg, rfl⟩ := h'
  rw [packed_length] at hg
  exact ⟨adjoining_append.2 ⟨hf, hg⟩, (packed_append fs gs).symm⟩

theorem holds_packed (pre : List Byte) (fs : List (Nat × Nat × Int)) (h : Adjoining pre.length fs) :
    Holds (pre ++ packed fs) fs := by
  induction fs generalizing pre with
  | nil => exact fun f hf => absurd hf List.not_mem_nil
  | cons f fs ih =>
    obtain ⟨o, k, v⟩ := f
    obtain ⟨rfl, hrest⟩ := h
    refine List.forall_mem_cons.2 ⟨field_intBytes pre (packed fs) k v, ?_⟩
    have htail := ih (pre ++ intBytes k v) (by rwa [List.length_append, intBytes_length])
    rwa [List.append_assoc] at htail

theorem Layout.holds {fs : List (Nat × Nat × Int)} {bs : List Byte} (h : Layout 0 fs bs) :
    Holds bs fs := by
  obtain ⟨hf, rfl⟩ := h
  exact holds_packed [] fs hf

theorem holds_subset {fs gs : List (Nat × Nat × Int)} {bs : List Byte} (h : Holds bs gs) (hs : fs ⊆ gs) :
    Holds bs fs :=
  fun f hf => h f (hs hf)

/-! ## Blocks of one width -/

theorem layout_blocks {α : Type} (w off start : Nat) (g : Nat → α → List (Nat × Nat × Int))
    (h : α → List Byte) (hg : ∀ o x, Layout o (g o x) (h x)) (hw : ∀ x, (h x).length = w) (xs : List α) :
    Layout (off + w * start) ((xs.zipIdx start).flatMap fun p => g (off + w * p.2) p.1) (xs.flatMap h) := by
  induction xs generalizing start with
  | nil => exact ⟨trivial, rfl⟩
  | cons x xs ih =>
    rw [List.zipIdx_cons, List.flatMap_cons, List.flatMap_cons]
    refine (hg _ x).append ?_
    rw [hw, show off + w * start + w = off + w * (start + 1) by ring]
    exact ih (start + 1)

/-- A slot for each index, a default past the end of the list. -/
theorem flatMap_range_getD {α β : Type} (n : Nat) (xs : List α) (d : α) (g : Nat → α → List β)
    (hn : xs.length ≤ n) : (List.range n).flatMap (fun i => g i (xs.getD i d)) =
      ((xs ++ List.replicate (n - xs.length) d).zipIdx).flatMap fun p => g p.2 p.1 := by
  have hzip : (xs ++ List.replicate (n - xs.length) d).zipIdx =
      (List.range n).map fun i => (xs.getD i d, i) := by
    apply List.ext_getElem
    · simp
      omega
    · intro i hi _
      by_cases hx : i < xs.length <;> simp [List.getElem_append, List.getD, hx]
  rw [hzip, List.flatMap_map]

end Sys2Proof.Proofs
end

section
/-! The read requests (R52, R74, R98, R101, R116, R143, R158, R178 to R181, R185, R188). -/
namespace Sys2Proof.Proofs

open Sys2Proof.Machine Sys2Proof.Safety Sys2Proof.Laws

/-! ## A read answered -/

/-- R188: a read whose body is laid out as fields is answered with each at its offset. -/
theorem read_layout {i : Instr} {kind n : Nat} {op : State → State × Reply} {s : State} {body : List Byte}
    {fs : List (Nat × Nat × Int)} (h : Ready s) (he : exec i s = .next (hostRequest kind op s))
    (ho : op (heard s) = (heard s, ⟨.ok, body⟩)) (hl : Layout 0 fs body)
    (hn : body.length = n) :
    ∃ b, exec i s = .next (answered kind ⟨.ok, b⟩ s) ∧ b.length = n ∧ Holds b fs :=
  ⟨body, by rw [he, hostRequest_answered h kind (t := s) ho rfl], hn, hl.holds⟩

/-- A read answered, whatever its result. -/
theorem read_answered {i : Instr} {kind : Nat} {op : State → State × Reply} {s : State} {r : Reply}
    (h : Ready s) (he : exec i s = .next (hostRequest kind op s)) (ho : op (heard s) = (heard s, r)) :
    exec i s = .next (answered kind r s) := by
  rw [he, hostRequest_answered h kind (t := s) ho rfl]

theorem withLane_laneByte (l : Lane) (n : Nat) (g : Lane → State → State × Reply) (s : State) :
    withLane (laneByte l) n g s = g l s := by
  rw [withLane, ofByte_laneByte]

theorem withCyl_cylByte (c : Cyl) (n : Nat) (g : Cyl → State → State × Reply) (s : State) :
    withCyl (cylByte c) n g s = g c s := by
  rw [withCyl, ofByte_cylByte]

/-! ## The parts of the layouts (R188) -/

/-- A field whose value may be absent, held as 0 (R188). -/
def orZero (o : Option Nat) : Int := ((o.getD 0 : Nat) : Int)

def paramFields (o : Nat) (p : SheetParams) : List (Nat × Nat × Int) :=
  [(o, 3, (p.lSub : Int)), (o + 3, 3, (p.tF : Int)), (o + 6, 3, (p.tE : Int)),
   (o + 9, 2, (p.throwF : Int)), (o + 11, 2, (p.throwE : Int)),
   (o + 13, 1, flagByte [p.usesF, p.usesE]), (o + 14, 1, if p.ref = .foil then 1 else 0)]

theorem layout_params (o : Nat) (p : SheetParams) : Layout o (paramFields o p) (paramBytes p) := by
  have href : intBytes 1 (if p.ref = .foil then 1 else 0) = natBytes 1 (EmbossRef.code p.ref) := by
    cases p.ref <;> rfl
  refine ⟨by simp [Adjoining, paramFields], ?_⟩
  simp [packed, paramFields, paramBytes, intBytes_natCast, ← bitsByte_eq, href]

def entryFields (o : Nat) (e : Option Window) : List (Nat × Nat × Int) :=
  [(o, 1, match e with | some w => (Lane.code w.lane : Int) | none => 255),
   (o + 1, 2, orZero (e.map (·.start))), (o + 3, 2, orZero (e.map (·.length))),
   (o + 5, 1, orZero (e.map (·.tag))), (o + 6, 1, orZero (e.map (·.enabled.toNat)))]

theorem layout_entry (o : Nat) (e : Option Window) : Layout o (entryFields o e) (entryBytes e) := by
  refine ⟨by simp [Adjoining, entryFields], ?_⟩
  cases e with
  | none => simp [packed, entryFields, entryBytes, orZero, intBytes, natBytes]
  | some w => simp [packed, entryFields, entryBytes, orZero, intBytes_natCast]

theorem entryBytes_length (e : Option Window) : (entryBytes e).length = 7 := by
  rw [(layout_entry 0 e).length]
  simp [width, entryFields]

def spanFields (o : Nat) (r : Span) : List (Nat × Nat × Int) :=
  [(o, 2, (r.start : Int)), (o + 2, 2, (r.stop : Int))]

theorem layout_span (o : Nat) (r : Span) : Layout o (spanFields o r) (spanBytes r) := by
  refine ⟨by simp [Adjoining, spanFields], ?_⟩
  simp [packed, spanFields, spanBytes, intBytes_natCast]

theorem spanBytes_length (r : Span) : (spanBytes r).length = 4 := by
  rw [(layout_span 0 r).length]
  simp [width, spanFields]

/-- R188: twelve slots of a span or run list. -/
def slotFields (o : Nat) (rs : List Span) : List (Nat × Nat × Int) :=
  (List.range 12).flatMap fun i => spanFields (o + 4 * i) (rs.getD i ⟨0, 0⟩)

theorem layout_slots (o : Nat) {rs : List Span} (h : rs.length ≤ 12) :
    Layout o (slotFields o rs) (slots rs) := by
  rw [slotFields, flatMap_range_getD 12 rs ⟨0, 0⟩ (fun i => spanFields (o + 4 * i)) h]
  exact layout_blocks 4 o 0 spanFields spanBytes layout_span spanBytes_length _

theorem slots_length {rs : List Span} (h : rs.length ≤ 12) : (slots rs).length = 48 := by
  simp [slots, List.length_flatMap, spanBytes_length]
  omega

def recordFields (o : Nat) (r : LabelRecord) : List (Nat × Nat × Int) :=
  [(o, 2, (r.serial.toNat : Int)),
   (o + 2, 1, flagByte [r.origin == .predicted, r.gen.isSome, r.fOn == some true, r.eF.isSome,
     r.cF.isSome, r.foil.isSome, r.eE.isSome, r.cE.isSome]),
   (o + 3, 4, (r.r.toNat : Int)), (o + 7, 2, orZero r.width), (o + 9, 2, orZero r.gen),
   (o + 11, 1, flagByte [r.parked.l0, r.parked.l1, r.parked.l2, r.parked.l3]),
   (o + 12, 4, r.eF.getD 0), (o + 16, 2, r.cF.getD 0),
   (o + 18, 4, orZero (r.foil.map (·.1.toNat))), (o + 22, 2, (r.foil.map (·.2)).getD 0),
   (o + 24, 4, r.eE.getD 0), (o + 28, 2, r.cE.getD 0),
   (o + 30, 1, (refUsedCode r.refUsed : Int)), (o + 31, 2, (r.reasons.toNat : Int)),
   (o + 33, 1, (Verdict.code r.verdict : Int))]

theorem layout_record (o : Nat) (r : LabelRecord) : Layout o (recordFields o r) (recordBytes r) := by
  refine ⟨by simp [Adjoining, recordFields], ?_⟩
  simp [packed, recordFields, recordBytes, orZero, intBytes_natCast, ← bitsByte_eq]

theorem recordBytes_length (r : LabelRecord) : (recordBytes r).length = 34 := by
  rw [(layout_record 0 r).length]
  simp [width, recordFields]

/-- Two-byte values, one after another. -/
theorem layout_words (o : Nat) (xs : List Nat) :
    Layout o ((List.range xs.length).map fun i => (o + 2 * i, 2, (xs.getD i 0 : Int)))
      (xs.flatMap (natBytes 2)) := by
  rw [← List.flatMap_pure_eq_map]
  refine Eq.subst (motive := fun fs => Layout o fs _)
    (flatMap_range_getD xs.length xs 0 (fun i (x : Nat) => [(o + 2 * i, 2, (x : Int))]) le_rfl).symm ?_
  rw [Nat.sub_self, List.replicate_zero, List.append_nil]
  exact layout_blocks 2 o 0 (fun o (x : Nat) => [(o, 2, (x : Int))]) (natBytes 2)
    (fun o x => ⟨⟨rfl, trivial⟩, by simp [packed, intBytes_natCast]⟩) (natBytes_length 2) xs

/-! ## The bodies (R188) -/

/-- R188: the last commit record in STATUS READ. -/
theorem commitBytes_eq (o : Option CommitRecord) : commitBytes o =
    intBytes 1 ((o.map (fun r => (Result.code r.result : Int))).getD 255) ++
      (intBytes 1 (orZero (o.map (·.reason))) ++ (intBytes 1 (orZero (o.map (·.window))) ++
        intBytes 2 (orZero (o.bind (·.gen))))) := by
  cases o with
  | none => rfl
  | some r => simp [commitBytes, orZero, intBytes_natCast]

/-- R52: the records from the first with a serial on. -/
theorem fromSerial_append {serial : BitVec 16} {before rs : List LabelRecord}
    (hbefore : ∀ r ∈ before, r.serial ≠ serial) (hfirst : ∀ r, rs.head? = some r → r.serial = serial) :
    fromSerial serial (before ++ rs) = rs := by
  have hskip : ∀ r ∈ before, (r.serial != serial) = true := fun r hr => bne_iff_ne.2 (hbefore r hr)
  rw [fromSerial, List.dropWhile_append_of_pos hskip]
  cases rs with
  | nil => rfl
  | cons r rs => simp [hfirst r rfl]

def statusFields (s : State) : List (Nat × Nat × Int) :=
  [(0, 1, SeqState.code s.seq.f.state), (1, 1, SeqState.code s.seq.e.state),
   (2, 1, ThrowCause.code s.seq.f.cause), (3, 1, ThrowCause.code s.seq.e.cause),
   (4, 1, TrackerState.code s.tracker.state), (5, 1, s.tracker.coast),
   (6, 1, LaneState.code s.lane.l0.state), (7, 1, LaneState.code s.lane.l1.state),
   (8, 1, LaneState.code s.lane.l2.state), (9, 1, LaneState.code s.lane.l3.state),
   (10, 2, orZero (s.sheets.active.map (·.gen))), (12, 2, orZero (s.sheets.pending.map (·.gen))),
   (14, 1, (s.sheets.lastCommit.map (fun r => (Result.code r.result : Int))).getD 255),
   (15, 1, orZero (s.sheets.lastCommit.map (·.reason))),
   (16, 1, orZero (s.sheets.lastCommit.map (·.window))),
   (17, 2, orZero (s.sheets.lastCommit.bind (·.gen))), (19, 1, s.web.speed),
   (20, 1, flagByte [s.web.stopped, s.faults.alm, s.track.rej, s.resume, s.configDefault]),
   (21, 2, s.faults.flags.toNat)]

theorem layout_status (s : State) : Layout 0 (statusFields s) (statusBody s) := by
  refine ⟨by simp [Adjoining, statusFields], ?_⟩
  simp [packed, statusFields, statusBody, commitBytes_eq, seqCode, laneCode, PerCyl.get, PerLane.get, orZero,
    intBytes_natCast, ← bitsByte_eq]

theorem statusBody_length (s : State) : (statusBody s).length = 23 := by
  rw [(layout_status s).length]
  simp [width, statusFields]

def loopFields (c : Cyl) (s : State) : List (Nat × Nat × Int) :=
  let lp := s.loop.get c
  let ph := s.phase.get c
  let em := s.emit.get c
  let li := s.items.loop.get c
  let target := s.sheets.active.map fun a => (a.params.target c : Int)
  let live := s.sheets.active.map fun a =>
    ((a.params.target c : Int) + lp.nudge * 256) % a.params.lSub
  [(0, 1, Cyl.code c), (1, 1, LoopMode.code lp.mode),
   (2, 1, flagByte [s.sheets.active.isSome, lp.lastSerial.isSome, lp.lastErr.isSome,
     lp.lastCorr.isSome]),
   (3, 3, target.getD 0), (6, 2, lp.nudge), (8, 3, live.getD 0), (11, 2, lp.a), (13, 4, lp.p),
   (17, 2, lp.n), (19, 1, lp.run), (20, 2, orZero (lp.lastSerial.map (·.toNat))),
   (22, 4, lp.lastErr.getD 0), (26, 2, lp.lastCorr.getD 0),
   (28, 1, flagByte [ph.indexLost, s.web.dir == .reverse, em.state != .idle,
     em.tdir == .advance]),
   (29, 4, s.web.w.toNat), (33, 2, s.web.v), (35, 3, ph.phi),
   (38, 1, if (s.items.index.get c).source = .reckon then 1 else 0), (39, 1, ph.missCount),
   (40, 4, ph.lastDev), (44, 1, li.gain), (45, 2, li.deadband), (47, 2, li.slew),
   (49, 2, li.tol), (51, 2, li.amax), (53, 1, li.runLength)]

theorem layout_loop (c : Cyl) (s : State) : Layout 0 (loopFields c s) (loopBody c s) := by
  have hsource : intBytes 1 (if (s.items.index.get c).source = .reckon then 1 else 0) =
      natBytes 1 (PhaseSource.code (s.items.index.get c).source) := by
    cases (s.items.index.get c).source <;> rfl
  have htarget : intBytes 3 ((s.sheets.active.map fun a => (a.params.target c : Int)).getD 0) =
      natBytes 3 ((s.active?.map (·.target c)).getD 0) := by
    rw [← intBytes_natCast, State.active?]
    cases s.sheets.active <;> rfl
  have hlive : (s.sheets.active.map fun a =>
        ((a.params.target c : Int) + (s.loop.get c).nudge * 256) % a.params.lSub) =
      s.active?.map fun q => liveTarget q.lSub (q.target c) (s.loop.get c).nudge := by
    rw [State.active?]
    cases s.sheets.active <;> rfl
  refine ⟨by simp [Adjoining, loopFields], ?_⟩
  unfold loopBody
  simp only [packed, loopFields, orZero, hsource, htarget, hlive, intBytes_natCast, ← bitsByte_eq,
    State.active?, Option.isSome_map, List.flatMap_cons, List.flatMap_nil, List.append_assoc,
    List.append_nil]

theorem loopBody_length (c : Cyl) (s : State) : (loopBody c s).length = 54 := by
  rw [(layout_loop c s).length]
  simp [width, loopFields]

/-- R188: LANE READ up to the count of check pulses. -/
def laneState (l : Lane) (s : State) : List (Nat × Nat × Int) :=
  let x := s.lane.get l
  [(0, 1, (Lane.code l : Int)), (1, 1, (LaneState.code x.state : Int)),
   (2, 1, (mappingCode (s.items.lane.get l).drive : Int)),
   (3, 1, flagByte [x.hold, x.parkPending, x.parkExpired, x.run.isSome, x.check.done]),
   (4, 1, (x.parkTimer : Int)), (5, 1, (CheckResult.code x.check.result : Int)),
   (6, 2, (x.runSteps : Int)), (8, 2, (x.leads.getD s.web.speed 0 : Int)),
   (10, 4, (x.foil : Int)), (14, 2, (x.motion : Int)), (16, 3, (x.lastRev : Int)),
   (19, 2, (x.check.steps : Int))]

def pulseFields (l : Lane) (s : State) : List (Nat × Nat × Int) :=
  [(21, 2, (pulsesField (s.lane.get l).check.pulses : Int))]

/-- R188: LANE READ from the run on to its lists. -/
def laneRun (l : Lane) (s : State) : List (Nat × Nat × Int) :=
  let x := s.lane.get l
  [(23, 2, orZero (x.run.map (·.start))), (25, 2, orZero (x.run.map (·.stop))),
   (27, 1, ((s.spans l).length : Int))]

def laneHead (l : Lane) (s : State) : List (Nat × Nat × Int) :=
  laneState l s ++ (pulseFields l s ++ laneRun l s)

def runCountFields (l : Lane) (s : State) : List (Nat × Nat × Int) :=
  [(76, 1, ((s.lane.get l).runList.length : Int))]

def laneTail (l : Lane) (s : State) : List (Nat × Nat × Int) :=
  let it := s.items.lane.get l
  [(125, 4, (it.ratio : Int)), (129, 2, (it.runOut : Int)), (131, 2, (it.minDwell : Int)),
   (133, 2, (it.window : Int)), (135, 4, (it.low : Int)), (139, 1, (it.parkTimeout : Int)),
   (140, 2, (it.checkSteps : Int)), (142, 2, (it.checkInterval : Int))]

def laneFields (l : Lane) (s : State) : List (Nat × Nat × Int) :=
  laneHead l s ++ (slotFields 28 (s.spans l) ++ (runCountFields l s ++
    (slotFields 77 (s.lane.get l).runList ++ laneTail l s)))

theorem spanBytes_run (o : Option Span) : spanBytes (o.getD ⟨0, 0⟩) =
    natBytes 2 ((o.map (·.start)).getD 0) ++ natBytes 2 ((o.map (·.stop)).getD 0) := by
  cases o <;> rfl

theorem adjoining_lane (l : Lane) (s : State) :
    Adjoining 0 (laneHead l s) ∧ Adjoining 125 (laneTail l s) := by
  simp [Adjoining, laneHead, laneState, pulseFields, laneRun, laneTail]

theorem laneBody_eq (l : Lane) (s : State) : laneBody l s = packed (laneHead l s) ++
    (slots (s.spans l) ++ (natBytes 1 (s.lane.get l).runList.length ++
      (slots (s.lane.get l).runList ++ packed (laneTail l s)))) := by
  unfold laneBody
  simp only [packed, laneHead, laneState, pulseFields, laneRun, laneTail, orZero, List.flatMap_append,
    spanBytes_run, State.leadNow, intBytes_natCast, ← bitsByte_eq, List.flatMap_cons, List.flatMap_nil,
    List.append_assoc, List.append_nil]

theorem laneHead_length (l : Lane) (s : State) : (packed (laneHead l s)).length = 28 := by
  simp [packed_length, width, laneHead, laneState, pulseFields, laneRun]

theorem layout_lane {l : Lane} {s : State} (hspans : (s.spans l).length ≤ 12)
    (hruns : (s.lane.get l).runList.length ≤ 12) : Layout 0 (laneFields l s) (laneBody l s) := by
  obtain ⟨hhead, htail⟩ := adjoining_lane l s
  have hcount : Layout 76 (runCountFields l s)
      (natBytes 1 (s.lane.get l).runList.length) :=
    ⟨⟨rfl, trivial⟩, by simp [packed, runCountFields, intBytes_natCast]⟩
  have hruns' := (layout_slots 77 hruns).append (by rw [slots_length hruns]; exact ⟨htail, rfl⟩)
  have hlists := (layout_slots 28 hspans).append (by rw [slots_length hspans]; exact hcount.append hruns')
  rw [laneBody_eq]
  exact Layout.append ⟨hhead, rfl⟩ (by rw [laneHead_length]; exact hlists)

theorem laneBody_length {l : Lane} {s : State} (hspans : (s.spans l).length ≤ 12)
    (hruns : (s.lane.get l).runList.length ≤ 12) : (laneBody l s).length = 144 := by
  rw [laneBody_eq, List.length_append, laneHead_length]
  simp [slots_length hspans, slots_length hruns, natBytes_length, packed_length, width, laneTail]

def trackFields (s : State) (out : List LabelRecord) : List (Nat × Nat × Int) :=
  [(0, 1, (s.track.records.length : Int)), (1, 2, (s.track.nextSerial.toNat : Int)),
   (3, 1, (out.length : Int))] ++ out.zipIdx.flatMap fun p => recordFields (4 + 34 * p.2) p.1

def trackBody (s : State) (out : List LabelRecord) : List Byte :=
  natBytes 1 s.track.records.length ++ natBytes 2 s.track.nextSerial.toNat ++ natBytes 1 out.length ++
    out.flatMap recordBytes

theorem layout_track (s : State) (out : List LabelRecord) :
    Layout 0 (trackFields s out) (trackBody s out) := by
  refine Layout.append ⟨by simp [Adjoining], by simp [packed, intBytes_natCast]⟩ ?_
  simp only [List.length_append, natBytes_length]
  exact layout_blocks 34 4 0 recordFields recordBytes layout_record recordBytes_length out

theorem trackBody_length (s : State) (out : List LabelRecord) :
    (trackBody s out).length = 4 + 34 * out.length := by
  simp [trackBody, natBytes_length, List.length_flatMap, recordBytes_length]
  omega

def windowFields (table start : Byte) (es : List (Option Window)) : List (Nat × Nat × Int) :=
  [(0, 1, (table.toNat : Int)), (1, 1, (start.toNat : Int)), (2, 1, (es.length : Int))] ++
    es.zipIdx.flatMap fun p => entryFields (3 + 7 * p.2) p.1

def windowBody (table start : Byte) (es : List (Option Window)) : List Byte :=
  [table, start] ++ natBytes 1 es.length ++ es.flatMap entryBytes

theorem layout_window (table start : Byte) (es : List (Option Window)) :
    Layout 0 (windowFields table start es) (windowBody table start es) := by
  refine Layout.append ⟨by simp [Adjoining], by simp [packed, intBytes_natCast, natBytes]⟩ ?_
  exact layout_blocks 7 3 0 entryFields entryBytes layout_entry entryBytes_length es

theorem windowBody_length (table start : Byte) (es : List (Option Window)) :
    (windowBody table start es).length = 3 + 7 * es.length := by
  simp [windowBody, natBytes_length, List.length_flatMap, entryBytes_length]
  omega

/-- R188: the fault record in FAULT READ, all 0 when it is empty. -/
def faultRecordFields : Option FaultRecord → List (Nat × Nat × Int)
  | none => (List.range 14).map fun i => (2 + i, 1, 0)
  | some r => [(2, 1, flagByte [true, r.again, r.serial.isSome]), (3, 1, FaultCode.priority r.code),
      (4, 1, FaultCode.number r.code), (5, 1, FaultSource.code r.source),
      (6, 2, orZero (r.serial.map (·.toNat))), (8, 4, r.value), (12, 4, r.w.toNat)]

theorem intBytes_one_zero : intBytes 1 0 = [0] := by decide

def faultFields (s : State) : List (Nat × Nat × Int) :=
  [(0, 2, (s.faults.flags.toNat : Int))] ++ (faultRecordFields s.faults.record ++
    [(16, 1, flagByte [s.items.freeze, s.items.freeze && s.faults.flags != 0])])

theorem layout_fault (s : State) : Layout 0 (faultFields s) (faultBody s) := by
  cases hr : s.faults.record with
  | none =>
    refine ⟨by simp [Adjoining, faultFields, faultRecordFields, hr, List.range_succ], ?_⟩
    simp [packed, faultFields, faultRecordFields, faultBody, hr, intBytes_natCast, ← bitsByte_eq, frozen,
      List.range_succ, intBytes_one_zero]
  | some r =>
    refine ⟨by simp [Adjoining, faultFields, faultRecordFields, hr], ?_⟩
    simp [packed, faultFields, faultRecordFields, faultBody, hr, intBytes_natCast, ← bitsByte_eq, frozen,
      orZero]

theorem faultBody_length (s : State) : (faultBody s).length = 17 := by
  rw [(layout_fault s).length, faultFields]
  cases s.faults.record <;> simp [width, faultRecordFields, Function.comp_def]

def counterFields (s : State) : List (Nat × Nat × Int) :=
  [(0, 2, s.web.encErrors), (2, 2, s.phase.f.arrivals), (4, 2, s.phase.e.arrivals),
   (6, 2, s.qual.print.rejects), (8, 2, s.qual.print.strays), (10, 2, s.qual.foil.rejects),
   (12, 2, s.qual.foil.strays), (14, 2, s.track.good), (16, 2, s.track.bad),
   (18, 2, s.track.overflow), (20, 2, s.lane.l0.clipped), (22, 2, s.lane.l1.clipped),
   (24, 2, s.lane.l2.clipped), (26, 2, s.lane.l3.clipped), (28, 2, s.link.good),
   (30, 2, s.link.checkErrors), (32, 2, s.link.charErrors), (34, 2, s.link.overlaps),
   (36, 2, s.link.ignored)]

theorem layout_counters (s : State) : Layout 0 (counterFields s) (countersBody s) := by
  refine ⟨by simp [Adjoining, counterFields], ?_⟩
  simp only [packed, counterFields, countersBody, intBytes_natCast, List.flatMap_cons, List.flatMap_nil]

theorem countersBody_length (s : State) : (countersBody s).length = 38 := by
  rw [(layout_counters s).length]
  simp [width, counterFields]

def curveFields (l : Lane) (anchors leads : List Nat) : List (Nat × Nat × Int) :=
  [(0, 1, (Lane.code l : Int))] ++
    (List.range anchors.length).map (fun i => (1 + 2 * i, 2, (anchors.getD i 0 : Int))) ++
    (List.range leads.length).map (fun i => (1 + 2 * anchors.length + 2 * i, 2, (leads.getD i 0 : Int)))

def curveBody (l : Lane) (anchors leads : List Nat) : List Byte :=
  natBytes 1 (Lane.code l) ++ anchors.flatMap (natBytes 2) ++ leads.flatMap (natBytes 2)

theorem words_length (xs : List Nat) : (xs.flatMap (natBytes 2)).length = 2 * xs.length := by
  simp [List.length_flatMap, natBytes_length]
  omega

theorem curveBody_length (l : Lane) (anchors leads : List Nat) :
    (curveBody l anchors leads).length = 1 + 2 * anchors.length + 2 * leads.length := by
  simp only [curveBody, List.length_append, natBytes_length, words_length]

theorem layout_curve (l : Lane) (anchors leads : List Nat) :
    Layout 0 (curveFields l anchors leads) (curveBody l anchors leads) := by
  refine Layout.append (Layout.append ⟨⟨rfl, trivial⟩, by simp [packed, intBytes_natCast]⟩ ?_) ?_
  · exact layout_words 1 anchors
  · simp only [List.length_append, natBytes_length, words_length, Nat.zero_add]
    exact layout_words _ leads

/-! ## The requests -/

theorem windowRead_staged {start count : Byte} (hstart : start.toNat < 48) (h1 : 1 ≤ count.toNat)
    (h8 : count.toNat ≤ 8) (s : State) : windowRead 0 start count s =
      (s, ⟨.ok, windowBody 0 start ((s.sheets.staged.windows.drop start.toNat).take count.toNat)⟩) := by
  have hgood : ¬ (1 < (0 : Byte).toNat ∨ Config.windowSlots ≤ start.toNat ∨ count.toNat < 1 ∨
      8 < count.toNat) := by
    simp only [Config.windowSlots, show (0 : Byte).toNat = 0 from rfl]
    omega
  rw [windowRead, if_neg hgood]
  rfl

theorem windowRead_active {start count : Byte} (hstart : start.toNat < 48) (h1 : 1 ≤ count.toNat)
    (h8 : count.toNat ≤ 8) (s : State) : windowRead 1 start count s =
      match s.sheets.active with
      | some sh => (s, ⟨.ok, windowBody 1 start ((sh.windows.drop start.toNat).take count.toNat)⟩)
      | none => (s, ⟨.noSheet, []⟩) := by
  have hgood : ¬ (1 < (1 : Byte).toNat ∨ Config.windowSlots ≤ start.toNat ∨ count.toNat < 1 ∨
      8 < count.toNat) := by
    simp only [Config.windowSlots, show (1 : Byte).toNat = 1 from rfl]
    omega
  rw [windowRead, if_neg hgood]
  rfl

theorem sheetParamRead_staged (s : State) : sheetParamRead 0 s =
    (s, ⟨.ok, natBytes 1 0 ++ natBytes 2 0 ++ paramBytes s.sheets.staged.params⟩) := rfl

theorem sheetParamRead_active {sh : Sheet} {s : State} (h : s.sheets.active = some sh) :
    sheetParamRead 1 s = (s, ⟨.ok, natBytes 1 1 ++ natBytes 2 sh.gen ++ paramBytes sh.params⟩) := by
  simp [sheetParamRead, h, natBytes]

theorem sheetParamRead_none {s : State} (h : s.sheets.active = none) :
    sheetParamRead 1 s = (s, ⟨.noSheet, []⟩) := by
  simp [sheetParamRead, h]

/-- R181: the parameters behind the sheet's number and generation. -/
theorem layout_sheetParams (n gen : Nat) (p : SheetParams) :
    Layout 0 ([(0, 1, (n : Int)), (1, 2, (gen : Int))] ++ paramFields 3 p)
      (natBytes 1 n ++ natBytes 2 gen ++ paramBytes p) :=
  Layout.append ⟨by simp [Adjoining], by simp [packed, intBytes_natCast]⟩ (layout_params 3 p)

theorem sheetParams_length (n gen : Nat) (p : SheetParams) :
    (natBytes 1 n ++ natBytes 2 gen ++ paramBytes p).length = 18 := by
  rw [(layout_sheetParams n gen p).length]
  simp [width, paramFields]

theorem trackReadReq_eq {sel count : Byte} {serial : BitVec 16} {rs : List LabelRecord} {s : State}
    (h1 : 1 ≤ count.toNat) (h6 : count.toNat ≤ 6)
    (hsel : sel = 0 ∧ rs = s.track.records ∨ sel = 1 ∧ fromSerial serial s.track.records = rs) :
    trackReadReq sel serial count s = (s, ⟨.ok, trackBody s (rs.take count.toNat)⟩) := by
  obtain ⟨rfl, rfl⟩ | ⟨rfl, rfl⟩ := hsel
  · rw [trackReadReq, if_neg (by simp only [show (0 : Byte).toNat = 0 from rfl]; omega)]
    rfl
  · rw [trackReadReq, if_neg (by simp only [show (1 : Byte).toNat = 1 from rfl]; omega)]
    rfl

theorem curve_read {l : Lane} {s : State} (h : Ready s) {anchors leads : List Nat}
    (ha : (s.items.lane.get l).anchors = anchors) (hx : (s.lane.get l).leads = leads) :
    ∃ b, exec (.curveRead (laneByte l)) s = .next (answered 0x05 ⟨.ok, b⟩ s) ∧
      b.length = 1 + 2 * anchors.length + 2 * leads.length ∧ Holds b (curveFields l anchors leads) := by
  subst ha hx
  exact read_layout h rfl (withLane_laneByte l 0 _ (heard s)) (layout_curve l _ _) (curveBody_length l _ _)

theorem lane_read {l : Lane} {s : State} (h : Ready s) :
    exec (.laneRead (laneByte l)) s = .next (answered 0x34 ⟨.ok, laneBody l s⟩ s) :=
  read_answered h rfl (withLane_laneByte l 0 _ (heard s))

theorem config_read {s : State} (h : Ready s) (i : Item) : exec (.configRead (itemByte i)) s =
    .next (answered 0x03 ⟨.ok, itemByte i :: natBytes 4 (itemValue s.items i)⟩ s) := by
  refine read_answered h rfl ?_
  rw [configReadNumber, itemOfNumber_itemByte]
  simp [itemBody, natBytes, heard]

/-- R158: each byte of FAULT READ from the second on is 0 with the record empty. -/
theorem field_fault_none {s : State} (hr : s.faults.record = none) {o : Nat} (h2 : 2 ≤ o) (h15 : o ≤ 15) :
    field (faultBody s) o 1 = 0 := by
  have hmem : (o, 1, (0 : Int)) ∈ faultFields s := by
    simp only [faultFields, hr, faultRecordFields, List.mem_append, List.mem_map, List.mem_range]
    exact .inr (.inl ⟨o - 2, by omega, by simp; omega⟩)
  simpa using (layout_fault s).holds _ hmem

theorem field_lane_pulses {l : Lane} {s : State} (hspans : (s.spans l).length ≤ 12)
    (hruns : (s.lane.get l).runList.length ≤ 12) (hp : (s.lane.get l).check.pulses < 65536) :
    field (laneBody l s) 21 2 = (s.lane.get l).check.pulses := by
  have hmem : (21, 2, (pulsesField (s.lane.get l).check.pulses : Int)) ∈ laneFields l s :=
    List.mem_append_left _ (by simp [laneHead, pulseFields])
  have hfield := (layout_lane hspans hruns).holds _ hmem
  simp only [pulsesField, if_pos hp] at hfield
  omega

/-- Settles O56: each body is its layout, and a read leaves the state as it heard it. -/
theorem readsAnswerFromState : Obligations.ReadsAnswerFromState := by
  refine ⟨by decide, fun c l s h => ⟨?status, config_read h, fun ha hx => ?curve,
    fun start count hstart h1 h8 => ⟨?staged, fun hnone => ?noWindows, fun sh hsh => ?windows⟩,
    ?params, fun sh hsh => ?activeParams, fun hnone => ?noParams, ?loop, fun hspans hruns => ?lane,
    fun sel serial count rs h1 h6 hsel => ?track, ?fault, ?counters⟩⟩
  case status =>
    exact read_layout h rfl rfl (layout_status s) (statusBody_length s)
  case curve =>
    have hread := curve_read h rfl rfl (l := l)
    rw [ha, hx] at hread
    simpa only [curveFields, ha, hx] using hread
  case staged =>
    exact read_layout h rfl (windowRead_staged hstart h1 h8 (heard s)) (layout_window _ _ _)
      (windowBody_length _ _ _)
  case noWindows =>
    refine read_answered h rfl ((windowRead_active hstart h1 h8 (heard s)).trans ?_)
    rw [show (heard s).sheets.active = none from hnone]
  case windows =>
    refine read_layout h rfl ((windowRead_active hstart h1 h8 (heard s)).trans ?_)
      (layout_window 1 start ((sh.windows.drop start.toNat).take count.toNat)) (windowBody_length _ _ _)
    rw [show (heard s).sheets.active = some sh from hsh]
  case params =>
    exact read_layout h rfl (sheetParamRead_staged (heard s)) (layout_sheetParams 0 0 _)
      (sheetParams_length 0 0 _)
  case activeParams =>
    exact read_layout h rfl (sheetParamRead_active (s := heard s) hsh) (layout_sheetParams 1 _ _)
      (sheetParams_length 1 _ _)
  case noParams =>
    exact read_answered h rfl (sheetParamRead_none (s := heard s) hnone)
  case loop =>
    exact read_layout h rfl (withCyl_cylByte c 0 _ (heard s)) (layout_loop c s) (loopBody_length c s)
  case lane =>
    refine ⟨laneBody l s, lane_read h, laneBody_length hspans hruns,
      holds_subset (layout_lane hspans hruns).holds ?_, field_lane_pulses hspans hruns⟩
    intro f hf
    have hpart : f ∈ (laneState l s ++ laneRun l s ++ runCountFields l s ++ laneTail l s) ++
        slotFields 28 (s.spans l) ++ slotFields 77 (s.lane.get l).runList := hf
    simp only [laneFields, laneHead, List.mem_append] at hpart ⊢
    tauto
  case track =>
    refine read_layout h rfl (trackReadReq_eq h1 h6 (s := heard s) (rs := rs) ?_) (layout_track s _)
      (trackBody_length s _)
    obtain hall | ⟨rfl, before, hsplit, hbefore, hfirst⟩ := hsel
    · exact .inl hall
    · refine .inr ⟨rfl, ?_⟩
      rw [show (heard s).track.records = before ++ rs from hsplit, fromSerial_append hbefore hfirst]
  case fault =>
    have hholds := (layout_fault s).holds
    refine ⟨faultBody s, read_answered h rfl rfl, faultBody_length s, holds_subset hholds ?_,
      fun hr o h2 h15 => field_fault_none hr h2 h15, fun r hr => holds_subset hholds ?_⟩
    · simp [faultFields]
    · simp [faultFields, hr, faultRecordFields, orZero]
  case counters =>
    exact read_layout h rfl rfl (layout_counters (heard s)) (countersBody_length (heard s))

end Sys2Proof.Proofs
end

section
/-! The Request Decoder's own answers (R169, R170, R177): kinds, body lengths and broadcasts that reach no
block. -/
namespace Sys2Proof.Proofs

open Sys2Proof.Machine Sys2Proof.Safety Sys2Proof.Laws

/-! ## Body lengths (R177) -/

/-- R177: the body lengths that the catalogue lists for a kind. -/
def catalogueLength (k n : Nat) : Bool :=
  if [0x01, 0x14, 0x15, 0x16, 0x41, 0x50, 0x52, 0x53].contains k then n == 0
  else if [0x03, 0x05, 0x17, 0x20, 0x21, 0x25, 0x26, 0x30, 0x31, 0x33, 0x34, 0x60].contains k then
    n == 1
  else if k = 0x22 then n == 2
  else if [0x12, 0x23, 0x24, 0x51].contains k then n == 3
  else if k = 0x40 then n == 4
  else if [0x02, 0x32].contains k then n == 5
  else if k = 0x13 then n == 9
  else if k = 0x10 then n == 15
  else if k = 0x04 then n == 17
  else k == 0x11 && [8, 15, 22, 29, 36, 43, 50, 57].contains n

theorem words16_length : ∀ {bs : List Byte} {ws : List (BitVec 16)}, words16 bs = some ws →
    bs.length = 2 * ws.length
  | [], ws, h => by cases h; rfl
  | [_], ws, h => by cases h
  | hi :: lo :: rest, ws, h => by
    obtain ⟨vs, hvs, rfl⟩ := Option.map_eq_some_iff.1 h
    have ih := words16_length hvs
    simp only [List.length_cons]
    omega

theorem windowEntries_length {bs : List Byte} {es : List WindowBytes} (h : windowEntries bs = some es) :
    bs.length = 7 * es.length := by
  induction bs using windowEntries.induct generalizing es with
  | case1 => cases h; rfl
  | case2 l s1 s0 n1 n0 t e rest ih =>
    obtain ⟨fs, hfs, rfl⟩ := Option.map_eq_some_iff.1 h
    have := ih hfs
    simp only [List.length_cons]
    omega
  | case3 bs hnil hseven =>
    rw [windowEntries] at h
    · cases h
    · exact hnil
    · exact hseven

/-- R177, R180: CURVE WRITE of another number of bytes than a lane and eight anchors. -/
theorem curveWrite_badLength {body : List Byte} (h : body.length ≠ 17) (s : State) :
    requestOf 0x04 body s = badLength s := by
  cases body with
  | nil => rfl
  | cons l rest =>
    change (match words16 rest with
      | some ws => curveWriteReq l ws
      | none => badLength) s = badLength s
    cases hw : words16 rest with
    | none => rfl
    | some ws =>
      have hlen := words16_length hw
      rw [List.length_cons] at h
      exact if_pos (by omega)

/-- R100, R177: WINDOW WRITE of a body that is not a start index and one to eight entries. -/
theorem windowWrite_badLength {body : List Byte}
    (h : [8, 15, 22, 29, 36, 43, 50, 57].contains body.length = false) (s : State) :
    requestOf 0x11 body s = badLength s := by
  cases body with
  | nil => rfl
  | cons i rest =>
    change (match windowEntries rest with
      | some es => windowWrite i es
      | none => badLength) s = badLength s
    cases hw : windowEntries rest with
    | none => rfl
    | some es =>
      have hlen := windowEntries_length hw
      refine if_pos ?_
      by_contra hcount
      simp only [List.length_cons, hlen, List.contains_eq_mem, List.mem_cons, List.not_mem_nil, or_false,
        decide_eq_false_iff_not] at h
      omega

section
variable {k : Nat} {body : List Byte}

theorem badLength_not_empty (hk : [0x01, 0x14, 0x15, 0x16, 0x41, 0x50, 0x52, 0x53].contains k = true)
    (h : body.length ≠ 0) : requestOf k body = badLength := by
  obtain ⟨b, rest, rfl⟩ := List.exists_cons_of_length_pos (Nat.pos_of_ne_zero h)
  simp only [List.contains_eq_mem, List.mem_cons, List.not_mem_nil, or_false, decide_eq_true_eq] at hk
  rcases hk with rfl | rfl | rfl | rfl | rfl | rfl | rfl | rfl <;> rfl

theorem badLength_not_one (hk : [0x03, 0x05, 0x17, 0x20, 0x21, 0x25, 0x26, 0x30, 0x31, 0x33, 0x34,
    0x60].contains k = true) (h : body.length ≠ 1) : requestOf k body = badLength := by
  simp only [List.contains_eq_mem, List.mem_cons, List.not_mem_nil, or_false, decide_eq_true_eq] at hk
  rcases hk with rfl | rfl | rfl | rfl | rfl | rfl | rfl | rfl | rfl | rfl | rfl | rfl <;>
    rcases body with _ | ⟨_, _ | ⟨_, _⟩⟩ <;> first | rfl | exact absurd rfl h

theorem badLength_not_three (hk : [0x12, 0x23, 0x24, 0x51].contains k = true) (h : body.length ≠ 3) :
    requestOf k body = badLength := by
  simp only [List.contains_eq_mem, List.mem_cons, List.not_mem_nil, or_false, decide_eq_true_eq] at hk
  rcases hk with rfl | rfl | rfl | rfl <;>
    rcases body with _ | ⟨_, _ | ⟨_, _ | ⟨_, _ | ⟨_, _⟩⟩⟩⟩ <;> first | rfl | exact absurd rfl h

theorem badLength_not_five (hk : [0x02, 0x32].contains k = true) (h : body.length ≠ 5) :
    requestOf k body = badLength := by
  simp only [List.contains_eq_mem, List.mem_cons, List.not_mem_nil, or_false, decide_eq_true_eq] at hk
  rcases hk with rfl | rfl <;>
    rcases body with _ | ⟨_, _ | ⟨_, _ | ⟨_, _ | ⟨_, _ | ⟨_, _ | ⟨_, _⟩⟩⟩⟩⟩⟩ <;>
    first | rfl | exact absurd rfl h

theorem loopMode_badLength (h : body.length ≠ 2) : requestOf 0x22 body = badLength := by
  rcases body with _ | ⟨_, _ | ⟨_, _ | ⟨_, _⟩⟩⟩ <;> first | rfl | exact absurd rfl h

theorem trackRead_badLength (h : body.length ≠ 4) : requestOf 0x40 body = badLength := by
  rcases body with _ | ⟨_, _ | ⟨_, _ | ⟨_, _ | ⟨_, _ | ⟨_, _⟩⟩⟩⟩⟩ <;> first | rfl | exact absurd rfl h

theorem windowEdit_badLength (h : body.length ≠ 9) : requestOf 0x13 body = badLength := by
  rcases body with _ | ⟨_, _ | ⟨_, _ | ⟨_, _ | ⟨_, _ | ⟨_, _ | ⟨_, _ | ⟨_, _ | ⟨_, _ | ⟨_, _ | ⟨_, _⟩⟩⟩⟩⟩⟩⟩⟩⟩⟩ <;>
    first | rfl | exact absurd rfl h

theorem paramWrite_badLength (h : body.length ≠ 15) : requestOf 0x10 body = badLength := by
  rcases body with _ | ⟨_, _ | ⟨_, _ | ⟨_, _ | ⟨_, _ | ⟨_, _ | ⟨_, _ | ⟨_, _ | ⟨_, _ | ⟨_, _ |
    ⟨_, _ | ⟨_, _ | ⟨_, _ | ⟨_, _ | ⟨_, _ | ⟨_, _ | ⟨_, _⟩⟩⟩⟩⟩⟩⟩⟩⟩⟩⟩⟩⟩⟩⟩⟩ <;>
    first | rfl | exact absurd rfl h

end

/-- R169, R177: a kind of the catalogue with a body of a length that it does not list. -/
theorem requestOf_badLength {k : Nat} {body : List Byte} (hk : requestOf.knownKind k = true)
    (h : catalogueLength k body.length = false) (s : State) : requestOf k body s = badLength s := by
  unfold catalogueLength at h
  split at h
  case isTrue hk0 => rw [badLength_not_empty hk0 (by simpa using h)]
  split at h
  case isTrue hk1 => rw [badLength_not_one hk1 (by simpa using h)]
  split at h
  case isTrue hk2 => rw [hk2, loopMode_badLength (by simpa using h)]
  split at h
  case isTrue hk3 => rw [badLength_not_three hk3 (by simpa using h)]
  split at h
  case isTrue hk4 => rw [hk4, trackRead_badLength (by simpa using h)]
  split at h
  case isTrue hk5 => rw [badLength_not_five hk5 (by simpa using h)]
  split at h
  case isTrue hk9 => rw [hk9, windowEdit_badLength (by simpa using h)]
  split at h
  case isTrue hk15 => rw [hk15, paramWrite_badLength (by simpa using h)]
  split at h
  case isTrue hk17 => rw [hk17, curveWrite_badLength (by simpa using h)]
  have hk11 : k = 0x11 := by
    simp_all [requestOf.knownKind]
  subst hk11
  exact windowWrite_badLength h s

/-! ## Broadcasts (R170, R112) -/

theorem cylSet_none {c : Byte} (h : 2 < c.toNat) : cylSet c = none := by
  have hne : ∀ d : Byte, d.toNat ≤ 2 → c ≠ d := fun d hd he => by subst he; omega
  rw [cylSet, if_neg (hne 0 (by decide)), if_neg (hne 1 (by decide)), if_neg (hne 2 (by decide))]

/-- R170: a broadcast of another kind, or of one of the two with a body that the catalogue refuses. -/
theorem takeBroadcastFrame_ignored {kind : Byte} {body : List Byte} (hcommit : kind ≠ 0x16 ∨ body ≠ [])
    (hdisengage : kind ≠ 0x21 ∨ ∀ c, body = [c] → 2 < c.toNat) (s : State) :
    takeBroadcastFrame kind.toNat body s = ignoreBroadcast s := by
  unfold takeBroadcastFrame
  split
  next hk =>
    exact absurd (BitVec.eq_of_toNat_eq hk) (hcommit.resolve_right (not_not.2 rfl))
  next c hk =>
    have hc := hdisengage.resolve_left (not_not.2 (BitVec.eq_of_toNat_eq hk)) c rfl
    rw [cylSet_none hc]
    rfl
  · rfl

end Sys2Proof.Proofs
end

section
/-! A whole frame at the receiver, byte by byte (R163 to R167): what the Link Port holds of it, and where its
CHECK takes it. -/
namespace Sys2Proof.Proofs

open Sys2Proof.Machine Sys2Proof.Safety

/-! ## The CHECK (R167, R175) -/

theorem byteSum_concat (bs : List Byte) (b : Byte) : byteSum (bs ++ [b]) = byteSum bs + b.setWidth 16 := by
  apply BitVec.eq_of_toNat_eq
  simp only [byteSum, List.map_append, List.map_cons, List.map_nil, List.sum_append, List.sum_cons,
    List.sum_nil, BitVec.toNat_ofNat, BitVec.toNat_add, BitVec.toNat_setWidth]
  have := b.isLt
  omega

/-- R175: a field of two bytes, high byte first. -/
theorem natBytes_two (x : BitVec 16) : natBytes 2 x.toNat =
    [BitVec.ofNat 8 (x.toNat / 256), BitVec.ofNat 8 x.toNat] := by simp [natBytes]

theorem word16_bytes (x : BitVec 16) :
    word16 (BitVec.ofNat 8 (x.toNat / 256)) (BitVec.ofNat 8 x.toNat) = x := by
  have hx := x.isLt
  have hlow : x.toNat % 2 ^ 8 < 2 ^ 8 := Nat.mod_lt _ (by decide)
  apply BitVec.eq_of_toNat_eq
  rw [word16, BitVec.toNat_append, BitVec.toNat_ofNat, BitVec.toNat_ofNat,
    ← Nat.shiftLeft_add_eq_or_of_lt hlow, Nat.shiftLeft_eq]
  omega

/-! ## The Link Port inside a frame (R164 to R166) -/

/-- The Link Port in a frame led by its idle gap, in a receiver state and with its buffer empty. -/
def opened (l : Link) (rx : RxState) : Link := { afterFrame l with good := l.good, rx := rx }

/-- The Link Port in such a frame, with what it has taken of it. -/
def framed (l : Link) (rx : RxState) (cls : FrameClass) (dest : Byte) (len : Nat) (kind : Byte)
    (body : List Byte) (sum : BitVec 16) : Link :=
  { opened l rx with cls := cls, dest := dest, len := len, kind := kind, body := body,
                     sum := sum }

/-- R165: the destination byte of a frame to this station or to all, and the frame's class. -/
def Destined (l : Link) (cls : FrameClass) (dest : Byte) : Prop :=
  cls = .addressed ∧ l.own ≠ 0 ∧ dest = l.own.setWidth 8 ∨
  cls = .broadcast ∧ dest ≠ l.own.setWidth 8 ∧ dest = Config.broadcastDest

/-- The state with its Link Port in such a frame. -/
def receiving (s : State) (rx : RxState) (cls : FrameClass) (dest : Byte) (len : Nat) (kind : Byte)
    (body : List Byte) (sum : BitVec 16) : State :=
  { s with link := framed s.link rx cls dest len kind body sum }

/-- The state once the first CHECK byte is in. -/
def closing (s : State) (cls : FrameClass) (dest : Byte) (len : Nat) (kind : Byte) (body : List Byte)
    (sum : BitVec 16) (hi : Byte) : State :=
  { s with link := { framed s.link .check cls dest len kind body sum with checkHi := some hi } }

/-- R167: the state once both CHECK bytes are in. -/
def closed (s : State) (cls : FrameClass) (dest : Byte) (len : Nat) (kind : Byte) (body : List Byte)
    (sum check : BitVec 16) : State :=
  endFrame (BitVec.ofNat 8 check.toNat) (BitVec.ofNat 8 (check.toNat / 256))
    (closing s cls dest len kind body sum (BitVec.ofNat 8 (check.toNat / 256)))

/-- R166: the receiver state once `k` of `len` body bytes are in. -/
def bodyRx (len k : Nat) : RxState := if k = len then .check else .body

/-- R163: a good character goes to the receiver. -/
theorem takeChar_good {s : State} (h : Listening s) (b : Byte) :
    takeChar b (evenParity b) true s = receive b false { s with link := s.link.noise true } := by
  obtain ⟨htx, hpending⟩ := h
  simp [takeChar, htx, hpending, charError]

section
variable {s : State} (h : Listening s)
include h

/-- R164: the LEAD byte after an idle gap opens a frame. -/
theorem takeChar_lead : takeChar Config.lead (evenParity Config.lead) true
    { s with link := s.link.idleGap } = { s with link := opened s.link .dest } := by
  obtain ⟨htx, hpending⟩ := h
  have hidle : (s.link.idleGap.noise true).rx = .hunt ∧
      (s.link.idleGap.noise true).clearBuffer .dest = opened s.link .dest ∧
      s.link.idleGap.txen = false ∧ s.link.idleGap.replyPending = false := by
    unfold Link.idleGap
    simp only [htx, hpending]
    cases hrx : s.link.rx <;>
      simp [hrx, htx, hpending, Link.noise, Link.clearBuffer, Link.cutOff, opened, afterFrame,
        RxState.inFrame, satInc, Config.counterMax, Config.halfBit]
  obtain ⟨hrx, hopen, htx', hpending'⟩ := hidle
  rw [takeChar_good (s := { s with link := s.link.idleGap }) ⟨htx', hpending'⟩]
  simp [receive, hrx, hopen, RxState.inFrame]

end

/-- The state once the Link Port has heard bytes, each a good character. -/
def hearBytes (bs : List Byte) (s : State) : State :=
  bs.foldl (fun s b => takeChar b (evenParity b) true s) s

theorem hearBytes_cons (b : Byte) (bs : List Byte) (s : State) :
    hearBytes (b :: bs) s = hearBytes bs (takeChar b (evenParity b) true s) := rfl

theorem hearBytes_append (bs cs : List Byte) (s : State) :
    hearBytes (bs ++ cs) s = hearBytes cs (hearBytes bs s) := List.foldl_append

section
variable {s : State} (h : Listening s) {cls : FrameClass} {dest : Byte} {len : Nat} {kind : Byte}
include h

/-- A good character in a frame goes to the receiver, whose times it starts again as they stand. -/
theorem takeChar_framed (b : Byte) (rx : RxState) (body : List Byte) (sum : BitVec 16) :
    takeChar b (evenParity b) true (receiving s rx cls dest len kind body sum) =
      receive b false (receiving s rx cls dest len kind body sum) :=
  takeChar_good (s := receiving s rx cls dest len kind body sum) h b

/-- R165: bytes of a frame to another station are passed by. -/
theorem hearBytes_skip (bs : List Byte) :
    hearBytes bs { s with link := opened s.link .skip } = { s with link := opened s.link .skip } := by
  induction bs with
  | nil => rfl
  | cons b bs ih =>
    have hone : takeChar b (evenParity b) true { s with link := opened s.link .skip } =
        { s with link := opened s.link .skip } :=
      (takeChar_good (s := { s with link := opened s.link .skip }) h b).trans rfl
    rw [hearBytes_cons, hone, ih]

/-- R165: the destination byte of a frame to this station or to all. -/
theorem takeChar_dest (b : Byte)
    (hcls : Destined s.link cls b) :
    takeChar b (evenParity b) true { s with link := opened s.link .dest } =
      receiving s .len cls b 0 0 [] (byteSum [b]) := by
  refine (takeChar_framed h (cls := .addressed) (dest := 0) (len := 0) (kind := 0) b .dest []
    (byteSum [])).trans ?_
  have hsum : byteSum [b] = byteSum [] + b.setWidth 16 := byteSum_concat [] b
  have hdest : Link.takeDest (framed s.link .dest .addressed 0 0 0 [] (byteSum [])) b =
      framed s.link .len cls b 0 0 [] (byteSum [b]) := by
    obtain ⟨rfl, hown, hb⟩ | ⟨rfl, hown, hb⟩ := hcls
    · refine (if_pos ⟨hown, hb⟩).trans ?_
      rw [hsum]
      rfl
    · refine (if_neg fun hboth => hown hboth.2).trans ((if_pos hb).trans ?_)
      rw [hsum]
      rfl
  exact congrArg (fun l => { s with link := l }) hdest

/-- R165: the destination byte of any other frame. -/
theorem takeChar_dest_other (b : Byte) (hown : b ≠ s.link.own.setWidth 8 ∨ s.link.own = 0)
    (hall : b ≠ Config.broadcastDest) :
    takeChar b (evenParity b) true { s with link := opened s.link .dest } =
      { s with link := opened s.link .skip } := by
  refine (takeChar_framed h (cls := .addressed) (dest := 0) (len := 0) (kind := 0) b .dest []
    (byteSum [])).trans ?_
  have hdest : Link.takeDest (framed s.link .dest .addressed 0 0 0 [] (byteSum [])) b = opened s.link .skip :=
    (if_neg fun hboth : s.link.own ≠ 0 ∧ b = s.link.own.setWidth 8 =>
      hown.elim (fun hne => hne hboth.2) hboth.1).trans (if_neg hall)
  exact congrArg (fun l => { s with link := l }) hdest

/-- R166: the length byte within its bound. -/
theorem takeChar_len (hlen : len ≤ 250) :
    takeChar (BitVec.ofNat 8 len) (evenParity (BitVec.ofNat 8 len)) true
        (receiving s .len cls dest 0 0 [] (byteSum [dest])) =
      receiving s .kind cls dest len 0 [] (byteSum [dest, BitVec.ofNat 8 len]) := by
  refine (takeChar_framed h _ _ _ _).trans ?_
  have hnat : (BitVec.ofNat 8 len).toNat = len := by
    rw [BitVec.toNat_ofNat]
    omega
  have hsum : byteSum [dest, BitVec.ofNat 8 len] = byteSum [dest] + (BitVec.ofNat 8 len).setWidth 16 :=
    byteSum_concat [dest] _
  have htake : Link.takeLen (framed s.link .len cls dest 0 0 [] (byteSum [dest])) (BitVec.ofNat 8 len) =
      framed s.link .kind cls dest len 0 [] (byteSum [dest, BitVec.ofNat 8 len]) := by
    refine (if_neg (by rw [hnat]; exact Nat.not_lt.2 hlen)).trans ?_
    rw [hnat, hsum]
    rfl
  exact congrArg (fun l => { s with link := l }) htake

/-- R166: the kind byte. -/
theorem takeChar_kind (b lenByte : Byte) :
    takeChar b (evenParity b) true (receiving s .kind cls dest len 0 [] (byteSum [dest, lenByte])) =
      receiving s (bodyRx len 0) cls dest len b [] (byteSum [dest, lenByte, b]) := by
  refine (takeChar_framed h _ _ _ _).trans ?_
  have hsum : byteSum [dest, lenByte, b] = byteSum [dest, lenByte] + b.setWidth 16 :=
    byteSum_concat [dest, lenByte] b
  have hrx : (if len = 0 then .check else .body) = bodyRx len 0 := by
    rw [bodyRx]
    exact if_congr eq_comm rfl rfl
  have htake : Link.takeKind (framed s.link .kind cls dest len 0 [] (byteSum [dest, lenByte])) b =
      framed s.link (bodyRx len 0) cls dest len b [] (byteSum [dest, lenByte, b]) := by
    rw [← hrx, hsum]
    rfl
  exact congrArg (fun l => { s with link := l }) htake

/-- R166: one body byte. -/
theorem takeChar_body (b : Byte) (taken front : List Byte) (hroom : taken.length < len) :
    takeChar b (evenParity b) true
        (receiving s (bodyRx len taken.length) cls dest len kind taken (byteSum (front ++ taken))) =
      receiving s (bodyRx len (taken ++ [b]).length) cls dest len kind (taken ++ [b])
        (byteSum (front ++ (taken ++ [b]))) := by
  refine (takeChar_framed h _ _ _ _).trans ?_
  have hrx : bodyRx len taken.length = .body := if_neg hroom.ne
  have hsum : byteSum (front ++ (taken ++ [b])) = byteSum (front ++ taken) + b.setWidth 16 := by
    rw [← List.append_assoc, byteSum_concat]
  rw [hrx]
  have htake : Link.takeBody (framed s.link .body cls dest len kind taken (byteSum (front ++ taken))) b =
      framed s.link (bodyRx len (taken ++ [b]).length) cls dest len kind (taken ++ [b])
        (byteSum (front ++ (taken ++ [b]))) := by
    rw [hsum]
    rfl
  exact congrArg (fun l => { s with link := l }) htake

/-- R166: the body bytes, one after another. -/
theorem hearBytes_body (bs taken front : List Byte) (hlen : taken.length + bs.length = len) :
    hearBytes bs
        (receiving s (bodyRx len taken.length) cls dest len kind taken (byteSum (front ++ taken))) =
      receiving s .check cls dest len kind (taken ++ bs) (byteSum (front ++ (taken ++ bs))) := by
  induction bs generalizing taken with
  | nil =>
    have hrx : bodyRx len taken.length = .check := if_pos hlen
    rw [hrx, List.append_nil]
    rfl
  | cons b bs ih =>
    rw [List.length_cons] at hlen
    rw [hearBytes_cons, takeChar_body h b taken front (by omega),
      ih (taken ++ [b]) (by rw [List.length_append, List.length_singleton]; omega),
      List.append_assoc, List.singleton_append]

/-- R167: the two CHECK bytes close the frame. -/
theorem hearBytes_check (check : BitVec 16) (body : List Byte) (sum : BitVec 16) :
    hearBytes (natBytes 2 check.toNat) (receiving s .check cls dest len kind body sum) =
      closed s cls dest len kind body sum check := by
  rw [natBytes_two, hearBytes_cons, hearBytes_cons,
    (takeChar_framed h (BitVec.ofNat 8 (check.toNat / 256)) .check body sum).trans
      (show _ = closing s cls dest len kind body sum _ from rfl)]
  exact takeChar_good (s := closing s cls dest len kind body sum _) h _

end

/-! ## The whole frame (R164 to R170) -/

section
variable {s : State} (h : Listening s) {cls : FrameClass} {dest kind : Byte} {body : List Byte}
  (check : BitVec 16)
include h

/-- R164 to R167: a frame to this station or to all reaches the end of its CHECK. -/
theorem takeFrame_ends (hlen : body.length ≤ 250)
    (hcls : Destined s.link cls dest) :
    takeFrame dest kind body check s =
      closed s cls dest body.length kind body (frameCheck dest kind body) check := by
  change hearBytes (frameBytes dest kind body check) { s with link := s.link.idleGap } = _
  rw [frameBytes, hearBytes_append, hearBytes_append, hearBytes_cons, hearBytes_cons, hearBytes_cons,
    hearBytes_cons, takeChar_lead h, takeChar_dest h dest hcls, takeChar_len h hlen, takeChar_kind h]
  have hbody := hearBytes_body h (cls := cls) (dest := dest) (kind := kind) body []
    [dest, BitVec.ofNat 8 body.length, kind] (Nat.zero_add _)
  exact (congrArg (hearBytes _) hbody).trans (hearBytes_check h check body _)

/-- R165: a frame to another station is passed by. -/
theorem takeFrame_other (hown : dest ≠ s.link.own.setWidth 8 ∨ s.link.own = 0)
    (hall : dest ≠ Config.broadcastDest) :
    takeFrame dest kind body check s = { s with link := opened s.link .skip } := by
  change hearBytes (frameBytes dest kind body check) { s with link := s.link.idleGap } = _
  rw [frameBytes, List.cons_append, List.cons_append, hearBytes_cons, takeChar_lead h, List.cons_append,
    List.cons_append, hearBytes_cons, takeChar_dest_other h dest hown hall, hearBytes_skip h]

end

section
variable {s : State} {dest kind : Byte} {body : List Byte} {check : BitVec 16}

/-- R167: a frame whose CHECK differs. -/
theorem endFrame_bad {cls : FrameClass} {len : Nat} {sum : BitVec 16} (hbad : check ≠ sum) :
    closed s cls dest len kind body sum check =
      { s with link := { afterFrame s.link with
          good := s.link.good, checkErrors := min (s.link.checkErrors + 1) 65535 } } := by
  rw [closed, endFrame, word16_bytes]
  exact if_neg hbad

/-- R167, R169: a well-formed request to this station reaches the Request Decoder. -/
theorem endFrame_addressed {len : Nat} {r : Reply}
    (hop : requestOf kind.toNat body (heard s) = (heard s, r)) :
    closed s .addressed dest len kind body check check =
      answered kind.toNat r s := by
  rw [closed, endFrame, word16_bytes]
  refine (if_pos rfl).trans ?_
  change formReply kind.toNat (requestOf kind.toNat body (heard s)).2
    (requestOf kind.toNat body (heard s)).1 = _
  rw [hop]
  rfl

/-- R167, R170: a well-formed broadcast that reaches no block. -/
theorem endFrame_ignored {len : Nat}
    (hop : ∀ u, takeBroadcastFrame kind.toNat body u = ignoreBroadcast u) :
    closed s .broadcast dest len kind body check check =
      { s with link := { afterFrame s.link with ignored := min (s.link.ignored + 1) 65535 } } := by
  rw [closed, endFrame, word16_bytes]
  exact (if_pos rfl).trans (hop _)

end

/-- No station's address is that of all. -/
theorem broadcastDest_ne_own (own : BitVec 5) : Config.broadcastDest ≠ own.setWidth 8 := by
  revert own
  decide

/-- Settles O5: the frame runs to the end of its CHECK or is passed by, and the Request Decoder answers or
ignores it. -/
theorem framesThatReachNoBlock : Obligations.FramesThatReachNoBlock := by
  intro dest kind body s h hlen
  have hcls : dest = 0x7F → Destined s.link .broadcast dest := by
    rintro rfl
    exact .inr ⟨rfl, broadcastDest_ne_own _, rfl⟩
  refine ⟨fun check hbad hdest => congrArg Host.Outcome.next ?_,
    fun check hown hall => congrArg Host.Outcome.next (takeFrame_other h check hown hall),
    fun hown hne => ⟨fun hlisted => congrArg Host.Outcome.next ?_,
      fun hlisted hlength => congrArg Host.Outcome.next ?_⟩,
    fun hall hcommit hdisengage => congrArg Host.Outcome.next ?_⟩
  · obtain ⟨hown, hne⟩ | hall := hdest
    · exact (takeFrame_ends h check hlen (.inl ⟨rfl, hne, hown⟩)).trans (endFrame_bad hbad)
    · exact (takeFrame_ends h check hlen (hcls hall)).trans (endFrame_bad hbad)
  · refine (takeFrame_ends h _ hlen (.inl ⟨rfl, hne, hown⟩)).trans (endFrame_addressed ?_)
    rw [requestOf_unknown hlisted]
    rfl
  · exact (takeFrame_ends h _ hlen (.inl ⟨rfl, hne, hown⟩)).trans
      (endFrame_addressed (requestOf_badLength hlisted hlength (heard s)))
  · exact (takeFrame_ends h _ hlen (hcls hall)).trans
      (endFrame_ignored (takeBroadcastFrame_ignored hcommit hdisengage))

end Sys2Proof.Proofs
end

section
/-! What a lane's agreement with its drive, its run, its check timer and its park comes to under each operation, and
its leads (R119 to R122, R137, R141). -/
namespace Sys2Proof.Proofs

open Sys2Proof.Machine Sys2Proof.Safety

/-! ## One lane -/

/-- R119 to R121, R137, R141: a lane agrees with the drive mapped to it, its run, its check timer and its park. -/
structure LaneAgrees (drive : Option Drive) (x : LaneCtl) : Prop where
  disabled : x.state = .disabled ↔ drive = none
  run : x.run.isSome = true ↔ x.state = .run
  timer : x.checkTimer.isSome = true ↔ x.state = .check
  park : x.parkPending = true → x.state = .run

theorem laneSound_iff {s : State} :
    LaneSound s ↔ ∀ l, LaneAgrees (s.items.lane.get l).drive (s.lane.get l) :=
  forall_congr' fun _ => ⟨fun ⟨hd, hr, ht, hp⟩ => ⟨hd, hr, ht, hp⟩, fun ⟨hd, hr, ht, hp⟩ => ⟨hd, hr, ht, hp⟩⟩

/-- A lane keeps its leads, and agrees with its mapping, run, timer and park if it did. -/
structure LaneMoves (x y : LaneCtl) : Prop where
  leads : y.leads = x.leads
  agrees : ∀ d, LaneAgrees d x → LaneAgrees d y

theorem laneMoves_refl (x : LaneCtl) : LaneMoves x x := ⟨rfl, fun _ h => h⟩

theorem laneMoves_trans {x y z : LaneCtl} (h : LaneMoves x y) (h' : LaneMoves y z) : LaneMoves x z :=
  ⟨h'.leads.trans h.leads, fun d hx => h'.agrees d (h.agrees d hx)⟩

/-- What the agreement reads stays. -/
theorem laneAgrees_of_same {d : Option Drive} {x y : LaneCtl} (h : y.state = x.state ∧ y.run = x.run ∧
    y.checkTimer = x.checkTimer ∧ y.parkPending = x.parkPending) (hx : LaneAgrees d x) : LaneAgrees d y := by
  obtain ⟨hstate, hrun, htimer, hpark⟩ := h
  obtain ⟨hd, hr, ht, hp⟩ := hx
  exact ⟨by rwa [hstate], by rwa [hrun, hstate], by rwa [htimer, hstate], by rwa [hpark, hstate]⟩

theorem laneMoves_of_same {x y : LaneCtl} (h : y.leads = x.leads ∧ y.state = x.state ∧ y.run = x.run ∧
    y.checkTimer = x.checkTimer ∧ y.parkPending = x.parkPending) : LaneMoves x y :=
  ⟨h.1, fun _ => laneAgrees_of_same h.2⟩

/-- A mapped lane comes to rest in DWELL, PARKED or FAULTED: it has no run, no check timer and no park pending. -/
theorem laneMoves_rest {x y : LaneCtl} (hleads : y.leads = x.leads) (hx : x.state ≠ .disabled)
    (hy : y.state = .dwell ∨ y.state = .parked ∨ y.state = .faulted)
    (hparts : ∀ d, LaneAgrees d x → y.run = none ∧ y.checkTimer = none ∧ y.parkPending = false) :
    LaneMoves x y := by
  refine ⟨hleads, fun d h => ?_⟩
  obtain ⟨hrun, htimer, hpark⟩ := hparts d h
  have hd : d ≠ none := mt h.disabled.2 hx
  rcases hy with hy | hy | hy <;> constructor <;> simp [hy, hrun, htimer, hpark, hd]

theorem idle_of_laneAgrees {d : Option Drive} {x : LaneCtl} (h : LaneAgrees d x) (hx : x.state ≠ .run) :
    x.run = none ∧ x.parkPending = false :=
  ⟨by simpa using mt h.run.1 hx, by simpa using mt h.park hx⟩

theorem untimed_of_laneAgrees {d : Option Drive} {x : LaneCtl} (h : LaneAgrees d x)
    (hx : x.state ≠ .check) : x.checkTimer = none := by simpa using mt h.timer.1 hx

/-- A lane that neither runs nor checks, and is to stay so. -/
theorem laneMoves_between {x y : LaneCtl} (hx : x.state ≠ .disabled ∧ x.state ≠ .run ∧ x.state ≠ .check)
    (hy : y.state = .dwell ∨ y.state = .parked ∨ y.state = .faulted)
    (h : y.leads = x.leads ∧ y.run = x.run ∧ y.checkTimer = x.checkTimer ∧
      (x.parkPending = false → y.parkPending = false)) : LaneMoves x y := by
  obtain ⟨hmapped, hrun, hcheck⟩ := hx
  obtain ⟨hleads, hrun', htimer, hpark⟩ := h
  refine laneMoves_rest hleads hmapped hy fun d ha => ?_
  obtain ⟨hnone, hpend⟩ := idle_of_laneAgrees ha hrun
  exact ⟨hrun'.trans hnone, htimer.trans (untimed_of_laneAgrees ha hcheck), hpark hpend⟩

/-- R121, R129: a run ends. -/
theorem laneMoves_endRun {x : LaneCtl} (hx : x.state = .run) : LaneMoves x (endRun x) := by
  have hmapped : x.state ≠ .disabled := by simp [hx]
  have htimer {d : Option Drive} (h : LaneAgrees d x) : x.checkTimer = none :=
    untimed_of_laneAgrees h (by simp [hx])
  unfold endRun parkBegin
  dsimp only
  split
  · exact laneMoves_rest rfl hmapped (by simp) fun d h => ⟨rfl, htimer h, rfl⟩
  · next hpark => exact laneMoves_rest rfl hmapped (by simp) fun d h => ⟨rfl, htimer h, by simpa using hpark⟩

/-- R126: a run starts from DWELL. -/
theorem laneMoves_startRun {x : LaneCtl} (hx : x.state = .dwell) (n : Nat) (r : Span) :
    LaneMoves x (startRun n r x) := by
  refine ⟨rfl, fun d h => ⟨?_, ?_, ?_, ?_⟩⟩
  · simpa [startRun, hx] using h.disabled
  · simp [startRun]
  · simpa [startRun, hx] using h.timer
  · simp [startRun]

/-- R135: a mapped lane enters FAULTED. -/
theorem laneMoves_faultedLane {x : LaneCtl} (hx : x.state ≠ .disabled) : LaneMoves x (faultedLane x) :=
  laneMoves_rest rfl hx (by simp [faultedLane]) fun _ _ => ⟨rfl, rfl, rfl⟩

theorem laneMoves_stepCounts (n : Nat) (x : LaneCtl) : LaneMoves x (stepCounts n x) :=
  laneMoves_of_same ⟨rfl, rfl, rfl, rfl, rfl⟩

/-- R137: PARK. -/
theorem laneMoves_parkLane (x : LaneCtl) : LaneMoves x (parkLane x).1 := by
  unfold parkLane
  split
  · next hx => exact laneMoves_between (by simp [hx]) (by simp [parkBegin]) ⟨rfl, rfl, rfl, fun _ => rfl⟩
  · next hx => exact ⟨rfl, fun d ⟨hd, hr, ht, _⟩ => ⟨hd, hr, ht, fun _ => hx⟩⟩
  all_goals exact laneMoves_refl x

/-- R139: RELEASE. -/
theorem laneMoves_releaseLane (x : LaneCtl) : LaneMoves x (releaseLane x).1 := by
  unfold releaseLane
  split
  · next hx => exact laneMoves_between (by simp [hx]) (by simp) ⟨rfl, rfl, rfl, id⟩
  · split
    · exact ⟨rfl, fun d ⟨hd, hr, ht, _⟩ => ⟨hd, hr, ht, by simp⟩⟩
    · exact laneMoves_refl x
  · exact laneMoves_refl x
  · exact laneMoves_refl x
  · next hx =>
    split
    · exact laneMoves_refl x
    · exact laneMoves_between (by simp [hx]) (by simp) ⟨rfl, rfl, rfl, id⟩
  · exact laneMoves_refl x

/-- R140: a check starts in PARKED. -/
theorem laneMoves_startCheck {x : LaneCtl} (hx : x.state = .parked) (now : Nat) (it : LaneItems) :
    LaneMoves x (startCheck now it x) := by
  refine ⟨rfl, fun d h => ⟨?_, ?_, ?_, ?_⟩⟩
  · simpa [startCheck, hx] using h.disabled
  · simpa [startCheck, hx] using h.run
  · simp [startCheck]
  · simpa [startCheck, hx] using h.park

/-- R141: the check timer runs on. -/
theorem laneMoves_checkTimer {x : LaneCtl} (hx : x.state = .check) (due : Nat) :
    LaneMoves x { x with checkTimer := some due } :=
  ⟨rfl, fun _ ⟨hd, hr, _, hp⟩ => ⟨hd, hr, by simp [hx], hp⟩⟩

/-- R141: a check ends in PARKED. -/
theorem laneMoves_endCheck {x : LaneCtl} (hx : x.state = .check) : LaneMoves x (endCheck x) :=
  laneMoves_rest rfl (by simp [hx]) (by simp [endCheck]) fun _ h =>
    ⟨(idle_of_laneAgrees h (by simp [hx])).1, rfl, (idle_of_laneAgrees h (by simp [hx])).2⟩

theorem laneMoves_parkAdvance (timeout : Nat) (x : LaneCtl) : LaneMoves x (parkAdvance timeout x).1 := by
  unfold parkAdvance
  dsimp only
  (repeat' split) <;> exact laneMoves_of_same ⟨rfl, rfl, rfl, rfl, rfl⟩

/-- R146: a RUNTIME reset. -/
theorem laneMoves_runtimeLane (x : LaneCtl) : LaneMoves x (runtimeLane x) := by
  refine ⟨rfl, fun d h => ?_⟩
  have hdisabled := h.disabled
  cases hx : x.state <;> constructor <;> simp_all [runtimeLane, runtimeLaneState]

end Sys2Proof.Proofs
end

section
/-! Every lane keeps its leads and its agreement through the orders of the sequencers, the steps of the lanes, swaps
and boundaries (R121 to R141). -/
namespace Sys2Proof.Proofs

open Sys2Proof.Machine Sys2Proof.Safety

/-- Every lane moves so. -/
def LanesMoved (s t : State) : Prop := ∀ l, LaneMoves (s.lane.get l) (t.lane.get l)

theorem lanesMoved_refl (s : State) : LanesMoved s s := fun _ => laneMoves_refl _

theorem lanesMoved_trans {s t u : State} (h : LanesMoved s t) (h' : LanesMoved t u) : LanesMoved s u :=
  fun l => laneMoves_trans (h l) (h' l)

theorem lanesMoved_of_eq {s t : State} (h : t.lane = s.lane) : LanesMoved s t := by
  intro l; rw [h]; exact laneMoves_refl _

/-- What has happened before leaves the lanes. -/
theorem lanesMoved_after {s t u : State} (h : LanesMoved t u) (ht : t.lane = s.lane) : LanesMoved s u :=
  lanesMoved_trans (lanesMoved_of_eq ht) h

theorem lanesMoved_set {s t : State} {l : Lane} {x : LaneCtl} (ht : t.lane = s.lane.set l x)
    (h : LaneMoves (s.lane.get l) x) : LanesMoved s t := by
  intro m
  rw [ht, PerLane.get_set]
  split
  · next hm => exact hm ▸ h
  · exact laneMoves_refl _

theorem lanesMoved_setLane {s : State} {l : Lane} {x : LaneCtl} (h : LaneMoves (s.lane.get l) x) :
    LanesMoved s (s.setLane l x) := lanesMoved_set rfl h

theorem lanesMoved_if {s t : State} {p : Prop} [Decidable p] (h : LanesMoved s t) :
    LanesMoved s (if p then t else s) := by
  split
  · exact h
  · exact lanesMoved_refl s

/-! ## Orders of the sequencers (R82 to R92, R121) -/

/-- R121: F's leaving ON, handed to the lanes, cuts their runs. -/
theorem lanesMoved_of_cutIf {s t : State} {p : Prop} [Decidable p]
    (h : t.lane = if p then cutLanes s.lane else s.lane) : LanesMoved s t := by
  intro l
  rw [h]
  split
  · rw [cutLanes, PerLane.get_map]
    split
    · next hrun => exact laneMoves_endRun hrun
    · exact laneMoves_refl _
  · exact laneMoves_refl _

theorem lanesMoved_seqTo (c : Cyl) (st : SeqState) (s : State) : LanesMoved s (seqTo c st s) :=
  lanesMoved_of_cutIf (seqTo_lane c st s)

theorem lanesMoved_enterEngaging (c : Cyl) (s : State) : LanesMoved s (enterEngaging c s) := by
  unfold enterEngaging
  dsimp only
  split
  · exact lanesMoved_trans (lanesMoved_seqTo c .engaging s) (lanesMoved_seqTo c .on _)
  · exact lanesMoved_seqTo c .engaging s

theorem lanesMoved_throwOff (c : Cyl) (x : ThrowCause) (s : State) : LanesMoved s (throwOff c x s) :=
  lanesMoved_of_cutIf (throwOff_lane c x s)

theorem lanesMoved_clearResume (c : Cyl) (s : State) : LanesMoved s (clearResume c s) :=
  lanesMoved_of_eq (by simp)

theorem lanesMoved_laneOrder (s : State) : LanesMoved s (laneOrder s) :=
  lanesMoved_trans (lanesMoved_throwOff .f .fault s) (lanesMoved_clearResume .f _)

theorem lanesMoved_disengageCyl (c : Cyl) (s : State) : LanesMoved s (disengageCyl c s) :=
  lanesMoved_trans (lanesMoved_throwOff c .host s) (lanesMoved_clearResume c _)

/-- R83: an ENGAGE that acts finds its sequencer in OFF, and so cuts no run. -/
theorem lanesMoved_engageCyl (c : Cyl) (s : State) : LanesMoved s (engageCyl c s).1 := by
  have hclear := lanesMoved_clearResume c s
  by_cases h : configuredFor c s = true ∧ ¬ (c = .f ∧ faultedWithSpans s = true) ∧
      (s.seq.get c).state = .off
  · obtain ⟨hconf, hfree, hoff⟩ := h
    cases hw : s.web.stopped with
    | true => rw [engageCyl_stopped hconf hfree hoff hw]; exact hclear
    | false => rw [engageCyl_moving hconf hfree hoff hw]; exact hclear
  · rcases engageCyl_other h with h | h <;> rw [h]
    · exact lanesMoved_refl s
    · exact hclear

theorem lanesMoved_stopThrowOff (s : State) : LanesMoved s (stopThrowOff s) := by
  have hoff : LanesMoved s (throwOff .f .stop { s with stopDwell := none }) :=
    lanesMoved_after (lanesMoved_throwOff .f .stop _) rfl
  unfold stopThrowOff
  dsimp only
  split <;> exact hoff

theorem lanesMoved_startDwell (was : SeqState) (s : State) : LanesMoved s (startDwell was s) := by
  unfold startDwell
  (repeat' split)
  · exact lanesMoved_stopThrowOff s
  · exact lanesMoved_of_eq rfl
  · exact lanesMoved_refl s

theorem lanesMoved_resumeEngage (s : State) : LanesMoved s (resumeEngage s) := by
  have hengage : LanesMoved s { (engageCyl .f s).1 with resume := false } := lanesMoved_engageCyl .f s
  exact lanesMoved_if hengage

theorem lanesMoved_gateEndSeqs (b : Bool) (s : State) : LanesMoved s (gateEndSeqs b s) := by
  have hthrow : LanesMoved s (throwPhaseEvent .e (throwPhaseEvent .f s)) := lanesMoved_of_eq (by simp)
  unfold gateEndSeqs
  (repeat' split)
  · exact lanesMoved_trans hthrow (lanesMoved_startDwell _ _)
  · exact lanesMoved_refl s
  · exact lanesMoved_after (lanesMoved_resumeEngage { s with stopDwell := none }) rfl
  · exact lanesMoved_resumeEngage s

theorem lanesMoved_takeEdge (c : Cyl) (s : State) : LanesMoved s (takeEdge c s) := by
  have hlost : LanesMoved s (confirmLost c s) :=
    lanesMoved_after (lanesMoved_seqTo c .off _) (by simp)
  unfold takeEdge takeRise takeFall
  split
  · split
    · exact lanesMoved_seqTo c .on s
    all_goals exact lanesMoved_refl s
  · split
    · exact hlost
    · exact lanesMoved_seqTo c .off s
    all_goals exact lanesMoved_refl s

theorem lanesMoved_confirmEdge (high : Bool) (x : ConfirmEdge) (s : State) :
    LanesMoved s (confirmEdge high x s) := by
  have hif (b : Bool) (t : State) : LanesMoved t (if b then takeEdge x.cyl t else t) :=
    lanesMoved_if (lanesMoved_takeEdge x.cyl t)
  exact lanesMoved_trans (hif _ s) (lanesMoved_after (hif x.taken (setConfirm x.cyl high _ _)) rfl)

theorem lanesMoved_engageExpiry (c : Cyl) (s : State) : LanesMoved s (engageExpiry c s) := by
  cases hdue : (s.seq.get c).engage with
  | none => rw [engageExpiry_none hdue]; exact lanesMoved_refl s
  | some due =>
    rw [engageExpiry_some hdue]
    refine lanesMoved_after
      (lanesMoved_of_cutIf (enterReleasing_lane c (setCause c .engageTimeout _))) ?_
    simp [stopDwellOf_eq]

theorem lanesMoved_releaseExpiry (c : Cyl) (s : State) : LanesMoved s (releaseExpiry c s) := by
  cases hdue : (s.seq.get c).release with
  | none => rw [releaseExpiry_none hdue]; exact lanesMoved_refl s
  | some due =>
    rw [releaseExpiry_some hdue]
    refine lanesMoved_after
      (lanesMoved_trans (lanesMoved_seqTo c .off (raise _ _)) (lanesMoved_clearResume c _)) ?_
    simp

theorem lanesMoved_stopDwellExpiry (s : State) : LanesMoved s (stopDwellExpiry s) := by
  cases hdue : s.stopDwell with
  | none => rw [stopDwellExpiry_none hdue]; exact lanesMoved_refl s
  | some due => 
    rw [stopDwellExpiry_some hdue]
    exact lanesMoved_after (lanesMoved_stopThrowOff (s.reachTime due)) rfl

/-! ## Swaps, boundaries and steps of the phases (R93, R114, R121, R123, R138) -/

theorem laneMoves_rebuilt (s : State) (l : Lane) (x : LaneCtl) : LaneMoves x (rebuilt s l x) :=
  laneMoves_of_same ⟨rfl, rfl, rfl, rfl, rfl⟩

theorem lanesMoved_rebuildLane (l : Lane) (s : State) : LanesMoved s (rebuildLane l s) :=
  lanesMoved_setLane (laneMoves_rebuilt s l _)

theorem lanesMoved_rebuildAll (s : State) : LanesMoved s (rebuildAll s) := by
  intro l; rw [rebuildAll_get]; exact laneMoves_rebuilt s l _

theorem lanesMoved_swapSeq (p : SheetParams) (c : Cyl) (s : State) : LanesMoved s (swapSeq p c s) := by
  unfold swapSeq
  split
  · exact lanesMoved_refl s
  · exact lanesMoved_trans (lanesMoved_throwOff c .sheet s) (lanesMoved_clearResume c _)

theorem lanesMoved_swapTo (sh : Sheet) (s : State) : LanesMoved s (swapTo sh s) := by
  obtain ⟨-, -, -, -, hentered, -⟩ := swapEntered_frame sh s
  rw [swapTo_eq]
  exact lanesMoved_after (lanesMoved_trans (lanesMoved_swapSeq _ .f _)
    (lanesMoved_trans (lanesMoved_swapSeq _ .e _) (lanesMoved_trans
      (lanesMoved_if (lanesMoved_laneOrder _)) (lanesMoved_rebuildAll _)))) hentered

theorem lanesMoved_swapPending (s : State) : LanesMoved s (swapPending s) := by
  cases hp : s.sheets.pending with
  | none => rw [swapPending_none hp]; exact lanesMoved_refl s
  | some p => rw [swapPending_some hp]; exact lanesMoved_swapTo p s

theorem lanesMoved_lanesBoundary (s : State) : LanesMoved s (lanesBoundary s) := by
  intro l
  rw [lanesBoundary_get, boundaryLane]
  refine laneMoves_trans ?_ (laneMoves_parkAdvance _ _)
  exact laneMoves_of_same ⟨rfl, rfl, rfl, rfl, rfl⟩

theorem lanesMoved_handStep (c : Cyl) (o : PhaseOut) (s : State) : LanesMoved s (handStep c o s) := by
  have hbound : LanesMoved s (if o.boundary then handBoundary c s else s) := by
    refine lanesMoved_if ?_
    cases c with
    | f => exact lanesMoved_trans (lanesMoved_swapPending s) (lanesMoved_lanesBoundary _)
    | e => exact lanesMoved_refl s
  rw [handStep_eq]
  exact lanesMoved_trans hbound (lanesMoved_of_eq (by simp))

theorem lanesMoved_stepPhase (d : TrimDir) (c : Cyl) (s : State) : LanesMoved s (stepPhase d c s) := by
  unfold stepPhase
  split
  · exact lanesMoved_after (lanesMoved_handStep c _ _) rfl
  · exact lanesMoved_refl s

theorem lanesMoved_stepBoth (d : TrimDir) (s : State) : LanesMoved s (stepBoth d s) := by
  unfold stepBoth
  split
  · exact lanesMoved_after
      (lanesMoved_trans (lanesMoved_handStep .f _ _) (lanesMoved_handStep .e _ _)) rfl
  · exact lanesMoved_refl s

theorem lanesMoved_gateEnd (s : State) : LanesMoved s (gateEnd s) := by
  have hseqs (b : Bool) : LanesMoved s (gateEndSeqs b (gated s)) :=
    lanesMoved_after (lanesMoved_gateEndSeqs b (gated s)) rfl
  rw [gateEnd_eq]
  unfold gateEndStore
  split
  · exact lanesMoved_trans (hseqs _) (lanesMoved_swapPending _)
  · exact hseqs _

/-- R57 to R66, R80: what a measurement and a trim pulse hand on. -/
theorem carries_lanesMoved (s : State) : Carries (fun _ => True) (LanesMoved s) where
  aside h hs := lanesMoved_trans hs (lanesMoved_of_eq h.lane)
  pulse d c _ hs := lanesMoved_trans hs (lanesMoved_stepPhase d c _)

/-! ## Resets and COMMIT (R114, R146) -/

theorem lanesMoved_runtimeReset (s : State) : LanesMoved s (runtimeReset s) := by
  unfold runtimeReset
  refine lanesMoved_trans (fun l => ?_) (lanesMoved_rebuildAll _)
  rw [PerLane.get_map]
  exact laneMoves_runtimeLane _

theorem lanesMoved_placeSheet (sh : Sheet) (s : State) : LanesMoved s (placeSheet sh s).1 := by
  unfold placeSheet
  split
  · exact lanesMoved_swapTo sh s
  · exact lanesMoved_of_eq rfl

theorem lanesMoved_commitSheet (s : State) : LanesMoved s (commitSheet s).1 := by
  unfold commitSheet noteCommit
  (repeat' split)
  · exact lanesMoved_of_eq rfl
  · exact lanesMoved_of_eq rfl
  · exact lanesMoved_after (lanesMoved_placeSheet _ _) rfl

end Sys2Proof.Proofs
end

section
/-! What a step can do to the mappings, the direction outputs, the lanes and their leads, said once: a predicate on
these holds after every step if a mapping, CURVE WRITE and a FULL reset keep it (`LaneKeeps`). -/
namespace Sys2Proof.Proofs

open Sys2Proof.Machine Sys2Proof.Safety

/-- The mappings, the anchors and the levels of FDIR stay, and every lane moves so. -/
structure LanesMove (s t : State) : Prop where
  drive : ∀ l, (t.items.lane.get l).drive = (s.items.lane.get l).drive
  anchors : ∀ l, (t.items.lane.get l).anchors = (s.items.lane.get l).anchors
  fdir : ∀ d, (t.drives.get d).fdir = (s.drives.get d).fdir
  lane : LanesMoved s t

theorem lanesMove_trans {s t u : State} (h : LanesMove s t) (h' : LanesMove t u) : LanesMove s u where
  drive l := (h'.drive l).trans (h.drive l)
  anchors l := (h'.anchors l).trans (h.anchors l)
  fdir d := (h'.fdir d).trans (h.fdir d)
  lane := lanesMoved_trans h.lane h'.lane

/-- An operation by what its frame lemma says. -/
theorem lanesMove_of_frame {s t : State} (h : LanesMoved s t) (hf : t.items = s.items ∧ t.drives = s.drives) :
    LanesMove s t :=
  ⟨fun l => by rw [hf.1], fun l => by rw [hf.1], fun d => by rw [hf.2], h⟩

theorem lanesMove_of_rest {s t : State} (h : t.items = s.items ∧ t.drives = s.drives ∧ t.lane = s.lane) :
    LanesMove s t := lanesMove_of_frame (lanesMoved_of_eq h.2.2) ⟨h.1, h.2.1⟩

theorem lanesMove_refl (s : State) : LanesMove s s := lanesMove_of_rest ⟨rfl, rfl, rfl⟩

theorem lanesMove_setLane {s : State} {l : Lane} {x : LaneCtl} (h : LaneMoves (s.lane.get l) x) :
    LanesMove s (s.setLane l x) := lanesMove_of_frame (lanesMoved_setLane h) ⟨rfl, rfl⟩

/-! ## The steps of a lane (R126 to R135, R141) -/

theorem lanesMove_enterFaulted {l : Lane} {s : State} (hx : (s.lane.get l).state ≠ .disabled)
    (broke low out : Bool) : LanesMove s (enterFaulted l broke low out s) := by
  have hraised : LanesMoved s (faultRaised l broke low out s) :=
    lanesMoved_set (faultRaised_lane l broke low out s) (laneMoves_faultedLane hx)
  refine lanesMove_of_frame ?_ (by simp)
  rw [enterFaulted_eq]
  split
  · exact lanesMoved_trans hraised (lanesMoved_laneOrder _)
  · exact hraised

/-- R128: a pulse on FSTP leaves FDIR. -/
theorem pulseOut_fdir (l : Lane) (s : State) (d : Drive) :
    ((pulseOut l s).drives.get d).fdir = (s.drives.get d).fdir := by
  unfold pulseOut
  split
  · rfl
  · dsimp only
    rw [PerDrive.get_set]
    split
    · next hd => rw [hd]
    · rfl

theorem lanesMove_laneStepped (l : Lane) (s : State) : LanesMove s (laneStepped l s) where
  drive m := by simp [laneStepped]
  anchors m := by simp [laneStepped]
  fdir d := pulseOut_fdir l _ d
  lane := lanesMoved_set (laneStepped_lane l s) (laneMoves_stepCounts _ _)

theorem lanesMove_laneStep {l : Lane} {s : State} (hx : (s.lane.get l).state ≠ .disabled) :
    LanesMove s (laneStep l s) := by
  have hstepped := lanesMove_laneStepped l s
  have hx' : ((laneStepped l s).lane.get l).state ≠ .disabled := by
    rw [laneStepped_lane, PerLane.get_set_self]; exact hx
  rw [laneStep_eq]
  (repeat' split)
  · exact lanesMove_enterFaulted hx _ _ _
  · exact lanesMove_trans hstepped (lanesMove_enterFaulted hx' _ _ _)
  · exact lanesMove_trans hstepped (lanesMove_of_rest (by simp))

theorem lanesMove_laneSteps (l : Lane) (n : Nat) (s : State) : LanesMove s (laneSteps l n s) := by
  induction n generalizing s with
  | zero => exact lanesMove_refl s
  | succ n ih =>
    unfold laneSteps
    split
    · next hrun =>
      have hstep : LanesMove s (laneStep l s) := lanesMove_laneStep (by simp [hrun])
      split
      · exact hstep
      · exact lanesMove_trans hstep (ih _)
    · exact lanesMove_refl s

theorem lanesMove_laneRun (l : Lane) (p : Nat) (s : State) : LanesMove s (Machine.laneRun l p s) := by
  have hcount : LanesMove s (runCount l s) := by
    refine lanesMove_trans (lanesMove_setLane ?_) (lanesMove_laneSteps l _ _)
    exact laneMoves_of_same ⟨rfl, rfl, rfl, rfl, rfl⟩
  unfold Machine.laneRun
  dsimp only
  split
  · next hends =>
    have hrun : ((runCount l s).lane.get l).state = .run := by simp_all [runEnds]
    exact lanesMove_trans hcount (lanesMove_setLane (laneMoves_endRun hrun))
  · exact hcount

theorem lanesMove_laneCount (l : Lane) (p : Nat) (s : State) : LanesMove s (laneCount l p s) := by
  unfold laneCount
  dsimp only
  split
  · exact lanesMove_laneRun l p s
  · next hx =>
    (repeat' split)
    · exact lanesMove_refl s
    · exact lanesMove_setLane (laneMoves_of_same ⟨rfl, rfl, rfl, rfl, rfl⟩)
    · exact lanesMove_trans (lanesMove_setLane (laneMoves_startRun hx _ _)) (lanesMove_laneRun l p _)
    · exact lanesMove_refl s
    · exact lanesMove_refl s
  · exact lanesMove_refl s

theorem lanesMove_lanesCount (s : State) : LanesMove s (lanesCount s) :=
  lanesCount_induction (P := LanesMove s) (fun l p _ h => lanesMove_trans h (lanesMove_laneCount l p _))
    (lanesMove_refl s)

theorem lanesMove_checkExpiry (l : Lane) (s : State) : LanesMove s (checkExpiry l s) := by
  unfold checkExpiry
  (repeat' split)
  · next due _ hx =>
    refine lanesMove_trans (lanesMove_of_rest (t := s.reachTime due) (by simp)) ?_
    unfold checkStep
    dsimp only
    split
    · refine lanesMove_trans (lanesMove_setLane (laneMoves_checkTimer hx _)) (lanesMove_laneStep ?_)
      simp [hx]
    · exact lanesMove_setLane (laneMoves_endCheck hx)
  · exact lanesMove_refl s
  · exact lanesMove_refl s

/-! ## Events of the blocks -/

theorem countKeeps_lanesMove (s : State) : CountKeeps (LanesMove s) where
  aside ht hs := lanesMove_trans hs (lanesMove_of_rest ⟨ht.items, ht.drives, ht.lane⟩)
  measure c k r b due hs := lanesMove_trans hs (lanesMove_of_frame
    (carries_measure (carries_lanesMoved _) trivial k r b due (lanesMoved_refl _)) (by simp))
  web _ _ _ _ hs := lanesMove_trans hs (lanesMove_of_rest ⟨rfl, rfl, rfl⟩)
  level x _ hs := lanesMove_trans hs (lanesMove_of_rest (by cases x <;> exact ⟨rfl, rfl, rfl⟩))
  both d hs := lanesMove_trans hs (lanesMove_of_frame (lanesMoved_stepBoth d _) (by simp))
  publish hs := lanesMove_trans hs (lanesMove_of_rest (by simp))
  lanes hs := lanesMove_trans hs (lanesMove_lanesCount _)

theorem lanesMove_indexArrival (c : Cyl) (s : State) : LanesMove s (indexArrival c s) := by
  have hstepped (o : PhaseOut) : LanesMove s (handStep c o (s.setPhase c o.phase)) :=
    lanesMove_of_frame (lanesMoved_after (lanesMoved_handStep c o _) rfl) (by simp)
  unfold indexArrival takeIndex
  split
  · next p _ _ _ =>
    exact lanesMove_trans (hstepped (indexStep p.lSub (p.throw c) (s.phase.get c)))
      (lanesMove_of_rest (by simp))
  · exact lanesMove_of_rest (by simp [countArrival])

theorem lanesMove_spaceEnd (c : Cyl) (s : State) : LanesMove s (spaceEnd c s) := by
  unfold spaceEnd
  dsimp only
  (repeat' split)
  · exact lanesMove_of_rest (by simp)
  · exact lanesMove_of_frame (carries_emitPulse (carries_lanesMoved s) trivial (lanesMoved_of_eq (by simp)))
      (by simp)
  · exact lanesMove_refl s

/-- R146 and chapters 1 to 7: what any event of a block does, but for a FULL reset. -/
theorem lanesMove_event {f : State → State} (hf : BlockEvent f) (s : State) :
    LanesMove s (f s) ∨ ∃ p, f = fullReset p := by
  have hcount := countKeeps_lanesMove s
  have hs := lanesMove_refl s
  cases hf with
  | full p => exact .inr ⟨p, rfl⟩
  | encoder a b => exact .inl (kept_encoderTransition hcount a b hs)
  | gate =>
    refine .inl (lanesMove_of_frame (lanesMoved_gateEnd s) ?_)
    rw [gateEnd_eq]
    unfold gateEndStore
    split <;> simp [gated]
  | index c => exact .inl (lanesMove_indexArrival c s)
  | rise x => exact .inl (kept_markRise hcount x hs)
  | fall x => exact .inl (kept_markFall hcount x hs)
  | space c => exact .inl (lanesMove_spaceEnd c s)
  | stepTime c =>
    refine .inl ?_
    unfold stepTimeEnd
    dsimp only
    split <;> exact lanesMove_of_rest (by simp)
  | confirm high x => exact .inl (lanesMove_of_frame (lanesMoved_confirmEdge high x s) (by simp))
  | engageTimer c =>
    refine .inl (lanesMove_of_frame (lanesMoved_engageExpiry c s) ?_)
    unfold engageExpiry engageTimeout
    split <;> simp [stopDwellOf_eq]
  | releaseTimer c =>
    refine .inl (lanesMove_of_frame (lanesMoved_releaseExpiry c s) ?_)
    unfold releaseExpiry releaseTimeout
    split <;> simp
  | dwell =>
    refine .inl (lanesMove_of_frame (lanesMoved_stopDwellExpiry s) ?_)
    unfold stopDwellExpiry
    split <;> simp
  | motion l => exact .inl (lanesMove_setLane (laneMoves_of_same ⟨rfl, rfl, rfl, rfl, rfl⟩))
  | checkTimer l => exact .inl (lanesMove_checkExpiry l s)
  | runtime => exact .inl (lanesMove_of_frame (lanesMoved_runtimeReset s) (by simp [runtimeReset]))

end Sys2Proof.Proofs
end

section
/-! The requests at the lanes (R120, R122, R130, R137 to R140, R144), and then every step: lanes agree with their
drives, runs, parks and checks, and leads are those of their anchors. -/
namespace Sys2Proof.Proofs

open Sys2Proof.Machine Sys2Proof.Safety

/-! ## Requests -/

theorem lanesMove_writeLane (i : LaneItem) (l : Lane) (v : Nat) (s : State) :
    LanesMove s (writeLane i l v s).1 := by
  have hput : LanesMove s { s with items := { s.items with
      lane := s.items.lane.set l (putLane (s.items.lane.get l) v i).2 } } := by
    refine ⟨fun m => ?_, fun m => ?_, fun _ => rfl, lanesMoved_refl s⟩
    all_goals
      dsimp only
      rw [PerLane.get_set]
      split
      · next hm => subst hm; cases i <;> rfl
      · rfl
  rw [writeLane_eq]
  split
  · exact lanesMove_refl s
  · dsimp only
    split
    · exact lanesMove_trans hput (lanesMove_of_frame (lanesMoved_rebuildLane l _) (by simp))
    · exact hput

/-- The lanes, their items and the drives stay. -/
def LanesAside (s t : State) : Prop := t.items.lane = s.items.lane ∧ t.drives = s.drives ∧ t.lane = s.lane

/-- R179: a write of an item that is no lane's. -/
theorem lanesAside_writeItem {i : Item} (hi : ∀ l, i ≠ .mapping l) (hl : ∀ j l, i ≠ .lane j l) (v : Nat)
    (s : State) : LanesAside s (writeItem i v s).1 := by
  cases i with
  | mapping l => exact absurd rfl (hi l)
  | lane j l => exact absurd rfl (hl j l)
  | web i =>
    change LanesAside s (writeWeb i v s).1
    unfold writeWeb
    cases i <;> dsimp only <;> (repeat' split) <;> exact ⟨rfl, rfl, rfl⟩
  | index i c =>
    change LanesAside s (writeIndex i c v s).1
    unfold writeIndex
    cases i <;> dsimp only <;> (repeat' split) <;> exact ⟨rfl, rfl, rfl⟩
  | mark i =>
    change LanesAside s (writeMark i v s).1
    rw [writeMark_eq]
    (repeat' split) <;> exact ⟨rfl, rfl, rfl⟩
  | geo i =>
    change LanesAside s (writeGeo i v s).1
    rw [writeGeo_eq]
    (repeat' split) <;> simp [LanesAside]
  | loop i c =>
    change LanesAside s (writeLoop i c v s).1
    rw [writeLoop_eq]
    (repeat' split) <;> exact ⟨rfl, rfl, rfl⟩
  | act i =>
    change LanesAside s (writeAct i v s).1
    unfold writeAct
    cases i <;> dsimp only <;> (repeat' split) <;> exact ⟨rfl, rfl, rfl⟩
  | rejectMask =>
    change LanesAside s (writeRejectMask v s).1
    unfold writeRejectMask
    split <;> exact ⟨rfl, rfl, rfl⟩
  | trimInterval =>
    change LanesAside s (writeTrimInterval v s).1
    unfold writeTrimInterval
    split <;> exact ⟨rfl, rfl, rfl⟩
  | freezeOnFirst =>
    change LanesAside s (writeFreeze v s).1
    unfold writeFreeze
    split <;> exact ⟨rfl, rfl, rfl⟩
  | alarmMask =>
    change LanesAside s (writeAlarmMask v s).1
    unfold writeAlarmMask
    split <;> exact ⟨rfl, rfl, rfl⟩

/-- R179: a write of any item but a mapping. -/
theorem lanesMove_writeItem {i : Item} (hi : ∀ l, i ≠ .mapping l) (v : Nat) (s : State) :
    LanesMove s (writeItem i v s).1 := by
  by_cases hl : ∃ j l, i = .lane j l
  · obtain ⟨j, l, rfl⟩ := hl
    exact lanesMove_writeLane j l v s
  · obtain ⟨hitems, hdrives, hlane⟩ := lanesAside_writeItem hi (fun j l h => hl ⟨j, l, h⟩) v s
    exact ⟨fun l => by rw [hitems], fun l => by rw [hitems], fun d => by rw [hdrives],
      lanesMoved_of_eq hlane⟩

/-- The predicates on these that a mapping, CURVE WRITE and a FULL reset keep. -/
structure LaneKeeps (P : State → Prop) : Prop where
  move : ∀ {s t}, LanesMove s t → P s → P t
  mapping : ∀ {s} l v, P s → P (writeMapping l v s).1
  curve : ∀ {s} l as, as.length = 8 → (∀ a ∈ as, a ≤ 4095) → P s → P (storeCurve l as s)
  full : ∀ {s} p, P s → P (fullReset p s)

section
variable {P : State → Prop} (h : LaneKeeps P) {s : State}
include h

theorem laneKeeps_rest {t : State} (hs : P s)
    (hf : t.items = s.items ∧ t.drives = s.drives ∧ t.lane = s.lane) : P t :=
  h.move (lanesMove_of_rest hf) hs

theorem laneKeeps_lane {l : Lane} {x : LaneCtl} (hs : P s) (hx : LaneMoves (s.lane.get l) x) :
    P (s.setLane l x) := h.move (lanesMove_setLane hx) hs

theorem laneKeeps_event {f : State → State} (hf : BlockEvent f) (hs : P s) : P (f s) := by
  rcases lanesMove_event hf s with hmove | ⟨p, rfl⟩
  · exact h.move hmove hs
  · exact h.full p hs

theorem laneKeeps_noteWrite (r : Result) (hs : P s) : P (noteWrite r s) := by
  unfold noteWrite
  split
  · exact laneKeeps_rest h hs ⟨rfl, rfl, rfl⟩
  · exact hs

theorem laneKeeps_configWrite (i : Item) (v : Nat) (hs : P s) :
    P (configWriteWith i (writeItem i v) s).1 := by
  refine laneKeeps_noteWrite h _ ?_
  by_cases hi : ∃ l, i = .mapping l
  · obtain ⟨l, rfl⟩ := hi
    exact h.mapping l v hs
  · exact h.move (lanesMove_writeItem (fun l hl => hi ⟨l, hl⟩) v s) hs

theorem laneKeeps_curveWrite (lane : Byte) (as : List (BitVec 16)) (hs : P s) :
    P (curveWriteReq lane as s).1 := by
  unfold curveWriteReq
  split
  · exact hs
  · next hlen =>
    refine persists_withLane (fun l => ?_) hs
    dsimp only
    split
    · next hall =>
      exact laneKeeps_noteWrite h .ok (h.curve l _ (by simpa using hlen) (by simpa using hall) hs)
    · exact hs

theorem laneKeeps_laneRequest {op : State → State × Reply} (hs : P s)
    (hop : (∃ b, op = lanePark b) ∨ (∃ b, op = laneRelease b) ∨ (∃ b n, op = rollLoad b n) ∨
      ∃ b, op = laneCheck b) : P (op s).1 := by
  rcases hop with ⟨b, rfl⟩ | ⟨b, rfl⟩ | ⟨b, n, rfl⟩ | ⟨b, rfl⟩
  · exact persists_withLane (fun l => laneKeeps_lane h hs (laneMoves_parkLane _)) hs
  · exact persists_withLane (fun l => laneKeeps_lane h hs (laneMoves_releaseLane _)) hs
  · have hroll (l : Lane) : P (s.setLane l { s.lane.get l with foil := n.toNat }) :=
      laneKeeps_lane h hs (laneMoves_of_same ⟨rfl, rfl, rfl, rfl, rfl⟩)
    refine persists_withLane (fun l => ?_) hs
    dsimp only
    split
    · exact hroll l
    · exact hroll l
    · exact hroll l
    all_goals exact hs
  · refine persists_withLane (fun l => ?_) hs
    dsimp only
    split
    · next hx => exact laneKeeps_lane h hs (laneMoves_startCheck hx.1 _ _)
    · exact hs

theorem laneKeeps_disengageCyls (cs : List Cyl) (hs : P s) :
    P (cs.foldl (fun s c => disengageCyl c s) s) := by
  induction cs generalizing s with
  | nil => exact hs
  | cons c cs ih =>
    exact ih (h.move (lanesMove_of_frame (lanesMoved_disengageCyl c s) (by simp [disengageCyl])) hs)

theorem laneKeeps_commitSheet (hs : P s) : P (commitSheet s).1 := by
  refine h.move (lanesMove_of_frame (lanesMoved_commitSheet s) ⟨(commitSheet_frame s).2.1, ?_⟩) hs
  have hplace (sh : Sheet) (t : State) : (placeSheet sh t).1.drives = t.drives := by
    unfold placeSheet; split <;> simp
  unfold commitSheet noteCommit
  (repeat' split) <;> simp [hplace]

/-- R169: what any request does. -/
theorem laneKeeps_requestOp {op : State → State × Reply} (hop : RequestOp op) (hs : P s) : P (op s).1 := by
  have hstaged (x : Staged) : P { s with sheets := { s.sheets with staged := x } } :=
    laneKeeps_rest h hs ⟨rfl, rfl, rfl⟩
  have hloop (c : Cyl) (x : Loop) : P (s.setLoop c x) := laneKeeps_rest h hs (by simp)
  cases hop with
  | reads hread => rw [hread]; exact hs
  | write i v => exact laneKeeps_configWrite h i v hs
  | writeNumber n v =>
    unfold configWriteNumber
    split
    · exact laneKeeps_configWrite h _ _ hs
    · exact hs
  | curve l as => exact laneKeeps_curveWrite h l as hs
  | params =>
    unfold sheetParamWrite
    split
    · exact hstaged _
    · exact hs
  | windows =>
    unfold windowWrite
    (repeat' split)
    · exact hs
    · exact hs
    · exact hstaged _
  | edit =>
    unfold windowEdit
    split
    · exact hs
    · exact hstaged _
  | copyBack =>
    unfold sheetCopyBack
    split
    · exact hstaged _
    · exact hs
  | clearSheet => exact hstaged _
  | commit => exact laneKeeps_commitSheet h hs
  | engage =>
    exact persists_withCyl
      (fun c => h.move (lanesMove_of_frame (lanesMoved_engageCyl c s) (by simp)) hs) hs
  | disengage =>
    unfold disengageReq
    split
    · exact hs
    · exact laneKeeps_disengageCyls h _ hs
  | loopMode =>
    refine persists_withCyl (fun c => ?_) hs
    dsimp only
    (repeat' split)
    · exact hs
    · exact hs
    · exact hloop c _
  | nudge => exact persists_withCyl (fun c => hloop c _) hs
  | trimMove =>
    refine persists_withCyl (fun c => h.move (lanesMove_of_frame ?_ (by simp)) hs) hs
    exact carries_commitTrim (carries_lanesMoved s) trivial _ (lanesMoved_refl s)
  | trimZero =>
    refine persists_withCyl (fun c => ?_) hs
    dsimp only
    split
    · exact hloop c _
    · exact hs
  | park b => exact laneKeeps_laneRequest h hs (.inl ⟨b, rfl⟩)
  | release b => exact laneKeeps_laneRequest h hs (.inr (.inl ⟨b, rfl⟩))
  | roll b n => exact laneKeeps_laneRequest h hs (.inr (.inr (.inl ⟨b, n, rfl⟩)))
  | check b => exact laneKeeps_laneRequest h hs (.inr (.inr (.inr ⟨b, rfl⟩)))
  | flush => exact laneKeeps_rest h hs ⟨rfl, rfl, rfl⟩
  | clearFaults =>
    unfold faultClearReq
    split
    · exact hs
    · exact laneKeeps_rest h hs ⟨rfl, rfl, rfl⟩
  | clearCounters =>
    have hlanes : LanesMoved s (clearCounters s) := fun l => by
      cases l <;> exact laneMoves_of_same ⟨rfl, rfl, rfl, rfl, rfl⟩
    exact h.move (lanesMove_of_frame hlanes ⟨rfl, rfl⟩) hs
  | restart =>
    unfold restartReq
    (repeat' split)
    · exact laneKeeps_rest h hs ⟨rfl, rfl, rfl⟩
    · exact laneKeeps_rest h hs ⟨rfl, rfl, rfl⟩
    · exact hs

/-- What a mapping, CURVE WRITE and a FULL reset keep, every step keeps. -/
theorem laneKeeps_step {t : State} (hstep : step s = .next t) (hs : P s) : P t :=
  kept_by_step (fun _ hs => laneKeeps_rest h hs ⟨rfl, rfl, rfl⟩)
    (fun _ _ hs => laneKeeps_rest h hs ⟨rfl, rfl, rfl⟩) (laneKeeps_requestOp h) (laneKeeps_event h) hstep hs

end

end Sys2Proof.Proofs
end

section
/-! Lanes agree with drives, runs, parks and checks, and leads are those of their anchors, after every step (R119 to
R122, R137, R141). -/
namespace Sys2Proof.Proofs

open Sys2Proof.Machine Sys2Proof.Safety

/-! ## CURVE WRITE (R122) -/

/-- R122, R123: a lane with the leads of new anchors, its run list built anew. -/
def recurved (l : Lane) (as : List Nat) (s : State) : LaneCtl :=
  rebuilt { s with items := anchored s.items l as } l { s.lane.get l with leads := expandCurve as }

theorem storeCurve_eq (l : Lane) (as : List Nat) (s : State) : storeCurve l as s =
    { s with items := anchored s.items l as, lane := s.lane.set l (recurved l as s) } := by
  unfold storeCurve rebuildLane State.setLane
  simp only [PerLane.get_set_self, PerLane.set_set_self]
  rfl

theorem anchored_drive (x : Items) (l : Lane) (as : List Nat) (m : Lane) :
    ((anchored x l as).lane.get m).drive = (x.lane.get m).drive := by
  unfold anchored
  rw [PerLane.get_set]
  split
  · next hm => rw [hm]
  · rfl

/-- R122: between two anchors the lead stays between them. -/
theorem lead_between {a b : Int} (ha : 0 ≤ a ∧ a ≤ 4095) (hb : 0 ≤ b ∧ b ≤ 4095) {j : Nat} (hj : j < 9) :
    0 ≤ a + ((b - a) * (j : Int) + 4) / 9 ∧ a + ((b - a) * (j : Int) + 4) / 9 ≤ 4095 := by
  interval_cases j <;> omega

theorem getD_le {as : List Nat} (h : ∀ a ∈ as, a ≤ 4095) (k : Nat) : as.getD k 0 ≤ 4095 := by
  rw [List.getD_eq_getElem?_getD]
  cases hk : as[k]? with
  | none => simp
  | some a => exact h a (List.mem_of_getElem? hk)

theorem leadAt_formula {as : List Nat} (h : ∀ a ∈ as, a ≤ 4095) (i : Nat) :
    (leadAt as i : Int) = leadFormula as i ∧ leadAt as i ≤ 4095 := by
  have hle := getD_le h
  unfold leadAt leadFormula
  split
  · exact ⟨rfl, hle 7⟩
  · have hbetween := lead_between (a := as.getD (i / 9) 0) (b := as.getD (i / 9 + 1) 0)
      ⟨by omega, by exact_mod_cast hle _⟩ ⟨by omega, by exact_mod_cast hle _⟩ (Nat.mod_lt i (by decide : 0 < 9))
    dsimp only
    omega

theorem expandCurve_getD (as : List Nat) {i : Nat} (hi : i < 64) :
    (expandCurve as).getD i 0 = leadAt as i := by
  simp [expandCurve, hi]

/-! ## Mappings (R119, R120) -/

theorem setDir_fdir (o : Option Drive) (b : Bool) (s : State) (d : Drive) :
    ((setDir o b s).drives.get d).fdir = if o = some d then b else (s.drives.get d).fdir := by
  cases o with
  | none => simp [setDir]
  | some e =>
    simp only [setDir, PerDrive.get_set, Option.some.injEq, eq_comm (a := e)]
    split
    · rfl
    · rfl

/-- R120: the lane as its mapping changes. -/
def mappedLane (d : Option Drive) (x : LaneCtl) : LaneCtl :=
  match d, x.state with
  | some _, .disabled => { x with state := .dwell, hold := true }
  | none, .dwell => { x with state := .disabled }
  | _, _ => x

/-- R120: the items with a mapping put in. -/
def mappedItems (x : Items) (l : Lane) (d : Option Drive) : Items :=
  { x with lane := x.lane.set l { x.lane.get l with drive := d } }

theorem remap_eq {l : Lane} {d : Option Drive} {s : State} (h : (s.items.lane.get l).drive ≠ d) :
    remap l d s = { s with
      items := mappedItems s.items l d
      lane := s.lane.set l (mappedLane d (s.lane.get l))
      drives := (setDir d true (setDir (s.items.lane.get l).drive false s)).drives } := by
  have hdirs (o : Option Drive) (t : State) :
      (setDir d true (setDir o false t)) = { t with drives := (setDir d true (setDir o false t)).drives } := by
    cases o <;> cases d <;> rfl
  unfold remap
  dsimp only
  rw [if_neg h, hdirs]
  cases (s.items.lane.get l).drive <;> cases d <;> rfl

theorem mappedItems_drive (x : Items) (l : Lane) (d : Option Drive) (m : Lane) :
    ((mappedItems x l d).lane.get m).drive = if m = l then d else (x.lane.get m).drive := by
  unfold mappedItems
  rw [PerLane.get_set]
  split <;> rfl

theorem laneAgrees_mappedLane {o d : Option Drive} {x : LaneCtl} (h : LaneAgrees o x) (hne : o ≠ d)
    (hx : x.state = .disabled ∨ x.state = .dwell) : LaneAgrees d (mappedLane d x) := by
  have hparts : x.run = none ∧ x.checkTimer = none ∧ x.parkPending = false := by
    have hrun : x.state ≠ .run := by rcases hx with hx | hx <;> simp [hx]
    have hcheck : x.state ≠ .check := by rcases hx with hx | hx <;> simp [hx]
    obtain ⟨hnone, hpark⟩ := idle_of_laneAgrees h hrun
    exact ⟨hnone, untimed_of_laneAgrees h hcheck, hpark⟩
  obtain ⟨hrun, htimer, hpark⟩ := hparts
  have hdisabled := h.disabled
  rcases hx with hx | hx
  · cases d with
    | none => exact absurd (hdisabled.1 hx) hne
    | some e => constructor <;> simp [mappedLane, hx, hrun, htimer, hpark]
  · cases d with
    | none => constructor <;> simp [mappedLane, hx, hrun, htimer, hpark]
    | some e => constructor <;> simp [mappedLane, hx, hrun, htimer, hpark]

/-- R120: a mapping is put in, admitted by its four tests, or nothing changes. -/
theorem writeMapping_remap_or_same (l : Lane) (v : Nat) (s : State) : (writeMapping l v s).1 = s ∨
    ∃ d, (writeMapping l v s).1 = remap l d s ∧ (s.items.lane.get l).drive ≠ d ∧
      ((s.lane.get l).state = .disabled ∨ (s.lane.get l).state = .dwell) ∧
      ∀ m e, d = some e → m ≠ l → (s.items.lane.get m).drive ≠ some e := by
  cases hv : mappingOf v with
  | none => exact .inl (by simp [writeMapping, hv, refuse])
  | some d =>
    rw [writeMapping_eq hv]
    (repeat' split)
    · exact .inl rfl
    · exact .inl rfl
    · exact .inl rfl
    · next hbusy _ helse =>
      by_cases hd : (s.items.lane.get l).drive = d
      · exact .inl (by simp [remap, hd])
      · refine .inr ⟨d, rfl, hd, ?_, ?_⟩
        · rw [mappingBusy_iff, not_or, not_and_or, not_not, not_not] at hbusy
          exact hbusy.1
        · rintro m e rfl hm hdrive
          exact helse (mappedElsewhere_iff.2 ⟨m, hm, hdrive⟩)

/-! ## Lanes and drives -/

theorem lanes_of_agrees {s t : State} (hs : LaneSound s ∧ DriveSound s)
    (hdrive : ∀ l, (t.items.lane.get l).drive = (s.items.lane.get l).drive)
    (hfdir : ∀ d, (t.drives.get d).fdir = (s.drives.get d).fdir)
    (hlane : ∀ l d, LaneAgrees d (s.lane.get l) → LaneAgrees d (t.lane.get l)) :
    LaneSound t ∧ DriveSound t := by
  obtain ⟨hsound, hone, hlevel⟩ := hs
  refine ⟨laneSound_iff.2 fun l => ?_, fun l m d => ?_, fun d => ?_⟩
  · rw [hdrive]; exact hlane l _ (laneSound_iff.1 hsound l)
  · rw [hdrive, hdrive]; exact hone l m d
  · simp only [hfdir, hdrive]; exact hlevel d

theorem driveSound_remap {l : Lane} {d : Option Drive} {s t : State} (hs : DriveSound s)
    (helse : ∀ m e, d = some e → m ≠ l → (s.items.lane.get m).drive ≠ some e)
    (hdrive : ∀ m, (t.items.lane.get m).drive = if m = l then d else (s.items.lane.get m).drive)
    (hfdir : ∀ e, (t.drives.get e).fdir = if d = some e then true
      else if (s.items.lane.get l).drive = some e then false else (s.drives.get e).fdir) : DriveSound t := by
  obtain ⟨hone, hlevel⟩ := hs
  refine ⟨fun m n e => ?_, fun e => ?_⟩
  · rw [hdrive, hdrive]
    split <;> split
    · next hm hn => exact fun _ _ => hm.trans hn.symm
    · next hn => exact fun hd hme => absurd hme (helse n e hd hn)
    · next hm _ => exact fun hme hd => absurd hme (helse m e hd hm)
    · exact hone m n e
  · simp only [hfdir, hdrive]
    by_cases hd : d = some e
    · exact iff_of_true (if_pos hd) ⟨l, by rw [if_pos rfl, hd]⟩
    have hother (m : Lane) : (if m = l then d else (s.items.lane.get m).drive) = some e ↔
        m ≠ l ∧ (s.items.lane.get m).drive = some e := by
      split
      · next hm => simp [hm, hd]
      · next hm => simp [hm]
    simp only [hother, if_neg hd]
    by_cases hold : (s.items.lane.get l).drive = some e
    · rw [if_pos hold]
      exact iff_of_false (by simp) fun ⟨m, hm, hme⟩ => hm (hone m l e hme hold)
    · rw [if_neg hold, hlevel]
      exact ⟨fun ⟨m, hme⟩ => ⟨m, fun hm => hold (hm ▸ hme), hme⟩, fun ⟨m, _, hme⟩ => ⟨m, hme⟩⟩

theorem lanes_writeMapping {s : State} (hs : LaneSound s ∧ DriveSound s) (l : Lane) (v : Nat) :
    LaneSound (writeMapping l v s).1 ∧ DriveSound (writeMapping l v s).1 := by
  rcases writeMapping_remap_or_same l v s with hsame | ⟨d, hput, hne, hx, helse⟩
  · rw [hsame]; exact hs
  rw [hput, remap_eq hne]
  refine ⟨laneSound_iff.2 fun m => ?_, driveSound_remap hs.2 helse (mappedItems_drive s.items l d)
    fun e => by rw [setDir_fdir, setDir_fdir]⟩
  have hagrees := laneSound_iff.1 hs.1
  rw [mappedItems_drive, PerLane.get_set]
  split
  · exact laneAgrees_mappedLane (hagrees l) hne hx
  · exact hagrees m

theorem laneKeeps_lanes : LaneKeeps fun s => LaneSound s ∧ DriveSound s where
  move hm hs := lanes_of_agrees hs hm.drive hm.fdir fun l => (hm.lane l).agrees
  mapping l v hs := lanes_writeMapping hs l v
  curve {s} l as _ _ hs := by
    rw [storeCurve_eq]
    refine lanes_of_agrees hs (anchored_drive s.items l as) (fun _ => rfl) fun m d => ?_
    dsimp only
    rw [PerLane.get_set]
    split
    · next hm => subst hm; exact laneAgrees_of_same ⟨rfl, rfl, rfl, rfl⟩
    · exact id
  full p _ := lanes_of_agrees lanes_reset (fun _ => rfl) (fun _ => rfl) fun _ _ h => h

/-- Settles O18: a lane's own moves keep its agreement, and a mapping moves lane, items and FDIR together. -/
theorem stepKeepsLanes : Obligations.StepKeepsLanes := fun _ _ h hstep => laneKeeps_step laneKeeps_lanes hstep h

/-! ## Leads -/

/-- R122: leads are those of eight anchors. -/
def LeadsOf (as leads : List Nat) : Prop :=
  as.length = 8 ∧ leads.length = 64 ∧ (∀ a ∈ as, a ≤ 4095) ∧
    ∀ i, i < 64 → (leads.getD i 0 : Int) = leadFormula as i ∧ leads.getD i 0 ≤ 4095

theorem leadSound_iff {s : State} :
    LeadSound s ↔ ∀ l, LeadsOf (s.items.lane.get l).anchors (s.lane.get l).leads := Iff.rfl

theorem leadsOf_expandCurve {as : List Nat} (hlen : as.length = 8) (hle : ∀ a ∈ as, a ≤ 4095) :
    LeadsOf as (expandCurve as) := by
  refine ⟨hlen, by simp [expandCurve], hle, fun i hi => ?_⟩
  rw [expandCurve_getD as hi]
  exact leadAt_formula hle i

theorem leadSound_of_same {s t : State} (h : LeadSound s)
    (ha : ∀ l, (t.items.lane.get l).anchors = (s.items.lane.get l).anchors)
    (hl : ∀ l, (t.lane.get l).leads = (s.lane.get l).leads) : LeadSound t := by
  refine leadSound_iff.2 fun l => ?_
  rw [ha, hl]
  exact leadSound_iff.1 h l

theorem mappedLane_leads (d : Option Drive) (x : LaneCtl) : (mappedLane d x).leads = x.leads := by
  unfold mappedLane; split <;> rfl

/-- R120: a mapping leaves the anchors and the leads. -/
theorem leadSound_writeMapping {s : State} (h : LeadSound s) (l : Lane) (v : Nat) :
    LeadSound (writeMapping l v s).1 := by
  rcases writeMapping_remap_or_same l v s with hsame | ⟨d, hput, hne, -, -⟩
  · rw [hsame]; exact h
  rw [hput, remap_eq hne]
  refine leadSound_of_same h (fun m => ?_) fun m => ?_
  · dsimp only [mappedItems]
    rw [PerLane.get_set]
    split
    · next hm => rw [hm]
    · rfl
  · dsimp only
    rw [PerLane.get_set]
    split
    · next hm => rw [mappedLane_leads, hm]
    · rfl

theorem leadSound_storeCurve {s : State} (h : LeadSound s) (l : Lane) {as : List Nat}
    (hlen : as.length = 8) (hle : ∀ a ∈ as, a ≤ 4095) : LeadSound (storeCurve l as s) := by
  rw [storeCurve_eq]
  refine leadSound_iff.2 fun m => ?_
  dsimp only [anchored]
  rw [PerLane.get_set, PerLane.get_set]
  split
  · exact leadsOf_expandCurve hlen hle
  · exact leadSound_iff.1 h m

theorem laneKeeps_leads : LaneKeeps LeadSound where
  move hm hs := leadSound_of_same hs hm.anchors fun l => (hm.lane l).leads
  mapping l v hs := leadSound_writeMapping hs l v
  curve l _ hlen hle hs := leadSound_storeCurve hs l hlen hle
  full _ _ := leadSound_of_same leadSound_reset (fun _ => rfl) fun _ => rfl

/-- Settles O19: leads and anchors change together, at CURVE WRITE and at a FULL reset. -/
theorem stepKeepsLeads : Obligations.StepKeepsLeads := fun _ _ h hstep => laneKeeps_step laneKeeps_leads hstep h

end Sys2Proof.Proofs
end

section
/-! PARK, RELEASE, ROLL LOAD and LANE CHECK as rows (R130, R137, R139, R140, R156, R184). -/
namespace Sys2Proof.Proofs

open Sys2Proof.Machine Sys2Proof.Safety Sys2Proof.Laws

section
variable {l : Lane} {s : State} {y : LaneCtl} {r : Result}

theorem natBytes_one (n : Nat) : natBytes 1 n = [BitVec.ofNat 8 n] := by simp [natBytes]

/-! ## What each request answers for a lane -/

/-- R137, R184. -/
theorem exec_lanePark (h : Ready s) (hp : parkLane (s.lane.get l) = (y, r)) :
    exec (.lanePark (laneByte l)) s =
      .next (answered 0x30 ⟨r, [BitVec.ofNat 8 (LaneState.code y.state)]⟩ (s.setLane l y)) := by
  refine congrArg Host.Outcome.next (hostRequest_answered h 0x30 (t := s.setLane l y) ?_ rfl)
  have hheard : parkLane ((heard s).lane.get l) = (y, r) := hp
  rw [lanePark, withLane_laneByte, hheard]
  dsimp only
  rw [natBytes_one]
  rfl

/-- R139, R184. -/
theorem exec_laneRelease (h : Ready s) (hp : releaseLane (s.lane.get l) = (y, r)) :
    exec (.laneRelease (laneByte l)) s =
      .next (answered 0x31 ⟨r, [BitVec.ofNat 8 (LaneState.code y.state)]⟩ (s.setLane l y)) := by
  refine congrArg Host.Outcome.next (hostRequest_answered h 0x31 (t := s.setLane l y) ?_ rfl)
  have hheard : releaseLane ((heard s).lane.get l) = (y, r) := hp
  rw [laneRelease, withLane_laneByte, hheard]
  dsimp only
  rw [natBytes_one]
  rfl

/-- R130: a lane that takes no steps now is given its roll. -/
theorem exec_rollLoad_taken (h : Ready s) (n : BitVec 32) (hx : (s.lane.get l).state = .disabled ∨
    (s.lane.get l).state = .parked ∨ (s.lane.get l).state = .faulted) :
    exec (.rollLoad (laneByte l) n) s = .next (answered 0x32 ⟨.ok, natBytes 4 n.toNat⟩
      (s.setLane l { s.lane.get l with foil := n.toNat })) := by
  refine congrArg Host.Outcome.next (hostRequest_answered h 0x32
    (t := s.setLane l { s.lane.get l with foil := n.toNat }) ?_ rfl)
  have hstate : ((heard s).lane.get l).state = (s.lane.get l).state := rfl
  rw [rollLoad, withLane_laneByte]
  rcases hx with hx | hx | hx <;> simp only [hstate, hx] <;> rfl

theorem exec_rollLoad_refused (h : Ready s) (n : BitVec 32) (hx : (s.lane.get l).state = .dwell ∨
    (s.lane.get l).state = .run ∨ (s.lane.get l).state = .check) :
    exec (.rollLoad (laneByte l) n) s =
      .next (answered 0x32 ⟨.badState, natBytes 4 (s.lane.get l).foil⟩ s) := by
  refine read_answered h rfl ?_
  have hstate : ((heard s).lane.get l).state = (s.lane.get l).state := rfl
  rw [rollLoad, withLane_laneByte]
  rcases hx with hx | hx | hx <;> simp only [hstate, hx] <;> rfl

/-- R140: a check starts in PARKED with F in OFF. -/
theorem exec_laneCheck_taken (h : Ready s) (hx : (s.lane.get l).state = .parked)
    (hf : s.seq.f.state = .off) : exec (.laneCheck (laneByte l)) s = .next (answered 0x33 ⟨.pending, [4]⟩
      (s.setLane l (startCheck s.now (s.items.lane.get l) (s.lane.get l)))) := by
  refine congrArg Host.Outcome.next (hostRequest_answered h 0x33
    (t := s.setLane l (startCheck s.now (s.items.lane.get l) (s.lane.get l))) ?_ rfl)
  have hstarts : ((heard s).lane.get l).state = .parked ∧ ((heard s).seq.get .f).state = .off := ⟨hx, hf⟩
  have hcode (u : State) : laneCode l (u.setLane l (startCheck s.now (s.items.lane.get l)
      (s.lane.get l))) = [4] := by
    rw [laneCode, setLane_lane, PerLane.get_set_self, natBytes_one]
    rfl
  rw [laneCheck, withLane_laneByte]
  dsimp only
  rw [if_pos hstarts]
  exact congrArg (fun b => (_, Reply.mk .pending b)) (hcode (heard s))

theorem exec_laneCheck_refused (h : Ready s) (hx : (s.lane.get l).state ≠ .parked ∨ s.seq.f.state ≠ .off) :
    exec (.laneCheck (laneByte l)) s = .next (answered 0x33
      ⟨.badState, [BitVec.ofNat 8 (LaneState.code (s.lane.get l).state)]⟩ s) := by
  refine read_answered h rfl ?_
  have hnot : ¬ (((heard s).lane.get l).state = .parked ∧ ((heard s).seq.get .f).state = .off) :=
    fun ⟨hp, hf⟩ => hx.elim (· hp) (· hf)
  rw [laneCheck, withLane_laneByte]
  dsimp only
  rw [if_neg hnot, laneCode, natBytes_one]
  rfl

end

/-- Settles O47: each request by the lane's state, as `parkLane` and `releaseLane` list them. -/
theorem laneRequestsByState : Obligations.LaneRequestsByState := by
  intro l n s h x it code park release
  have hpark (st : LaneState) {y : LaneCtl} {r : Result} (hp : parkLane x = (y, r)) (hst : y.state = st) :
      park r (BitVec.ofNat 8 st.code) y := hst ▸ exec_lanePark h hp
  have hrelease (st : LaneState) {y : LaneCtl} {r : Result} (hp : releaseLane x = (y, r))
      (hst : y.state = st) : release r (BitVec.ofNat 8 st.code) y := hst ▸ exec_laneRelease h hp
  refine ⟨fun hx => hpark .parked (by simp [parkLane, hx, parkBegin]) rfl,
    fun hx => hpark .run (by simp [parkLane, hx]) hx, fun hx => ?already, fun hx => ?badState,
    fun hx => hrelease .dwell (by simp [releaseLane, hx]) rfl,
    fun hx hp => hrelease .run (by simp [releaseLane, hx, hp]) hx,
    fun hx hp => hrelease .run (by simp [releaseLane, hx, hp]) hx,
    fun hx => hrelease .dwell (by simp [releaseLane, hx]) hx,
    fun hx => hrelease .check (by simp [releaseLane, hx]) hx,
    fun hx hfoil => hrelease .dwell (by simp [releaseLane, hx, hfoil]) rfl,
    fun hx hfoil => hrelease .faulted (by simp [releaseLane, hx, hfoil]) hx,
    fun hx => hrelease .disabled (by simp [releaseLane, hx]) hx,
    exec_rollLoad_taken h n, exec_rollLoad_refused h n, exec_laneCheck_taken h, exec_laneCheck_refused h⟩
  case already =>
    rcases hx with hx | hx
    · exact hpark _ (by simp [parkLane, hx]) rfl
    · exact hpark _ (by simp [parkLane, hx]) rfl
  case badState =>
    rcases hx with hx | hx
    · exact hpark _ (by simp [parkLane, hx]) rfl
    · exact hpark _ (by simp [parkLane, hx]) rfl

end Sys2Proof.Proofs
end

section
/-! A mapping given to a lane without a drive, and a curve stored (R119, R120, R122, R180). -/
namespace Sys2Proof.Proofs

open Sys2Proof.Machine Sys2Proof.Safety Sys2Proof.Laws

section
variable {l : Lane} {s : State}

/-! ## A mapping (R119, R120) -/

theorem mappingOf_code (d : Drive) : mappingOf (BitVec.ofNat 32 (Drive.code d)).toNat = some (some d) := by
  cases d <;> rfl

/-- R119, R120: a drive given to a lane without one. -/
theorem remap_unmapped {d : Drive} (h : (s.items.lane.get l).drive = none) : remap l (some d) s = { s with
    items := mappedItems s.items l (some d)
    lane := s.lane.set l (mappedLane (some d) (s.lane.get l))
    drives := s.drives.set d { s.drives.get d with fdir := true } } := by
  have hne : (s.items.lane.get l).drive ≠ some d := by rw [h]; exact nofun
  rw [remap_eq hne, h]
  rfl

/-- R120: the write that enables a lane passes the four tests. -/
theorem writeMapping_enables {d : Drive} (hx : (s.lane.get l).state = .disabled)
    (hdrive : (s.items.lane.get l).drive = none) (hf : s.seq.f.state = .off)
    (hfree : ∀ m, (s.items.lane.get m).drive ≠ some d) :
    writeMapping l (BitVec.ofNat 32 (Drive.code d)).toNat s = ({ s with
      items := mappedItems s.items l (some d)
      lane := s.lane.set l { s.lane.get l with state := .dwell, hold := true }
      drives := s.drives.set d { s.drives.get d with fdir := true } }, .ok) := by
  have helse : mappedElsewhere s l d ≠ true := fun h =>
    have ⟨m, _, hm⟩ := mappedElsewhere_iff.1 h
    hfree m hm
  have hlane : mappedLane (some d) (s.lane.get l) = { s.lane.get l with state := .dwell, hold := true } := by
    simp [mappedLane, hx]
  rw [writeMapping_eq (mappingOf_code d), mappingBusy_false (.inl hx) hf, remap_unmapped hdrive, hlane]
  simp [helse]

/-! ## A curve (R122, R180) -/

theorem anchors_le_iff {as : List (BitVec 16)} :
    (as.map (·.toNat)).all (· ≤ 4095) = true ↔ ∀ a ∈ as, a.toNat ≤ 4095 := by simp

theorem noteWrite_storeCurve (l : Lane) (as : List Nat) (s : State) : noteWrite .ok (storeCurve l as s) =
    { s with items := anchored s.items l as, lane := s.lane.set l (recurved l as s), configDefault := false } := by
  rw [storeCurve_eq]
  rfl

theorem exec_curveWrite_taken (h : Ready s) {as : List (BitVec 16)} (hlen : as.length = 8)
    (hle : ∀ a ∈ as, a.toNat ≤ 4095) : exec (.curveWrite (laneByte l) as) s =
      .next (answered 0x04 ⟨.ok, []⟩ (noteWrite .ok (storeCurve l (as.map (·.toNat)) s))) := by
  have hop : curveWriteReq (laneByte l) as (heard s) =
      (heard (noteWrite .ok (storeCurve l (as.map (·.toNat)) s)), ⟨.ok, []⟩) := by
    rw [curveWriteReq, if_neg (not_not.2 hlen), withLane_laneByte]
    dsimp only
    rw [if_pos (anchors_le_iff.2 hle), noteWrite_storeCurve, noteWrite_storeCurve]
    rfl
  exact congrArg Host.Outcome.next (hostRequest_answered h 0x04 hop (by rw [noteWrite_storeCurve]))

theorem exec_curveWrite_refused (h : Ready s) {as : List (BitVec 16)} (hlen : as.length = 8)
    (hgt : ∃ a ∈ as, 4095 < a.toNat) :
    exec (.curveWrite (laneByte l) as) s = .next (answered 0x04 ⟨.badValue, []⟩ s) := by
  obtain ⟨a, ha, hgt⟩ := hgt
  refine read_answered h rfl ?_
  rw [curveWriteReq, if_neg (not_not.2 hlen), withLane_laneByte]
  dsimp only
  rw [if_neg fun hall => absurd (anchors_le_iff.1 hall a ha) (by omega)]

end

/-- Settles O60: the write of the mapping passes its four tests, and the curve is stored with its leads. -/
theorem mappingAndCurveWrite : Obligations.MappingAndCurveWrite := by
  intro l s h
  refine ⟨fun d hx hdrive hf hfree => ?mapping, fun as hlen hle => ?curve, fun as => exec_curveWrite_refused h⟩
  case mapping =>
    have hop : configWriteWith (.mapping l) (writeItem (.mapping l) (BitVec.ofNat 32 (Drive.code d)).toNat)
        (heard s) = (heard { s with
          items := mappedItems s.items l (some d)
          lane := s.lane.set l { s.lane.get l with state := .dwell, hold := true }
          drives := s.drives.set d { s.drives.get d with fdir := true }
          configDefault := false }, ⟨.ok, itemBody (itemNumber (.mapping l))
            (itemValue (mappedItems s.items l (some d)) (.mapping l))⟩) := by
      rw [configWriteWith, writeItem, writeMapping_enables (s := heard s) hx hdrive hf hfree]
      rfl
    refine ⟨_, congrArg Host.Outcome.next (hostRequest_answered h 0x02 hop rfl), rfl, rfl, ?_, rfl⟩
    exact (mappedItems_drive s.items l (some d) l).trans (if_pos rfl)
  case curve =>
    have hmem : ∀ a ∈ as.map (·.toNat), a ≤ 4095 := by simpa using hle
    refine ⟨_, exec_curveWrite_taken h hlen hle, ?_⟩
    rw [noteWrite_storeCurve]
    refine ⟨?_, ?_, fun i hi => ?_, fun m hm => ⟨PerLane.get_set_ne _ _ hm, PerLane.get_set_ne _ _ hm⟩, ?_, ?_,
      rfl, rfl, rfl⟩
    all_goals simp only [answered, anchored, PerLane.get_set_self]
    · simp [recurved, rebuilt, expandCurve]
    · rw [← (leadAt_formula hmem i).1, ← expandCurve_getD _ hi]
      rfl
    · rfl
    · rfl

end Sys2Proof.Proofs
end

section
/-! A lane enters FAULTED (R135), and the motion pulses and steps of a lane check (R128, R131 to R134, R141). -/
namespace Sys2Proof.Proofs

open Sys2Proof.Machine Sys2Proof.Safety

/-! ## A lane enters FAULTED (R135) -/

section
variable (l : Lane) (broke low out : Bool) (s : State)

theorem faultRaised_flags (h : s.items.freeze = false) : (faultRaised l broke low out s).faults.flags =
    s.faults.flags ||| ((if broke then 0x001#12 else 0) ||| (if low then 0x800#12 else 0) |||
      (if out then 0x002#12 else 0)) := by
  have hraise (b : Bool) (r : Raise) {t : State} (ht : t.items.freeze = false) :
      (raiseIf b r t).faults.flags = t.faults.flags ||| (if b then faultBit r.code else 0#12) := by
    cases b
    · simp [raiseIf]
    · exact raise_flags ht r
  have hstart : (s.setLane l (faultedLane (s.lane.get l))).faults = s.faults := rfl
  rw [faultRaised, hraise _ _ (by simpa using h), hraise _ _ (by simpa using h), hraise _ _ (by simpa using h),
    hstart, BitVec.or_assoc, BitVec.or_assoc, BitVec.or_assoc]
  rfl

/-- R92: the throw-off order of the lane, if the sheet gives it spans. -/
theorem enterFaulted_order : enterFaulted l broke low out s = if s.spans l = [] then
    faultRaised l broke low out s else laneOrder (faultRaised l broke low out s) := by
  have hspans : (faultRaised l broke low out s).spans l = s.spans l := by simp [faultRaised, State.spans]
  rw [enterFaulted_eq, State.hasSpans, hspans]
  cases s.spans l <;> rfl

theorem faultRaised_seq : (faultRaised l broke low out s).seq = s.seq := by simp [faultRaised]

theorem enterFaulted_faults : (enterFaulted l broke low out s).faults = (faultRaised l broke low out s).faults := by
  rw [enterFaulted_order]
  split
  · rfl
  · simp

theorem laneOrder_givenUp (s : State) : GivenUpF .fault s (laneOrder s) := clearResume_throwOff_f .fault s

theorem laneOrder_idle {s : State} (h : ¬ thrownOn s .f) : (laneOrder s).seq.f = s.seq.f := by
  rw [(laneOrder_givenUp s).seq_eq]
  exact givenUp_idle h .fault

theorem laneOrder_thrown {s : State} (h : thrownOn s .f) : (laneOrder s).seq.f.cause = .fault ∧
    (laneOrder s).seq.f.imp = false ∧ (laneOrder s).stopDwell = none := by
  obtain ⟨hcause, himp, -⟩ := givenUp_thrown h .fault
  rw [(laneOrder_givenUp s).seq_eq]
  exact ⟨hcause, himp, (laneOrder_givenUp s).dwell_of_thrown h⟩

theorem laneOrder_lane_get {s : State} (h : (s.lane.get l).state ≠ .run) :
    (laneOrder s).lane.get l = s.lane.get l := by
  rw [(laneOrder_givenUp s).lane_eq]
  split
  · exact cutLanes_get_ne h
  · rfl

theorem enterFaulted_lane_get :
    (enterFaulted l broke low out s).lane.get l = faultedLane (s.lane.get l) := by
  have hraised : (faultRaised l broke low out s).lane.get l = faultedLane (s.lane.get l) := by
    rw [faultRaised_lane, PerLane.get_set_self]
  rw [enterFaulted_order]
  split
  · exact hraised
  · rw [laneOrder_lane_get l (by rw [hraised]; exact nofun), hraised]

/-- R134, R135: the faults, the order to F, and nothing else. -/
theorem laneFaults_enterFaulted :
    LaneFaults l broke low out (s.lane.get l) s (enterFaulted l broke low out s) := by
  have hframe : { enterFaulted l broke low out s with
      lane := s.lane, faults := s.faults, seq := s.seq, stopDwell := s.stopDwell, resume := s.resume } = s := by
    simp
  refine ⟨enterFaulted_lane_get l broke low out s, fun hfreeze => ?_, fun hspans => ?_, fun hspans => ?_, hframe⟩
  · rw [enterFaulted_faults, faultRaised_flags l broke low out s hfreeze]
  · rw [enterFaulted_order, if_pos hspans]
    refine ⟨faultRaised_seq l broke low out s, by simp [faultRaised], by simp [faultRaised], fun m hm => ?_⟩
    rw [faultRaised_lane, PerLane.get_set_ne _ _ hm]
  · rw [enterFaulted_order, if_neg hspans]
    have hseq := faultRaised_seq l broke low out s
    have hon (h : thrownOn s .f) : thrownOn (faultRaised l broke low out s) .f := by rw [thrownOn, hseq]; exact h
    refine ⟨(laneOrder_givenUp _).resume_eq, ?_, fun hidle => ?_, fun hthrown => laneOrder_thrown (hon hthrown)⟩
    · rw [(laneOrder_givenUp _).seq_eq, hseq]
      rfl
    · rw [laneOrder_idle (not_thrownOn_iff.2 (by rw [hseq]; exact hidle)), hseq]

end

/-- A fault of the lane does not tell what the lane held before. -/
theorem laneFaults_of_setLane {l : Lane} {broke low out : Bool} {x y : LaneCtl} {s t : State}
    (h : LaneFaults l broke low out y (s.setLane l x) t) : LaneFaults l broke low out y s t := by
  obtain ⟨hlane, hflags, hfree, hspans, hrest⟩ := h
  refine ⟨hlane, hflags, fun hnone => ?_, hspans, congrArg (fun u => { u with lane := s.lane }) hrest⟩
  obtain ⟨hseq, hresume, hdwell, hothers⟩ := hfree hnone
  refine ⟨hseq, hresume, hdwell, fun m hm => ?_⟩
  rw [hothers m hm, setLane_lane, PerLane.get_set_ne _ _ hm]

/-! ## One step (R128, R131, R132, R134) -/

section
variable {l : Lane} {s : State}

/-- R119: the pulse goes out on the drive of the lane. -/
theorem laneStepped_of_drive {d : Drive} (h : (s.items.lane.get l).drive = some d) : laneStepped l s = { s with
    free := s.free + 1
    drives := s.drives.set d { s.drives.get d with pulses := (s.drives.get d).pulses + 1 } }.setLane l
      (stepCounts s.free (s.lane.get l)) := by
  have hdrive : (({ s.setLane l (stepCounts s.free (s.lane.get l)) with
      free := s.free + 1 } : State).items.lane.get l).drive = some d := h
  rw [laneStepped, pulseOut, hdrive]
  rfl

theorem laneStep_noFoil (h : (s.lane.get l).foil = 0) : laneStep l s = enterFaulted l false false true s := by
  rw [laneStep_eq, if_pos h]

/-- R131: a step that keeps the lane from FAULTED raises FOIL_LOW at the threshold. -/
theorem laneStep_kept (hfoil : (s.lane.get l).foil ≠ 0) (hlast : (s.lane.get l).foil ≠ 1)
    (hmotion : (s.lane.get l).motion + 1 ≤ (s.items.lane.get l).window) : laneStep l s =
      raiseIf (lowNext (s.items.lane.get l) (s.lane.get l))
        ⟨.foilLow, .lane l, none, (s.items.lane.get l).low⟩ (laneStepped l s) := by
  have hnot : (decide ((s.items.lane.get l).window < (stepCounts s.free (s.lane.get l)).motion) ||
      (stepCounts s.free (s.lane.get l)).foil == 0) = false := by
    simp only [stepCounts, Bool.or_eq_false_iff, decide_eq_false_iff_not, beq_eq_false_iff_ne]
    omega
  rw [laneStep_eq, if_neg hfoil, hnot, if_neg (by simp)]
  cases hlow : lowNext (s.items.lane.get l) (s.lane.get l) with
  | false => rfl
  | true =>
    have hat : (stepCounts s.free (s.lane.get l)).foil = (s.items.lane.get l).low := by
      simp only [lowNext, Bool.and_eq_true, beq_iff_eq] at hlow
      simp only [stepCounts]
      omega
    rw [hat]

/-- R132, R134: a step past the motion window, or the last of the roll. -/
theorem laneStep_faults (hfoil : (s.lane.get l).foil ≠ 0)
    (hend : (s.items.lane.get l).window < (s.lane.get l).motion + 1 ∨ (s.lane.get l).foil = 1) :
    LaneFaults l (decide ((s.items.lane.get l).window < (s.lane.get l).motion + 1))
      (lowNext (s.items.lane.get l) (s.lane.get l)) ((s.lane.get l).foil == 1)
      (stepCounts s.free (s.lane.get l)) (laneStepped l s) (laneStep l s) := by
  have hout : ((stepCounts s.free (s.lane.get l)).foil == 0) = ((s.lane.get l).foil == 1) := by
    rw [Bool.eq_iff_iff, beq_iff_eq, beq_iff_eq]
    simp only [stepCounts]
    omega
  have hlane : (laneStepped l s).lane.get l = stepCounts s.free (s.lane.get l) := by
    rw [laneStepped_lane, PerLane.get_set_self]
  have hfaults := laneFaults_enterFaulted l (decide ((s.items.lane.get l).window < (s.lane.get l).motion + 1))
    (lowNext (s.items.lane.get l) (s.lane.get l)) ((s.lane.get l).foil == 1) (laneStepped l s)
  rw [hlane] at hfaults
  rw [laneStep_eq, if_neg hfoil, hout, if_pos (by simpa [stepCounts] using hend)]
  exact hfaults

end

/-! ## Motion pulses and the check timer (R133, R141) -/

section
variable {l : Lane} {s : State} {due : Nat}

theorem exec_motionPulse (l : Lane) (s : State) :
    exec (.motionPulse l) s = .next (s.setLane l (takeMotion (s.lane.get l))) := rfl

theorem checkExpiry_of_check (hx : (s.lane.get l).state = .check) (hdue : (s.lane.get l).checkTimer = some due) :
    checkExpiry l s = checkStep l due (s.reachTime due) := by
  rw [checkExpiry, hdue]
  exact if_pos hx

/-- R141: a check whose timer expired, with the timer set for the step after. -/
def checkTimed (l : Lane) (due : Nat) (s : State) : State :=
  { s with now := max s.now due }.setLane l
    { s.lane.get l with checkTimer := some (due + (s.lane.get l).checkEvery) }

theorem checkTimed_lane_get : (checkTimed l due s).lane.get l =
    { s.lane.get l with checkTimer := some (due + (s.lane.get l).checkEvery) } := by
  rw [checkTimed, setLane_lane, PerLane.get_set_self]

/-- R128: a step of a check counts there and not in the revolution. -/
theorem stepCounts_check {x : LaneCtl} (hx : x.state = .check) (hruns : x.runSteps < 65535) (free : Nat) :
    stepCounts free x = { x with
      foil := x.foil - 1, motion := x.motion + 1, runSteps := x.runSteps + 1,
      check := { x.check with steps := x.check.steps + 1 } } := by
  simp [stepCounts, hx, nextRunSteps, hruns]

/-- R141: the step of a check with steps left. -/
theorem exec_checkTimerExpiry_step (hx : (s.lane.get l).state = .check)
    (hdue : (s.lane.get l).checkTimer = some due) (hleft : (s.lane.get l).check.steps < (s.lane.get l).checkSteps) :
    exec (.checkTimerExpiry l) s = .next (laneStep l (checkTimed l due s)) := by
  refine congrArg Host.Outcome.next ?_
  rw [checkExpiry_of_check hx hdue]
  exact if_pos hleft

theorem exec_checkTimerExpiry_end (hx : (s.lane.get l).state = .check)
    (hdue : (s.lane.get l).checkTimer = some due) (hdone : (s.lane.get l).checkSteps ≤ (s.lane.get l).check.steps) :
    exec (.checkTimerExpiry l) s =
      .next ({ s with now := max s.now due }.setLane l (endCheck (s.lane.get l))) := by
  refine congrArg Host.Outcome.next ?_
  rw [checkExpiry_of_check hx hdue]
  exact if_neg (by rw [not_lt]; exact hdone)

end

/-- Settles O48: the timer's step is one step of the lane, with its timer already set on. -/
theorem motionAndCheckTimer : Obligations.MotionAndCheckTimer := by
  intro l s x it
  refine ⟨fun hx => ?_, fun hx => ?_, fun hnone => ?_, fun due hx hdue => exec_checkTimerExpiry_end hx hdue,
    fun due d hx hdue hleft hdrive hfoil hruns => ?steps, fun due hx hdue hleft hfoil => ?noFoil⟩
  · rw [exec_motionPulse, takeMotion, if_neg hx]
  · rw [exec_motionPulse, takeMotion, if_pos hx]
  · refine congrArg Host.Outcome.next ?_
    have htimer : (s.lane.get l).checkTimer = none := hnone
    rw [checkExpiry, htimer]
  case steps =>
    intro y u broke low
    have hexec := exec_checkTimerExpiry_step hx hdue hleft
    have hat : (checkTimed l due s).lane.get l = { x with checkTimer := some (due + x.checkEvery) } :=
      checkTimed_lane_get
    have hcounts : stepCounts s.free ((checkTimed l due s).lane.get l) = y := by
      rw [hat]
      exact stepCounts_check (x := { x with checkTimer := some (due + x.checkEvery) }) hx hruns s.free
    have hstepped : laneStepped l (checkTimed l due s) = u := by
      have hdriven := laneStepped_of_drive (s := checkTimed l due s) hdrive
      rw [hdriven, show (checkTimed l due s).free = s.free from rfl, hcounts]
      simp [checkTimed, u, State.setLane]
    have hlow : lowNext ((checkTimed l due s).items.lane.get l) ((checkTimed l due s).lane.get l) = low := by
      rw [hat]
      exact Bool.and_comm _ _
    refine ⟨fun hbroke hlast => ?_, fun hend => ⟨_, hexec, ?_⟩⟩
    · have hkept := laneStep_kept (l := l) (s := checkTimed l due s) (by rw [hat]; exact hfoil)
        (by rw [hat]; exact hlast) (by rw [hat]; exact not_lt.1 (of_decide_eq_false hbroke))
      rw [hexec, hkept, hlow, hstepped]
      rfl
    · have hfaults := laneStep_faults (l := l) (s := checkTimed l due s) (by rw [hat]; exact hfoil)
        (by rw [hat]; exact hend.imp_left of_decide_eq_true)
      rw [hlow, hstepped, show (checkTimed l due s).free = s.free from rfl, hcounts, hat] at hfaults
      exact hfaults
  case noFoil =>
    have hat : (checkTimed l due s).lane.get l = { x with checkTimer := some (due + x.checkEvery) } :=
      checkTimed_lane_get
    have hfaults := laneFaults_enterFaulted l false false true (checkTimed l due s)
    rw [hat] at hfaults
    refine ⟨_, exec_checkTimerExpiry_step hx hdue hleft, ?_⟩
    rw [laneStep_noFoil (by rw [hat]; exact hfoil)]
    exact laneFaults_of_setLane hfaults

end Sys2Proof.Proofs
end

section
/-! The steps of a forward count in RUN (R127, R128, R131, R132, R134). -/
namespace Sys2Proof.Proofs

open Sys2Proof.Machine Sys2Proof.Safety

/-! ## Steps that raise nothing -/

/-- R128: a lane in RUN after `n` more steps. -/
def countsTaken (n : Nat) (x : LaneCtl) : LaneCtl :=
  { x with foil := x.foil - n, motion := x.motion + n, runSteps := x.runSteps + n, tally := x.tally + n }

/-- R119, R128: a state after `n` steps of a lane on its drive. -/
def stepsTaken (l : Lane) (d : Drive) (n : Nat) (s : State) : State :=
  { s with
    free := s.free + n
    drives := s.drives.set d { s.drives.get d with pulses := (s.drives.get d).pulses + n } }.setLane l
      (countsTaken n (s.lane.get l))

/-- A lane in RUN with a drive, whose counters have room for `n` steps. -/
structure Running (l : Lane) (d : Drive) (n : Nat) (s : State) : Prop where
  state : (s.lane.get l).state = .run
  drive : (s.items.lane.get l).drive = some d
  runSteps : (s.lane.get l).runSteps + n ≤ 65535
  tally : (s.lane.get l).tally + n ≤ 16777215

/-- R131, R132, R134: the `n`-th step of a count leaves foil, stays in the motion window and does not bring the
foil to the threshold. -/
def StepQuiet (it : LaneItems) (x : LaneCtl) (n : Nat) : Prop :=
  n < x.foil ∧ x.motion + n ≤ it.window ∧ (it.low = 0 ∨ x.foil ≠ it.low + n)

section
variable {l : Lane} {d : Drive} {n : Nat} {s : State}

theorem stepsTaken_zero (l : Lane) (d : Drive) (s : State) : stepsTaken l d 0 s = s := by
  have hlane : countsTaken 0 (s.lane.get l) = s.lane.get l := rfl
  have hdrive : { s.drives.get d with pulses := (s.drives.get d).pulses + 0 } = s.drives.get d := rfl
  rw [stepsTaken, hlane, hdrive, PerDrive.set_get_self]
  simp [State.setLane]

theorem stepsTaken_lane_get (l : Lane) (d : Drive) (n : Nat) (s : State) :
    (stepsTaken l d n s).lane.get l = countsTaken n (s.lane.get l) := by
  rw [stepsTaken, setLane_lane, PerLane.get_set_self]

theorem lowNext_countsTaken (it : LaneItems) {x : LaneCtl} (hfoil : n < x.foil) :
    lowNext it (countsTaken n x) = (it.low != 0 && x.foil == it.low + (n + 1)) := by
  have hat : ((countsTaken n x).foil == it.low + 1) = (x.foil == it.low + (n + 1)) := by
    rw [Bool.eq_iff_iff, beq_iff_eq, beq_iff_eq]
    simp only [countsTaken]
    omega
  rw [lowNext, hat, Bool.and_comm]

/-- R128: one more step counted. -/
theorem laneStepped_stepsTaken (h : Running l d (n + 1) s) :
    laneStepped l (stepsTaken l d n s) = stepsTaken l d (n + 1) s := by
  obtain ⟨hstate, hdrive, hruns, htally⟩ := h
  have hcounts : stepCounts (s.free + n) (countsTaken n (s.lane.get l)) = countsTaken (n + 1) (s.lane.get l) := by
    have hr : (s.lane.get l).runSteps + n < 65535 := by omega
    have ht : (s.lane.get l).tally + n < 16777215 := by omega
    simp [stepCounts, countsTaken, hstate, nextRunSteps, nextTally, hr, ht, Nat.sub_sub, Nat.add_assoc]
  have hdriven := laneStepped_of_drive (s := stepsTaken l d n s) hdrive
  rw [hdriven, stepsTaken_lane_get, show (stepsTaken l d n s).free = s.free + n from rfl, hcounts]
  simp [stepsTaken, State.setLane, Nat.add_assoc]

theorem running_le {m : Nat} (h : Running l d m s) (hn : n ≤ m) : Running l d n s :=
  ⟨h.state, h.drive, by have := h.runSteps; omega, by have := h.tally; omega⟩

/-- R131: a step that leaves the lane in RUN. -/
theorem laneStep_stepsTaken (h : Running l d (n + 1) s) (hfoil : n + 1 < (s.lane.get l).foil)
    (hmotion : (s.lane.get l).motion + (n + 1) ≤ (s.items.lane.get l).window) :
    laneStep l (stepsTaken l d n s) =
      raiseIf ((s.items.lane.get l).low != 0 && (s.lane.get l).foil == (s.items.lane.get l).low + (n + 1))
        ⟨.foilLow, .lane l, none, (s.items.lane.get l).low⟩ (stepsTaken l d (n + 1) s) := by
  have hkept := laneStep_kept (l := l) (s := stepsTaken l d n s)
    (by rw [stepsTaken_lane_get]; simp only [countsTaken]; omega)
    (by rw [stepsTaken_lane_get]; simp only [countsTaken]; omega)
    (by rw [stepsTaken_lane_get]; exact hmotion)
  rw [laneStepped_stepsTaken h, stepsTaken_lane_get, lowNext_countsTaken _ (by omega)] at hkept
  exact hkept

/-- R132, R134: the `n + 1`st step brings the lane to FAULTED. -/
theorem laneFaults_stepsTaken (h : Running l d (n + 1) s) (hfoil : n < (s.lane.get l).foil)
    (hend : (s.items.lane.get l).window < (s.lane.get l).motion + (n + 1) ∨ (s.lane.get l).foil = n + 1) :
    LaneFaults l (decide ((s.items.lane.get l).window < (s.lane.get l).motion + (n + 1)))
      ((s.items.lane.get l).low != 0 && (s.lane.get l).foil == (s.items.lane.get l).low + (n + 1))
      ((s.lane.get l).foil == n + 1) (countsTaken (n + 1) (s.lane.get l)) (stepsTaken l d (n + 1) s)
      (laneStep l (stepsTaken l d n s)) := by
  have hlast : ((countsTaken n (s.lane.get l)).foil == 1) = ((s.lane.get l).foil == n + 1) := by
    rw [Bool.eq_iff_iff, beq_iff_eq, beq_iff_eq]
    simp only [countsTaken]
    omega
  have hstepped := laneStepped_stepsTaken h
  have hcounts : stepCounts (stepsTaken l d n s).free (countsTaken n (s.lane.get l)) =
      countsTaken (n + 1) (s.lane.get l) := by
    rw [← stepsTaken_lane_get l d (n + 1), ← hstepped, laneStepped_lane, PerLane.get_set_self,
      stepsTaken_lane_get]
  have hfaults := laneStep_faults (l := l) (s := stepsTaken l d n s)
    (by rw [stepsTaken_lane_get]; simp only [countsTaken]; omega)
    (by rw [stepsTaken_lane_get]; exact hend.imp_right fun hf => by simp only [countsTaken]; omega)
  rw [hstepped, stepsTaken_lane_get, lowNext_countsTaken _ hfoil, hlast, hcounts] at hfaults
  exact hfaults

/-! ## The stepping of a count -/

theorem laneSteps_of_not_run (h : (s.lane.get l).state ≠ .run) (k : Nat) : laneSteps l k s = s := by
  cases k with
  | zero => rfl
  | succ k => exact if_neg h

/-- R128: a count goes on after a step that raises no FOIL_LOW. -/
theorem laneSteps_next (hx : (s.lane.get l).state = .run)
    (hlow : lowNext (s.items.lane.get l) (s.lane.get l) = false) (k : Nat) :
    laneSteps l (k + 1) s = laneSteps l k (laneStep l s) := by
  rw [laneSteps, if_pos hx, hlow]
  rfl

/-- R128: a step that faults the lane is the count's last. -/
theorem laneSteps_of_faulted (hx : (s.lane.get l).state = .run)
    (hfault : ((laneStep l s).lane.get l).state = .faulted) (k : Nat) :
    laneSteps l (k + 1) s = laneStep l s := by
  cases hlow : lowNext (s.items.lane.get l) (s.lane.get l) with
  | true => exact laneSteps_low l k s hx hlow
  | false => rw [laneSteps_next hx hlow, laneSteps_of_not_run (by rw [hfault]; exact nofun)]

/-- R127, R128: as long as no step raises a fault, a count's steps come one after the other. -/
theorem laneSteps_quiet (h : Running l d n s)
    (hquiet : ∀ j, 1 ≤ j → j ≤ n → StepQuiet (s.items.lane.get l) (s.lane.get l) j) (k : Nat) :
    laneSteps l (n + k) s = laneSteps l k (stepsTaken l d n s) := by
  induction n generalizing k with
  | zero => rw [stepsTaken_zero, Nat.zero_add]
  | succ n ih =>
    obtain ⟨hfoil, hmotion, hlow⟩ := hquiet (n + 1) (by omega) le_rfl
    have hnext : ((s.items.lane.get l).low != 0 &&
        (s.lane.get l).foil == (s.items.lane.get l).low + (n + 1)) = false := by
      rw [Bool.and_eq_false_iff, bne_eq_false_iff_eq, beq_eq_false_iff_ne]
      exact hlow
    have hbefore := ih (running_le h (by omega)) (fun j hj hjn => hquiet j hj (by omega)) (k + 1)
    rw [show n + 1 + k = n + (k + 1) by omega, hbefore, laneSteps_next, laneStep_stepsTaken h hfoil hmotion, hnext]
    · rfl
    · rw [stepsTaken_lane_get]; exact h.state
    · rw [stepsTaken_lane_get]; exact (lowNext_countsTaken _ (by omega)).trans hnext

/-- R131: FOIL_LOW at the `n + 1`st step, the count's last. -/
theorem laneSteps_foilLow (h : Running l d (n + 1) s)
    (hquiet : ∀ j, 1 ≤ j → j ≤ n → StepQuiet (s.items.lane.get l) (s.lane.get l) j)
    (hlow : (s.items.lane.get l).low ≠ 0) (hfoil : (s.lane.get l).foil = (s.items.lane.get l).low + (n + 1))
    (hmotion : (s.lane.get l).motion + (n + 1) ≤ (s.items.lane.get l).window) (k : Nat) :
    laneSteps l (n + (k + 1)) s =
      raise ⟨.foilLow, .lane l, none, (s.items.lane.get l).low⟩ (stepsTaken l d (n + 1) s) := by
  have hnext : ((s.items.lane.get l).low != 0 &&
      (s.lane.get l).foil == (s.items.lane.get l).low + (n + 1)) = true := by
    simp [hlow, hfoil]
  rw [laneSteps_quiet (running_le h (by omega)) hquiet, laneSteps_low, laneStep_stepsTaken h (by omega) hmotion,
    hnext]
  · rfl
  · rw [stepsTaken_lane_get]; exact h.state
  · rw [stepsTaken_lane_get]; exact (lowNext_countsTaken _ (by omega)).trans hnext

/-- R132, R134: a fault at the `n + 1`st step, the count's last. -/
theorem laneSteps_faults (h : Running l d (n + 1) s)
    (hquiet : ∀ j, 1 ≤ j → j ≤ n → StepQuiet (s.items.lane.get l) (s.lane.get l) j)
    (hfoil : n < (s.lane.get l).foil)
    (hend : (s.items.lane.get l).window < (s.lane.get l).motion + (n + 1) ∨ (s.lane.get l).foil = n + 1)
    (k : Nat) :
    LaneFaults l (decide ((s.items.lane.get l).window < (s.lane.get l).motion + (n + 1)))
      ((s.items.lane.get l).low != 0 && (s.lane.get l).foil == (s.items.lane.get l).low + (n + 1))
      ((s.lane.get l).foil == n + 1) (countsTaken (n + 1) (s.lane.get l)) (stepsTaken l d (n + 1) s)
      (laneSteps l (n + (k + 1)) s) := by
  have hfaults := laneFaults_stepsTaken h hfoil hend
  rw [laneSteps_quiet (running_le h (by omega)) hquiet, laneSteps_of_faulted]
  · exact hfaults
  · rw [stepsTaken_lane_get]; exact h.state
  · rw [hfaults.1]

/-- R134: a step due with no foil. -/
theorem laneSteps_noFoil (hx : (s.lane.get l).state = .run) (hfoil : (s.lane.get l).foil = 0) (k : Nat) :
    LaneFaults l false false true (s.lane.get l) s (laneSteps l (k + 1) s) := by
  have hfaults := laneFaults_enterFaulted l false false true s
  rw [laneSteps_of_faulted hx, laneStep_noFoil hfoil]
  · exact hfaults
  · rw [laneStep_noFoil hfoil, hfaults.1]

/-! ## The lane after its stepping -/

/-- R128, R135: a step leaves a lane in its state or faults it. -/
theorem laneStep_state (l : Lane) (s : State) : ((laneStep l s).lane.get l).state = (s.lane.get l).state ∨
    ((laneStep l s).lane.get l).state = .faulted := by
  by_cases hfoil : (s.lane.get l).foil = 0
  · rw [laneStep_noFoil hfoil, enterFaulted_lane_get]
    exact .inr rfl
  by_cases hend : (s.items.lane.get l).window < (s.lane.get l).motion + 1 ∨ (s.lane.get l).foil = 1
  · rw [(laneStep_faults hfoil hend).1]
    exact .inr rfl
  · rw [not_or, not_lt] at hend
    rw [laneStep_kept hfoil hend.2 hend.1]
    simp only [raiseIf_frame, laneStepped_lane, PerLane.get_set_self]
    exact .inl rfl

theorem laneSteps_state (hx : (s.lane.get l).state = .run ∨ (s.lane.get l).state = .faulted) (k : Nat) :
    ((laneSteps l k s).lane.get l).state = .run ∨ ((laneSteps l k s).lane.get l).state = .faulted := by
  induction k generalizing s with
  | zero => exact hx
  | succ k ih =>
    have hstep : ((laneStep l s).lane.get l).state = .run ∨ ((laneStep l s).lane.get l).state = .faulted := by
      rcases laneStep_state l s with hsame | hfault
      · rw [hsame]; exact hx
      · exact .inr hfault
    unfold laneSteps
    (repeat' split)
    · exact hstep
    · exact ih hstep
    · exact hx

end

end Sys2Proof.Proofs
end

section
/-! A run starts in its list, steps by the ratio, and ends outside its spans on four steps (R126 to R129). -/
namespace Sys2Proof.Proofs

open Sys2Proof.Machine Sys2Proof.Safety

/-! ## A count by the state of its lane (R126, R127) -/

theorem span_has_iff {r : Span} {p : Nat} : r.has p = true ↔ r.start ≤ p ∧ p < r.stop := by simp [Span.has]

theorem insideAny_iff {runs : List Span} {p : Nat} :
    insideAny runs p = true ↔ ∃ r ∈ runs, r.start ≤ p ∧ p < r.stop := by
  simp only [insideAny, List.any_eq_true, span_has_iff]

/-- R126: the run of a count is the first of the list that holds it. -/
theorem find_run {before after : List Span} {r : Span} {p : Nat} (hr : r.start ≤ p ∧ p < r.stop)
    (hbefore : ∀ b ∈ before, ¬ (b.start ≤ p ∧ p < b.stop)) :
    (before ++ r :: after).find? (·.has p) = some r := by
  refine List.find?_eq_some_iff_append.2 ⟨span_has_iff.2 hr, before, after, rfl, fun b hb => ?_⟩
  rw [Bool.not_eq_true', Bool.eq_false_iff]
  exact fun h => hbefore b hb (span_has_iff.1 h)

section
variable {l : Lane} {p : Nat} {s : State}

theorem laneCount_run (hx : (s.lane.get l).state = .run) : laneCount l p s = Machine.laneRun l p s := by
  simp only [laneCount, hx]

/-- Neither in DWELL nor in RUN. -/
theorem laneCount_other (hdwell : (s.lane.get l).state ≠ .dwell) (hrun : (s.lane.get l).state ≠ .run) :
    laneCount l p s = s := by
  cases hx : (s.lane.get l).state with
  | dwell => exact absurd hx hdwell
  | run => exact absurd hx hrun
  | disabled | parked | check | faulted => simp only [laneCount, hx]

theorem laneCount_held (hx : (s.lane.get l).state = .dwell) (hhold : (s.lane.get l).hold = true) :
    laneCount l p s = if insideAny (s.lane.get l).runList p then s
      else s.setLane l { s.lane.get l with hold := false } := by
  simp only [laneCount, hx, hhold, if_true]

/-- R126: with the entry hold clear a run starts with F ON at a count inside a run of the list. -/
theorem laneCount_dwell (hx : (s.lane.get l).state = .dwell) (hhold : (s.lane.get l).hold = false) :
    laneCount l p s = if s.seq.f.state = .on then
      match (s.lane.get l).runList.find? (·.has p) with
      | some r => Machine.laneRun l p (s.setLane l (startRun (s.items.lane.get l).ratio r (s.lane.get l)))
      | none => s
    else s := by
  simp only [laneCount, hx, hhold]
  rfl

/-! ## The end of a run (R129) -/

theorem runEnds_iff {x : LaneCtl} : runEnds x p = true ↔ x.state = .run ∧
    (∀ r, x.run = some r → ¬ (r.start ≤ p ∧ p < r.stop)) ∧
    (∀ r ∈ x.runList, ¬ (r.start ≤ p ∧ p < r.stop)) ∧ x.runSteps % 4 = 0 := by
  have hown : x.run.any (·.has p) = false ↔ ∀ r, x.run = some r → ¬ (r.start ≤ p ∧ p < r.stop) := by
    cases x.run <;> simp [← span_has_iff]
  have hlist : insideAny x.runList p = false ↔ ∀ r ∈ x.runList, ¬ (r.start ≤ p ∧ p < r.stop) := by
    rw [← Bool.not_eq_true, insideAny_iff]
    simp
  simp only [runEnds, Bool.and_eq_true, Bool.not_eq_true', beq_iff_eq, hown, hlist, and_assoc]

theorem laneRun_ends (h : runEnds ((runCount l s).lane.get l) p = true) :
    Machine.laneRun l p s = (runCount l s).setLane l (endRun ((runCount l s).lane.get l)) := if_pos h

theorem laneRun_goesOn (h : ¬ runEnds ((runCount l s).lane.get l) p = true) :
    Machine.laneRun l p s = runCount l s := if_neg h

theorem runCount_state (hx : (s.lane.get l).state = .run) : ((runCount l s).lane.get l).state = .run ∨
    ((runCount l s).lane.get l).state = .faulted := by
  refine laneSteps_state (.inl ?_) _
  rw [setLane_lane, PerLane.get_set_self]
  exact hx

end

/-! ## The parts of O49 -/

/-- R126. -/
theorem laneCount_of_dwell (l : Lane) (p : Nat) (s : State) :
    let x := s.lane.get l
    let inside := fun r : Span => r.start ≤ p ∧ p < r.stop
    x.state = .dwell →
    (∀ r before after, x.runList = before ++ r :: after → inside r → (∀ b ∈ before, ¬ inside b) →
      x.hold = false → s.seq.f.state = .on → laneCount l p s =
        Machine.laneRun l p (s.setLane l (startRun (s.items.lane.get l).ratio r x))) ∧
    ((∀ r ∈ x.runList, ¬ inside r) → x.hold = false → laneCount l p s = s) ∧
    ((∀ r ∈ x.runList, ¬ inside r) → x.hold = true →
      laneCount l p s = s.setLane l { x with hold := false }) ∧
    ((∃ r ∈ x.runList, inside r) → x.hold = true → laneCount l p s = s) ∧
    (s.seq.f.state ≠ .on → x.hold = false → laneCount l p s = s) := by
  intro x inside hx
  refine ⟨fun r before after hlist hr hbefore hhold hon => ?_, fun hout hhold => ?_, fun hout hhold => ?_,
    fun hin hhold => ?_, fun hoff hhold => ?_⟩
  · have hfind : (s.lane.get l).runList.find? (·.has p) = some r := by
      rw [show (s.lane.get l).runList = _ from hlist]
      exact find_run hr hbefore
    rw [laneCount_dwell hx hhold, if_pos hon, hfind]
  · have hfind : (s.lane.get l).runList.find? (·.has p) = none :=
      List.find?_eq_none.2 fun r hr h => hout r hr (span_has_iff.1 h)
    rw [laneCount_dwell hx hhold, hfind]
    exact ite_self s
  · rw [laneCount_held hx hhold, if_neg]
    exact fun h => have ⟨r, hr, hin⟩ := insideAny_iff.1 h; hout r hr hin
  · rw [laneCount_held hx hhold, if_pos (insideAny_iff.2 hin)]
  · rw [laneCount_dwell hx hhold, if_neg hoff]

/-- R127: the lane with the fraction that a count keeps. -/
def fractioned (l : Lane) (s : State) : State :=
  s.setLane l { s.lane.get l with acc := ((s.lane.get l).acc + (s.lane.get l).ratioNow) % 65536 }

theorem fractioned_lane_get (l : Lane) (s : State) : (fractioned l s).lane.get l =
    { s.lane.get l with acc := ((s.lane.get l).acc + (s.lane.get l).ratioNow) % 65536 } := by
  rw [fractioned, setLane_lane, PerLane.get_set_self]

/-- R127: a count steps as often as the ratio gives whole units. -/
theorem runCount_eq (l : Lane) (s : State) : runCount l s =
    laneSteps l (((s.lane.get l).acc + (s.lane.get l).ratioNow) / 65536) (fractioned l s) := rfl

theorem stepsTaken_fractioned (l : Lane) (d : Drive) (n : Nat) (s : State) :
    stepsTaken l d n (fractioned l s) = { s with
      free := s.free + n
      drives := s.drives.set d { s.drives.get d with pulses := (s.drives.get d).pulses + n } }.setLane l
        { s.lane.get l with
          acc := ((s.lane.get l).acc + (s.lane.get l).ratioNow) % 65536, foil := (s.lane.get l).foil - n,
          motion := (s.lane.get l).motion + n, runSteps := (s.lane.get l).runSteps + n,
          tally := (s.lane.get l).tally + n } := by
  rw [stepsTaken, fractioned_lane_get]
  simp [fractioned, State.setLane, countsTaken]

theorem running_fractioned {l : Lane} {d : Drive} {n : Nat} {s : State} (h : Running l d n s) :
    Running l d n (fractioned l s) := by
  obtain ⟨hstate, hdrive, hruns, htally⟩ := h
  exact ⟨by rw [fractioned_lane_get]; exact hstate, hdrive, by rw [fractioned_lane_get]; exact hruns,
    by rw [fractioned_lane_get]; exact htally⟩

/-- The steps of a count before one that empties the roll, passes the window or meets the threshold. -/
theorem stepQuiet_before {it : LaneItems} {x : LaneCtl} {n : Nat} (hfoil : n < x.foil)
    (hmotion : x.motion + n ≤ it.window) (hlow : it.low = 0 ∨ x.foil ≤ it.low ∨ it.low < x.foil - n) (j : Nat)
    (hj : 1 ≤ j) (hjn : j ≤ n) : StepQuiet it x j := ⟨by omega, by omega, by omega⟩

/-- Settles O49: the count by the lane's state, its steps one by one, and the run-end test. -/
theorem runStartsAndStepsByRatio : Obligations.RunStartsAndStepsByRatio := by
  refine ⟨fun s => ⟨rfl, fun l q => laneCount_other⟩, fun l p s => laneCount_of_dwell l p s,
    fun l d s => ?steps, fun l p s => ?ends⟩
  case steps =>
    intro x it due stepped hx hdrive hruns htally
    have hrunning : Running l d due (fractioned l s) := running_fractioned ⟨hx, hdrive, hruns, htally⟩
    have hsteps : runCount l s = laneSteps l due (fractioned l s) := runCount_eq l s
    have hat := fractioned_lane_get l s
    have htaken (n : Nat) : stepsTaken l d n (fractioned l s) = stepped n := stepsTaken_fractioned l d n s
    have hcounts (n : Nat) : countsTaken n ((fractioned l s).lane.get l) = (stepped n).lane.get l := by
      rw [← htaken, stepsTaken_lane_get]
    have hquiet {n : Nat} (h : n = 0 ∨ n < x.foil ∧ x.motion + n ≤ it.window ∧
        (it.low = 0 ∨ x.foil ≤ it.low ∨ it.low < x.foil - n)) (j : Nat) (hj : 1 ≤ j) (hjn : j ≤ n) :
        StepQuiet ((fractioned l s).items.lane.get l) ((fractioned l s).lane.get l) j := by
      obtain rfl | ⟨hfoil, hmotion, hlow⟩ := h
      · omega
      · rw [hat]
        exact stepQuiet_before (x := { x with acc := _ }) hfoil hmotion hlow j hj hjn
    refine ⟨fun hfoil hmotion hlow => ?_, fun n hn hdue hlow hfoil hmotion => ?_,
      fun n hn hdue hfoil hlow hend => ⟨_, rfl, ?_⟩, fun hfoil hdue => ⟨_, rfl, ?_⟩⟩
    · exact (laneSteps_quiet hrunning (hquiet (.inr ⟨hfoil, hmotion, hlow⟩)) 0).trans (htaken due)
    · obtain ⟨m, rfl⟩ := Nat.exists_eq_add_of_le' hn
      obtain ⟨k, hk⟩ := Nat.exists_eq_add_of_le hdue
      have hcut := laneSteps_foilLow (running_le hrunning hdue)
        (hquiet (.inr ⟨by omega, by omega, by omega⟩)) hlow (by rw [hat]; exact hfoil) (by rw [hat]; exact hmotion) k
      rw [hsteps, hk.trans (show m + 1 + k = m + (k + 1) by omega), hcut, htaken]
      rfl
    · obtain ⟨m, rfl⟩ := Nat.exists_eq_add_of_le' hn
      obtain ⟨k, hk⟩ := Nat.exists_eq_add_of_le hdue
      have hfaults := laneSteps_faults (running_le hrunning hdue) (hquiet (by omega)) (by rw [hat]; exact hfoil)
        (by rw [hat]; exact (by omega : it.window < x.motion + (m + 1) ∨ x.foil = m + 1)) k
      rw [htaken, hcounts, hat] at hfaults
      rw [hsteps, hk.trans (show m + 1 + k = m + (k + 1) by omega)]
      exact hfaults
    · obtain ⟨k, hk⟩ := Nat.exists_eq_add_of_le' hdue
      have hfaults := laneSteps_noFoil (l := l) (s := fractioned l s) (by rw [hat]; exact hx)
        (by rw [hat]; exact hfoil) k
      have hstart : fractioned l s = stepped 0 := by rw [← htaken, stepsTaken_zero]
      rw [hsteps, hk, ← hstart]
      exact hfaults
  case ends =>
    intro u x ends
    have hends : ends ↔ runEnds x p = true := runEnds_iff.symm
    refine ⟨laneCount_run, fun h => ?_, fun h => laneRun_goesOn fun h' => h (hends.2 h'), fun hx => ?_⟩
    · rw [laneRun_ends (hends.1 h)]
      rfl
    · by_cases h : ends
      · exact .inr (.inr h.2.2.2)
      · have hstate := runCount_state (s := s) (l := l) hx
        rw [laneRun_goesOn fun h' => h (hends.2 h')]
        exact hstate.imp_right .inl

end Sys2Proof.Proofs
end
